-- ==== Sys2Proof/Word.lean ====
section
/-! DEFINITION. The plain widths of the ZX964: bytes, slots, lines, keys. -/

namespace Sys2Proof

/-- One byte. -/
abbrev Byte := BitVec 8
/-- One 8-byte word of a line (R13). -/
abbrev Word64 := BitVec 64
/-- One FP32 value (IEEE 754 binary32 bits). -/
abbrev F32 := BitVec 32
/-- One 32-byte message slot (R30). -/
abbrev Slot := BitVec 256
/-- One 128-byte line (R13). -/
abbrev LineBits := BitVec 1024

end Sys2Proof
end

