-- ==== Sys2Proof/Machine/SMap.lean ====
section
/-! DEFINITION. Sparse maps and byte memories as lists in one canonical form, and bit fields of numbers. -/

namespace Sys2Proof.Machine

/-- A sparse map from numbers: pairs with strictly rising keys. -/
abbrev SMap (α : Type) := List (Nat × α)

namespace SMap

variable {α β : Type}

/-- The value at a key, if listed. -/
def get? (m : SMap α) (k : Nat) : Option α :=
  match m with
  | [] => none
  | (a, v) :: r => if a = k then some v else get? r k

/-- The value at a key, or the default. -/
def getD (m : SMap α) (k : Nat) (d : α) : α := (get? m k).getD d

/-- Whether a key is listed. -/
def has (m : SMap α) (k : Nat) : Bool := (get? m k).isSome

/-- The map with key k holding v; keys stay strictly rising. -/
def put (m : SMap α) (k : Nat) (v : α) : SMap α :=
  match m with
  | [] => [(k, v)]
  | (a, w) :: r =>
    if k < a then (k, v) :: (a, w) :: r
    else if k = a then (k, v) :: r
    else (a, w) :: put r k v

/-- The map without key k. -/
def del (m : SMap α) (k : Nat) : SMap α :=
  match m with
  | [] => []
  | (a, w) :: r => if a = k then r else (a, w) :: del r k

/-- Write a value, listing nothing when it equals the default. -/
def setD [DecidableEq α] (m : SMap α) (k : Nat) (d v : α) : SMap α :=
  if v = d then del m k else put m k v

/-- Change the value at a listed key; other keys are unchanged. -/
def upd (m : SMap α) (k : Nat) (f : α → α) : SMap α :=
  match m with
  | [] => []
  | (a, w) :: r => if a = k then (a, f w) :: r else (a, w) :: upd r k f

/-- The listed keys, rising. -/
def keys (m : SMap α) : List Nat := m.map Prod.fst

/-- The listed values, in key order. -/
def vals (m : SMap α) : List α := m.map Prod.snd

/-- Keep the pairs that satisfy p. -/
def keep (m : SMap α) (p : Nat → α → Bool) : SMap α := m.filter (fun x => p x.1 x.2)

/-- Map every value. -/
def mapV (m : SMap α) (f : Nat → α → β) : SMap β := m.map (fun x => (x.1, f x.1 x.2))

/-- The number of pairs that satisfy p. -/
def count (m : SMap α) (p : Nat → α → Bool) : Nat := (keep m p).length

/-- The canonical form: keys strictly rise. -/
def wf (m : SMap α) : Bool :=
  match m with
  | [] => true
  | [_] => true
  | (a, _) :: (b, w) :: r => decide (a < b) && wf ((b, w) :: r)

end SMap

/-- An addressed RAM: (byte address, byte) pairs, addresses strictly rising, no zero byte listed (log entry 3). -/
abbrev Memory := List Host.Cell

namespace Memory

/-- What an unlisted address reads as (log entry 3). -/
def unlisted : Byte := 0

/-- One byte. -/
def readByte (m : Memory) (a : Nat) : Byte :=
  match m with
  | [] => unlisted
  | (b, v) :: r => if b = a then v else readByte r a

/-- n bytes from address a, little-endian, as a number. -/
def readNat (m : Memory) (a : Nat) : Nat → Nat
  | 0 => 0
  | n + 1 => (readByte m a).toNat + 256 * readNat m (a + 1) n

/-- The pairs that n bytes of v (little-endian) at address a list: none for a zero byte. -/
def cells (a v : Nat) : Nat → Memory
  | 0 => []
  | n + 1 =>
    if v % 256 = 0 then cells (a + 1) (v / 256) n
    else (a, BitVec.ofNat 8 v) :: cells (a + 1) (v / 256) n

/-- Write n bytes of v (little-endian) at address a. -/
def writeNat (m : Memory) (a n v : Nat) : Memory :=
  m.filter (fun c => decide (c.1 < a)) ++ cells a v n ++ m.filter (fun c => decide (a + n ≤ c.1))

/-- Clear n bytes at address a. -/
def clear (m : Memory) (a n : Nat) : Memory :=
  m.filter (fun c => decide (c.1 < a)) ++ m.filter (fun c => decide (a + n ≤ c.1))

/-- Write one byte. -/
def writeByte (m : Memory) (a : Nat) (v : Byte) : Memory := writeNat m a 1 v.toNat

/-- The canonical form: addresses strictly rise and no byte equals what an unlisted address reads as. -/
def wf (m : Memory) : Bool :=
  match m with
  | [] => true
  | [(_, v)] => decide (v ≠ unlisted)
  | (a, v) :: (b, w) :: r => decide (a < b) && decide (v ≠ unlisted) && wf ((b, w) :: r)

end Memory

/-- Bits [lo + len - 1 : lo] of a number. -/
def bits (v lo len : Nat) : Nat := (v >>> lo) % 2 ^ len

/-- Bit i of a number, as a Bool. -/
def bit (v i : Nat) : Bool := decide ((v >>> i) % 2 = 1)

/-- The number with bits [lo + len - 1 : lo] replaced by x. -/
def setBits (v lo len x : Nat) : Nat :=
  (v % 2 ^ lo) + (x % 2 ^ len) * 2 ^ lo + (v >>> (lo + len)) * 2 ^ (lo + len)

/-- A Bool as a number. -/
def b2n (b : Bool) : Nat := if b then 1 else 0

/-- The positions of the set bits of v below n, ascending. -/
def setBitList (v n : Nat) : List Nat := (List.range n).filter (bit v)

/-- Modular comparison of 32-bit counters ("Numbers and units", scope chapter). -/
def reached (count target : Nat) : Bool :=
  decide ((count + 2 ^ 32 - target % 2 ^ 32) % 2 ^ 32 < 2 ^ 31)

/-- Increment modulo 2^32 (R448, sequences and generations). -/
def inc32 (n : Nat) : Nat := (n + 1) % 2 ^ 32

/-- A fixed list of fields packed from bit 0 upward: (width in bits, value). -/
def pack : List (Nat × Nat) → Nat
  | [] => 0
  | (w, v) :: r => v % 2 ^ w + 2 ^ w * pack r

/-- Ceiling division. -/
def ceilDiv (a b : Nat) : Nat := (a + b - 1) / b

/-- Two's complement value of the low n bits. -/
def sint (v n : Nat) : Int := if v % 2 ^ n < 2 ^ (n - 1) then (v % 2 ^ n : Int) else (v % 2 ^ n : Int) - 2 ^ n

/-- The low n bits of an integer, as a number. -/
def ofInt (i : Int) (n : Nat) : Nat := (i % (2 ^ n : Int)).toNat

/-- Remove the first element that satisfies p. -/
def eraseFirst {α : Type} (l : List α) (p : α → Bool) : List α :=
  match l with
  | [] => []
  | x :: r => if p x then r else x :: eraseFirst r p

/-- Change the first element that satisfies p. -/
def updFirst {α : Type} (l : List α) (p : α → Bool) (f : α → α) : List α :=
  match l with
  | [] => []
  | x :: r => if p x then f x :: r else x :: updFirst r p f

end Sys2Proof.Machine
end

