-- ==== Sys2Proof/Machine/Codes.lean ====
section
/-! DEFINITION. Status, detail and opcode codes of the Rhati messages, and access errors. -/

namespace Sys2Proof.Machine

/-- Opcodes (02_transactions.md, "Opcodes"). -/
abbrev opEmpty : Nat := 0x00
abbrev opRdShared : Nat := 0x01
abbrev opRdOwn : Nat := 0x02
abbrev opRdNc : Nat := 0x03
abbrev opWrNc : Nat := 0x08
abbrev opWrStash : Nat := 0x09
abbrev opWbDirty : Nat := 0x0A
abbrev opEvictClean : Nat := 0x0B
abbrev opAtomic : Nat := 0x10
abbrev opFence : Nat := 0x18
abbrev opMilestone : Nat := 0x19
abbrev opSearch : Nat := 0x20
abbrev opHandoff : Nat := 0x21
abbrev opDoorbell : Nat := 0x22
abbrev opMgmt : Nat := 0x23
abbrev opSnpInv : Nat := 0x30
abbrev opSnpShare : Nat := 0x31
abbrev opStashFill : Nat := 0x32
abbrev opSnpResp : Nat := 0x38
abbrev opResp : Nat := 0x40
abbrev opRespData : Nat := 0x41
abbrev opTwMirror : Nat := 0x50
abbrev opTwMirrorAck : Nat := 0x51
abbrev opTwBeat : Nat := 0x52
abbrev opTwSuspect : Nat := 0x53
abbrev opTwConfirm : Nat := 0x54
abbrev opTwVerdict : Nat := 0x55
abbrev opTwServing : Nat := 0x56
abbrev opTwDetach : Nat := 0x57
abbrev opTwCatchup : Nat := 0x58

/-- Status codes (R442). -/
abbrev stOk : Nat := 0x0
abbrev stRetry : Nat := 0x1
abbrev stPoison : Nat := 0x2
abbrev stRevoked : Nat := 0x3
abbrev stDenied : Nat := 0x4
abbrev stNoRoute : Nat := 0x5
abbrev stTimeout : Nat := 0x6
abbrev stConflict : Nat := 0x7
abbrev stAtomicUnknown : Nat := 0x8
abbrev stDecodeError : Nat := 0x9
abbrev stPathLost : Nat := 0xA
abbrev stQuarantined : Nat := 0xB
abbrev stFatal : Nat := 0xC

/-- Detail codes (R444; tables of the owning chapters). -/
abbrev dNone : Nat := 0x00
abbrev dBadLength : Nat := 0x20
abbrev dLedgerMismatch : Nat := 0x21
abbrev dLedgerFull : Nat := 0x22
abbrev dLedgerPending : Nat := 0x23
abbrev dNotInLedger : Nat := 0x24
abbrev dTombstone : Nat := 0x25
abbrev dBehindFloor : Nat := 0x26
abbrev dRequestTimeout : Nat := 0x27
abbrev dPathDown : Nat := 0x28
abbrev dHostNotBound : Nat := 0x30
abbrev dNoComposition : Nat := 0x31
abbrev dPoliced : Nat := 0x32
abbrev dNotOwner : Nat := 0x40
abbrev dHostLost : Nat := 0x41
abbrev dCompositionFatal : Nat := 0x42
abbrev dHomeTimeout : Nat := 0x43
abbrev dPoolLost : Nat := 0x44
abbrev dVersionStale : Nat := 0x50
abbrev dVersionExhausted : Nat := 0x51
abbrev dVersionNotGreater : Nat := 0x52
abbrev dNotPublisher : Nat := 0x53
abbrev dSameVersion : Nat := 0x54
abbrev dStageLocked : Nat := 0x55
abbrev dVersionLine : Nat := 0x56
abbrev dBadHeader : Nat := 0x60
abbrev dTableEmpty : Nat := 0x61
abbrev dTableGeneration : Nat := 0x62
abbrev dTableRetired : Nat := 0x63
abbrev dStreamError : Nat := 0x64
abbrev dDataCheck : Nat := 0x65
abbrev dCodedTile : Nat := 0x66
abbrev dUncorrectable : Nat := 0x67
abbrev dNotContribution : Nat := 0x70
abbrev dNotMember : Nat := 0x71
abbrev dReduceAhead : Nat := 0x72
abbrev dSlotBroken : Nat := 0x73
abbrev dRoundTimeout : Nat := 0x74
abbrev dIndexRange : Nat := 0x75
abbrev dNotReady : Nat := 0x80
abbrev dArgRange : Nat := 0x81
abbrev dLaunchQueueFull : Nat := 0x82
abbrev dCoreNotGranted : Nat := 0x83
abbrev dAwaitTimeout : Nat := 0x84
abbrev dCoreReset : Nat := 0x85
abbrev dPoisonedIndex : Nat := 0x86
abbrev dRequestFailed : Nat := 0x87
abbrev dBadTile : Nat := 0x88
abbrev dBadLeg : Nat := 0x89
abbrev dLocalReserved : Nat := 0x8A
abbrev dNoPartition : Nat := 0x90
abbrev dUpdateDenied : Nat := 0x91
abbrev dEntryRange : Nat := 0x92
abbrev dBadPrefix : Nat := 0x93
abbrev dWalkExpired : Nat := 0x94
abbrev dSearchParity : Nat := 0x95
abbrev dPartitionBusy : Nat := 0x96
abbrev dRecordRange : Nat := 0xA0
abbrev dNotRecordOwner : Nat := 0xA1
abbrev dBadRange : Nat := 0xA2
abbrev dStaleGeneration : Nat := 0xA3
abbrev dWrongState : Nat := 0xA4
abbrev dAlreadyDone : Nat := 0xA5
abbrev dHandoffGuard : Nat := 0xA6
abbrev dClassNotGranted : Nat := 0xA7
abbrev dCompositionResetting : Nat := 0xA8
abbrev dTakeover : Nat := 0xB0
abbrev dPairLost : Nat := 0xB1
abbrev dPeerQuarantined : Nat := 0xB2
abbrev dPairForming : Nat := 0xB3
abbrev dSelfQuarantined : Nat := 0xB4
abbrev dPowerTransition : Nat := 0xD0

/-- Access errors (R365), numbered as the UCIe codes. -/
abbrev aeOk : Nat := 0x00
abbrev aeNoObject : Nat := 0x01
abbrev aeNoSubindex : Nat := 0x02
abbrev aeNoAccess : Nat := 0x03
abbrev aeReadOnly : Nat := 0x04
abbrev aeWriteOnly : Nat := 0x05
abbrev aeLength : Nat := 0x06
abbrev aeRange : Nat := 0x07
abbrev aeState : Nat := 0x08
abbrev aeBusy : Nat := 0x09
abbrev aePowerState : Nat := 0x0A
abbrev aeNotServing : Nat := 0x0B

/-- The in-band status and detail of an access error (R365). -/
def inbandError (e : Nat) : Nat × Nat :=
  if e = aeOk then (stOk, 0) else if e = aeBusy then (stRetry, 0xC8) else (stDenied, 0xC0 + (e - 1))

/-- The CANopen abort code of an access error (R365). -/
def canAbort (e : Nat) : Nat :=
  if e = aeOk then 0 else if e = aeNoObject then 0x06020000 else if e = aeNoSubindex then 0x06090011
  else if e = aeNoAccess then 0x06010000 else if e = aeReadOnly then 0x06010002
  else if e = aeWriteOnly then 0x06010001 else if e = aeLength then 0x06070010
  else if e = aeRange then 0x06090030 else if e = aeState then 0x08000022
  else if e = aePowerState then 0x08000021 else 0x08000020

/-- Agent numbers of a `peer` field (R30, R454). -/
abbrev agentHome : Nat := 0
abbrev agentSteward : Nat := 25
abbrev agentTwin : Nat := 26
abbrev agentPorts : Nat := 27

/-- The `peer` encoding of a ZX964 agent (R30). -/
def agentPeer (pair side agent : Nat) : Nat := 0x8000 + (agent % 32) * 128 + (side % 2) * 64 + pair % 64

/-- Whether a `peer` value names a ZX964 agent (R30, bit 15). -/
def peerIsAgent (p : Nat) : Bool := bit p 15

/-- The host ID of a `peer` value (R30). -/
def peerHost (p : Nat) : Nat := p % 1024

end Sys2Proof.Machine
end

