-- ==== Sys2Proof/Machine/Wire.lean ====
section
/-! DEFINITION. Messages, flits and requester names: what commands carry (R30-R32, R286-R288, R356). -/

namespace Sys2Proof.Machine

/-- A Rhati message (R30): the common header, header bytes 12-31 as `body`, and the slots after the header. -/
structure Msg where
  opcode : Nat
  tc : Nat := 0
  poison : Bool := false
  retry : Bool := false
  ext : Nat := 0
  peer : Nat := 0
  composition : Nat := 0
  tag : Nat := 0
  line : Nat := 0
  body : Nat := 0
  data : List Slot := []
  deriving DecidableEq, Repr

/-- Slot 0 and slots 1-7 of a flit, and what FEC found in it (R281, R287-R289): the positions of the erroneous symbols of each
codeword that this flit is the first to use, and whether it holds a symbol of an uncorrectable codeword of an earlier flit. -/
structure Flit where
  slot0 : Slot
  slots : List Slot
  codewords : List (List Nat) := []
  spoiled : Bool := false
  deriving DecidableEq, Repr

/-- Who accesses the dictionary (R356): the steward over UCIe, the CAN bus, or a peer in-band under a composition. -/
inductive Requester where
  | steward
  | can
  | inband (peer composition : Nat)
  deriving DecidableEq, Repr

/-- One object write (R350, R359): `len` bytes of `value` at byte `offset`. -/
structure Access where
  who : Requester
  idx : Nat
  sub : Nat
  offset : Nat := 0
  len : Nat
  value : Nat
  deriving DecidableEq, Repr

/-- What the board shows at a start (R387, R388, R399, R407, R422): straps, temperatures, and whether the steps that
can fail did. -/
structure StartInfo where
  node : Nat := 0
  bootB : Bool := false
  brownOut : Bool := false
  stackTemp : Int := 0
  engineTemp : Int := 0
  durationMs : Nat := 0
  badEngines : List Nat := []
  deriving DecidableEq, Repr

namespace Msg

/-- A field of header bytes 12-31: bit offset from byte 12, width. -/
def fld (m : Msg) (lo len : Nat) : Nat := bits m.body lo len

/-- Byte mask of `WR_NC` and `WR_STASH` (R32 table, bytes 12-27). -/
def mask (m : Msg) : Nat := m.fld 0 128
/-- `stash_host` of `WR_STASH` (bytes 28-29). -/
def stashHost (m : Msg) : Nat := m.fld 128 10
/-- `aop` of `ATOMIC`. -/
def aop (m : Msg) : Nat := m.fld 0 4
/-- `word` of `ATOMIC`. -/
def word (m : Msg) : Nat := m.fld 4 4
/-- `ledger_id` of `ATOMIC`. -/
def ledgerId (m : Msg) : Nat := m.fld 32 32
/-- `operand` of `ATOMIC`. -/
def operand (m : Msg) : Nat := m.fld 64 64
/-- A slot after the header as a number (zero when absent). -/
def slotNat (m : Msg) (i : Nat) : Nat := ((m.data[i]?).getD 0).toNat
/-- All slots after the header as one little-endian number. -/
def dataNat (m : Msg) : Nat := m.data.foldr (fun s acc => s.toNat + 2 ^ 256 * acc) 0
/-- `compare` of a `CAS` (extension slot bytes 0-7). -/
def compareVal (m : Msg) : Nat := bits (m.slotNat 0) 0 64
/-- The 128 bytes of line data (4 slots). -/
def lineData (m : Msg) : LineBits := BitVec.ofNat 1024 m.dataNat
/-- `scope` of `FENCE`. -/
def scopeAll (m : Msg) : Bool := bit m.body 0
/-- `dest_pair` of `FENCE` (byte 13). -/
def fenceDest (m : Msg) : Nat := m.fld 8 6
/-- `dest_pair` of `MILESTONE` (byte 12). -/
def milestoneDest (m : Msg) : Nat := m.fld 0 6
/-- `milestone_id` (bytes 16-19). -/
def milestoneId (m : Msg) : Nat := m.fld 32 32
/-- `target_pair` of a service request. -/
def targetPair (m : Msg) : Nat := m.fld 0 6
/-- `target_side` of a service request. -/
def targetSide (m : Msg) : Nat := m.fld 6 1
/-- `either` of a service request. -/
def either (m : Msg) : Bool := bit m.body 7
/-- `function` of a service request (byte 13 bits [3:0]). -/
def func (m : Msg) : Nat := m.fld 8 4
/-- `snp_result` of `SNP_RESP`. -/
def snpResult (m : Msg) : Nat := m.fld 0 3
/-- `status` of a response. -/
def status (m : Msg) : Nat := m.fld 0 4
/-- `load` of a response. -/
def load (m : Msg) : Nat := m.fld 4 4
/-- `detail` of a response. -/
def detail (m : Msg) : Nat := m.fld 8 8
/-- `responder` of a response. -/
def responder (m : Msg) : Nat := m.fld 16 16
/-- `result` of a response. -/
def result (m : Msg) : Nat := m.fld 32 64
/-- `group_size` of a response. -/
def groupSize (m : Msg) : Nat := m.fld 96 7
/-- Header bytes 25-31 of a response (R208). -/
def tail (m : Msg) : Nat := m.fld 104 56

/-- Slots the message occupies, header included (R30). -/
def slotCount (m : Msg) : Nat := m.ext + 1

/-- Whether all 128 mask bits are set. -/
def fullMask (m : Msg) : Bool := decide (m.mask = 2 ^ 128 - 1)

/-- The header slot (R30): bytes 0-11 then the body; reserved bits are written zero (R9). -/
def header (m : Msg) : Slot :=
  BitVec.ofNat 256 (pack [(8, m.opcode), (3, m.tc), (1, b2n m.poison), (1, b2n m.retry), (3, m.ext), (16, m.peer),
    (7, m.composition), (1, 0), (16, m.tag), (40, m.line), (160, m.body)])

/-- All slots of the message. -/
def slots (m : Msg) : List Slot := m.header :: m.data

/-- The message a header slot and the slots after it spell (R30). -/
def ofSlots (h : Slot) (data : List Slot) : Msg :=
  let n := h.toNat
  { opcode := bits n 0 8, tc := bits n 8 3, poison := bit n 11, retry := bit n 12, ext := bits n 13 3,
    peer := bits n 16 16, composition := bits n 32 7, tag := bits n 40 16, line := bits n 56 40,
    body := bits n 96 160, data := data }

/-- The field widths a message's header admits (R30), and one data slot per `ext`. -/
def wf (m : Msg) : Bool :=
  decide (m.opcode < 256) && decide (m.tc < 8) && decide (m.ext < 8) && decide (m.peer < 2 ^ 16) &&
  decide (m.composition < 128) && decide (m.tag < 2 ^ 16) && decide (m.line < 2 ^ 40) &&
  decide (m.body < 2 ^ 160) && decide (m.data.length = m.ext)

/-- Whether the opcode is a read of the opcode table. -/
def isRead (m : Msg) : Bool := m.opcode == opRdShared || m.opcode == opRdOwn || m.opcode == opRdNc

/-- Whether the opcode names a line (every opcode the table does not mark "not addressed"). -/
def isAddressed (m : Msg) : Bool :=
  m.isRead || m.opcode == opWrNc || m.opcode == opWrStash || m.opcode == opWbDirty ||
  m.opcode == opEvictClean || m.opcode == opAtomic

/-- Whether the opcode is one of the four services (R32 table). -/
def isService (m : Msg) : Bool :=
  m.opcode == opSearch || m.opcode == opHandoff || m.opcode == opDoorbell || m.opcode == opMgmt

/-- Whether the opcode lies in the twin range. -/
def isTwin (m : Msg) : Bool := decide (0x50 ≤ m.opcode) && decide (m.opcode ≤ 0x5F)

end Msg

/-- Opcodes that the opcode table lists (others are reserved, R10). -/
def opcodeKnown (op : Nat) : Bool :=
  op == opEmpty || op == opRdShared || op == opRdOwn || op == opRdNc || op == opWrNc || op == opWrStash ||
  op == opWbDirty || op == opEvictClean || op == opAtomic || op == opFence || op == opMilestone ||
  (decide (0x20 ≤ op) && decide (op ≤ 0x23)) || (decide (0x30 ≤ op) && decide (op ≤ 0x32)) || op == opSnpResp ||
  op == opResp || op == opRespData || (decide (0x50 ≤ op) && decide (op ≤ 0x5F))

/-- The slots of a 128-byte line. -/
def lineSlots (d : LineBits) : List Slot :=
  [BitVec.ofNat 256 (bits d.toNat 0 256), BitVec.ofNat 256 (bits d.toNat 256 256),
   BitVec.ofNat 256 (bits d.toNat 512 256), BitVec.ofNat 256 (bits d.toNat 768 256)]

/-- The n slots that hold a number. -/
def natSlots (v : Nat) : Nat → List Slot
  | 0 => []
  | n + 1 => BitVec.ofNat 256 v :: natSlots (v / 2 ^ 256) n

/-- Slot 0 of a flit (11_light_ports.md, "Slot 0"). -/
structure Slot0 where
  seq : Nat
  load : Nat := 0
  ackSeq : Nat := 0
  nak : Bool := false
  idle : Bool := false
  keyPhase : Nat := 0
  wide : Bool := false
  cont : Nat := 0
  cut : Bool := false
  attempt : Nat := 0
  credits : Nat := 0
  tag : Nat := 0
  crc : Nat := 0
  deriving DecidableEq, Repr

/-- Slot 0 read from its bits. -/
def Slot0.ofSlot (h : Slot) : Slot0 :=
  let n := h.toNat
  { seq := bits n 0 12, load := bits n 12 4, ackSeq := bits n 16 12, nak := bit n 28, idle := bit n 29,
    keyPhase := bits n 30 1, wide := bit n 31, cont := bits n 32 3, cut := bit n 35, attempt := bits n 36 4,
    credits := bits n 48 48, tag := bits n 96 128, crc := bits n 224 32 }

/-- Slot 0 as bits. -/
def Slot0.toSlot (z : Slot0) : Slot :=
  BitVec.ofNat 256 (pack [(12, z.seq), (4, z.load), (12, z.ackSeq), (1, b2n z.nak), (1, b2n z.idle),
    (1, z.keyPhase), (1, b2n z.wide), (3, z.cont), (1, b2n z.cut), (4, z.attempt), (8, 0), (48, z.credits),
    (128, z.tag), (32, z.crc)])

/-- One bit step of a reflected CRC. -/
def crcBit (poly c : Nat) : Nat := if c % 2 = 1 then (c / 2) ^^^ poly else c / 2

/-- One byte step of a reflected CRC. -/
def crcByte (poly c b : Nat) : Nat :=
  crcBit poly (crcBit poly (crcBit poly (crcBit poly
    (crcBit poly (crcBit poly (crcBit poly (crcBit poly (c ^^^ b))))))))

/-- A reflected CRC-32 over n little-endian bytes of v, continued from c. -/
def crcNat (poly v : Nat) : Nat → Nat → Nat
  | 0, c => c
  | n + 1, c => crcNat poly (v / 256) n (crcByte poly c (v % 256))

/-- CRC-32 of R287 (polynomial 0x04C1_1DB7 reflected, initial and final 0xFFFF_FFFF). -/
def crc32 (v n : Nat) : Nat := crcNat 0xEDB88320 v n 0xFFFFFFFF ^^^ 0xFFFFFFFF

/-- CRC-32C of R129 and R130 (Castagnoli, reflected; log entry 22). -/
def crc32c (v n : Nat) : Nat := crcNat 0x82F63B78 v n 0xFFFFFFFF ^^^ 0xFFFFFFFF

/-- The CRC of a flit: bytes 0-27 of slot 0 and slots 1-7 as sent (R287). -/
def flitCrc (slot0 : Slot) (slots : List Slot) : Nat :=
  let v := bits slot0.toNat 0 224 + 2 ^ 224 * slots.foldr (fun s acc => s.toNat + 2 ^ 256 * acc) 0
  crc32 v (28 + 32 * 7)

/-! ## Reserved bits (R9) -/

/-- A number with the bits outside some fields (first bit, width) cleared. -/
def keepFields (v : Nat) (fs : List (Nat × Nat)) : Nat := (fs.map (fun f => bits v f.1 f.2 * 2 ^ f.1)).sum

/-- The fields of header bytes 12-31 by opcode, bit 0 being bit 0 of byte 12 (R32 table and the chapters' tables). -/
def Msg.bodyFields (m : Msg) : List (Nat × Nat) :=
  if m.opcode = opWrNc then [(0, 128)]
  else if m.opcode = opWrStash then [(0, 138)]
  else if m.opcode = opAtomic then [(0, 8), (32, 96)]
  else if m.opcode = opFence then [(0, 1), (8, 6)]
  else if m.opcode = opMilestone then [(0, 6), (32, 32)]
  else if m.opcode = opSearch then
    [(0, 14), (16, 4), (24, 6), (32, 6), (40, 9)] ++ (if m.func = 1 then [] else [(64, 32)])
  else if m.opcode = opHandoff then [(0, 12), (16, 20), (40, 3), (48, 12), (63, 33), (96, if m.func = 1 then 31 else 32), (128, 32)]
  else if m.opcode = opDoorbell then
    (if m.func = 2 then [(0, 12), (16, 13), (32, 16)] else [(0, 12), (16, 8), (32, 128)])
  else if m.opcode = opMgmt then [(0, 12), (16, 24), (48, 14), (64, 8), (80, 10)]
  else if m.opcode = opSnpResp then [(0, 3)]
  else if m.opcode = opResp ∨ m.opcode = opRespData then [(0, 103), (104, 21), (128, 32)]
  else if m.opcode = opTwMirror then [(0, 35)]
  else if m.opcode = opTwMirrorAck then [(0, 32)]
  else if m.opcode = opTwBeat then [(0, 39), (40, 4), (48, 96)]
  else if m.opcode = opTwSuspect ∨ m.opcode = opTwVerdict then [(0, 7), (8, 7), (16, 32)]
  else if m.opcode = opTwConfirm then [(0, 7), (8, 7), (16, 34), (56, 8)]
  else if m.opcode = opTwServing then [(0, 7), (8, 32)]
  else if m.opcode = opTwDetach then [(0, 2), (8, 7)]
  else if m.opcode = opTwCatchup then [(0, 2), (8, 128)]
  else if m.isTwin || !opcodeKnown m.opcode then [(0, 160)]
  else []

/-- The fields of the slots after the header, for the messages whose slots have reserved bits. -/
def Msg.dataFields (m : Msg) : Option (List (Nat × Nat)) :=
  if m.opcode = opAtomic then some [(0, 64)]
  else if m.opcode = opResp then some [(0, 1)]
  else if m.opcode = opHandoff then some [(0, if m.func = 1 then 64 else 128)]
  else if m.opcode = opSearch ∧ m.func = 3 then some [(0, 1), (8, 6), (64, 704)]
  else none

/-- A `peer` value with its reserved bits cleared (R30). -/
def cleanPeer (p : Nat) : Nat := if peerIsAgent p then keepFields p [(0, 12), (15, 1)] else p % 1024

/-- A received message: reserved bits are ignored, and none is sent on (R9); a response with status 0xD-0xF counts as
`FATAL` (R11). -/
def Msg.heard (m : Msg) : Msg :=
  let b := keepFields m.body m.bodyFields
  { m with
    peer := cleanPeer m.peer
    body := if (m.opcode = opResp ∨ m.opcode = opRespData) ∧ stFatal < b % 16 then setBits b 0 4 stFatal else b
    data := match m.dataFields with
      | some fs => natSlots (keepFields m.dataNat fs) m.data.length
      | none => m.data }

/-- Whether a message is a `CAS`, whose answer carries an extension slot (R32). -/
def Msg.isCas (m : Msg) : Bool := m.opcode == opAtomic && decide (m.aop = 9)

/-- A response (R32 table, R33): that of a `CAS` has an extension slot, in which nothing is stored until `withCas`. -/
def mkResp (req : Msg) (status detail responder result group : Nat) : Msg :=
  { opcode := opResp, tc := req.tc, ext := b2n req.isCas, peer := req.peer, composition := req.composition, tag := req.tag,
    line := req.line,
    body := pack [(4, status), (4, 0), (8, detail), (16, responder), (64, result), (7, group)],
    data := if req.isCas then [0] else [] }

/-- A response with line data (R33). -/
def mkRespData (req : Msg) (responder result group : Nat) (d : LineBits) : Msg :=
  { mkResp req stOk 0 responder result group with opcode := opRespData, ext := 4, data := lineSlots d }

/-- A response with its `load` field set (R266). -/
def Msg.withLoad (m : Msg) (l : Nat) : Msg := { m with body := setBits m.body 4 4 l }

/-- A response with header bytes 25-31 set (R208). -/
def Msg.withTail (m : Msg) (t : Nat) : Msg := { m with body := setBits m.body 104 56 t }

/-- The `cas_stored` extension slot of a `CAS` response (R32). -/
def Msg.withCas (m : Msg) (stored : Bool) : Msg := { m with ext := 1, data := [BitVec.ofNat 256 (b2n stored)] }

/-- The message of a row: its opcode. -/
def Msg.withOp (m : Msg) (op : Nat) : Msg := { m with opcode := op }

/-- The message of a row of a service: its opcode and function. -/
def Msg.withFunc (m : Msg) (op f : Nat) : Msg := { m with opcode := op, body := setBits m.body 8 4 f }

/-- The message of a row of the twin range with a step: its opcode and step. -/
def Msg.withStep (m : Msg) (op k : Nat) : Msg := { m with opcode := op, body := setBits m.body 0 2 k }

end Sys2Proof.Machine
end

