-- ==== Sys2Proof/Syntax.lean ====
section
/-! DEFINITION. The commands of the ZX964: one constructor per row of spec/opcode_table.json, in its order. -/

namespace Sys2Proof

open Sys2Proof.Machine

/-- The commands (spec/opcode_table.json); each docstring names its row and rule. -/
inductive Instr where
  /-- `OBJECT_WRITE` (R351). -/
  | objectWrite (a : Access)
  /-- `GOVERNOR_PERIOD` (R274). -/
  | governorPeriod
  /-- `BIND` (R21). -/
  | bind (who : Requester)
  /-- `REVOKE` (R21). -/
  | revoke (who : Requester)
  /-- `RESTORE` (R21). -/
  | restore (who : Requester)
  /-- `EXTENT_RELEASE` (R21). -/
  | extentRelease (who : Requester)
  /-- `DRAIN_COMPLETE` (R21). -/
  | drainComplete (ext : Nat)
  /-- `DRAIN_TIMER_EXPIRY` (R21). -/
  | drainTimerExpiry (ext : Nat)
  /-- `TILE_ZERO_MARK` (R21). -/
  | tileZeroMark (ext : Nat)
  /-- `RD_SHARED` (R69). -/
  | rdShared (port : Nat) (m : Msg)
  /-- `RD_OWN` (R69). -/
  | rdOwn (port : Nat) (m : Msg)
  /-- `RD_NC` (R73). -/
  | rdNc (port : Nat) (m : Msg)
  /-- `WR_NC` (R73). -/
  | wrNc (port : Nat) (m : Msg)
  /-- `WR_STASH` (R74). -/
  | wrStash (port : Nat) (m : Msg)
  /-- `WB_DIRTY` (R67). -/
  | wbDirty (port : Nat) (m : Msg)
  /-- `EVICT_CLEAN` (R67). -/
  | evictClean (port : Nat) (m : Msg)
  /-- `ATOMIC` (R54). -/
  | atomic (port : Nat) (m : Msg)
  /-- `FENCE` (R39). -/
  | fence (port : Nat) (m : Msg)
  /-- `MILESTONE` (R43). -/
  | milestone (port : Nat) (m : Msg)
  /-- `SNP_INV` (R64). -/
  | snpInv (port : Nat) (m : Msg)
  /-- `SNP_SHARE` (R64). -/
  | snpShare (port : Nat) (m : Msg)
  /-- `STASH_FILL` (R74). -/
  | stashFill (port : Nat) (m : Msg)
  /-- `SNP_RESP` (R64). -/
  | snpResp (port : Nat) (m : Msg)
  /-- `RESP` (R31). -/
  | resp (port : Nat) (m : Msg)
  /-- `RESP_DATA` (R31). -/
  | respData (port : Nat) (m : Msg)
  /-- `MERGE_HOLD_EXPIRY` (R47). -/
  | mergeHoldExpiry (line : Nat)
  /-- `RESIDENCY_LIMIT` (R37). -/
  | residencyLimit (pos : Nat)
  /-- `REQUEST_TIMEOUT` (R38). -/
  | requestTimeout (peer tag : Nat)
  /-- `PATH_CHANGE_START` (R43). -/
  | pathChangeStart (pair newPort cause : Nat)
  /-- `MILESTONE_TIMEOUT` (R43). -/
  | milestoneTimeout (pair : Nat)
  /-- `LEDGER_ENTRY_EXPIRY` (R52). -/
  | ledgerEntryExpiry (host id : Nat)
  /-- `DWELL_EXPIRY` (R70). -/
  | dwellExpiry (line : Nat)
  /-- `HOME_TIMEOUT` (R71). -/
  | homeTimeout (line : Nat)
  /-- `STASH_OFFER_TIMEOUT` (R75). -/
  | stashOfferTimeout (line : Nat)
  /-- `TIER_ACCESS_DONE` (R69). -/
  | tierAccessDone (line errs : Nat)
  /-- `FILTER_WALK_COMPLETE` (R78). -/
  | filterWalkComplete
  /-- `HOST_LOSS_HOLD_EXPIRY` (R79). -/
  | hostLossHoldExpiry (host : Nat)
  /-- `HOST_DECLARE_LOST` (R79). -/
  | hostDeclareLost (who : Requester)
  /-- `READMIT` (R83). -/
  | readmit (who : Requester)
  /-- `NOTICE` (R81). -/
  | notice (port : Nat) (m : Msg)
  /-- `SHARERS_DROPPED` (R329). -/
  | sharersDropped (who : Requester)
  /-- `TRAY_REQUEST_TIMEOUT` (R98). -/
  | trayRequestTimeout (port tag : Nat)
  /-- `TRAY_LOSS_HOLD_EXPIRY` (R98). -/
  | trayLossHoldExpiry (port : Nat)
  /-- `MEMBER_DECLARE_LOST` (R98). -/
  | memberDeclareLost (who : Requester)
  /-- `REPLACE` (R100). -/
  | replace (who : Requester)
  /-- `REPLACE_FILL_COMPLETE` (R100). -/
  | replaceFillComplete (set member : Nat)
  /-- `TRAY_READ_REISSUE` (R98). -/
  | trayReadReissue
  /-- `PREFETCH_FILL` (R109). -/
  | prefetchFill
  /-- `DIRTY_WRITEBACK` (R104). -/
  | dirtyWriteback
  /-- `FLUSH` (R105). -/
  | flush (who : Requester)
  /-- `FLUSH_COMPLETE` (R105). -/
  | flushComplete (comp : Nat)
  /-- `CACHE_QUOTA_WRITE` (R92). -/
  | cacheQuotaWrite (who : Requester) (tiles : Nat)
  /-- `WINDOW_DESCRIPTOR_WRITE` (R107). -/
  | windowDescriptorWrite (who : Requester) (value : Nat)
  /-- `WINDOW_CURSOR_WRITE` (R110). -/
  | windowCursorWrite (who : Requester) (value : Nat)
  /-- `WINDOW_REPOINT_COMPLETE` (R111). -/
  | windowRepointComplete (comp window : Nat)
  /-- `REGION_CREATE` (R113). -/
  | regionCreate (who : Requester)
  /-- `REGION_DESTROY` (R119). -/
  | regionDestroy (who : Requester)
  /-- `ECC_RECOVERY_COMPLETE` (R126). -/
  | eccRecoveryComplete (line : Nat) (ok : Bool) (data : LineBits)
  /-- `PATROL_SCRUB` (R128). -/
  | patrolScrub (line errs : Nat)
  /-- `TABLE_LOAD` (R135). -/
  | tableLoad (who : Requester)
  /-- `TABLE_LOAD_COMPLETE` (R135). -/
  | tableLoadComplete (slot : Nat)
  /-- `TABLE_RETIRE` (R135). -/
  | tableRetire (who : Requester)
  /-- `TABLE_REFS_ZERO` (R135). -/
  | tableRefsZero (slot : Nat)
  /-- `ARM` (R155). -/
  | arm (who : Requester)
  /-- `REARM` (R156). -/
  | rearm (who : Requester)
  /-- `DISARM` (R156). -/
  | disarm (who : Requester)
  /-- `REDUCE_ROUND_COMPLETE` (R156). -/
  | reduceRoundComplete (slot : Nat)
  /-- `REDUCE_ROUND_TIMEOUT` (R160). -/
  | reduceRoundTimeout (slot : Nat)
  /-- `ENGINE_IDLE` (R166). -/
  | engineIdle (engine : Nat)
  /-- `CORE_PLL_IDLE` (R377). -/
  | corePllIdle (core : Nat)
  /-- `ALLOC` (R189). -/
  | alloc (who : Requester)
  /-- `CLOSE` (R189). -/
  | close (who : Requester)
  /-- `ACCEPT` (R191). -/
  | accept (who : Requester)
  /-- `REJECT` (R191). -/
  | reject (who : Requester)
  /-- `ITINERARY_RETIRE` (R189). -/
  | itineraryRetire (who : Requester)
  /-- `ITINERARY_FREE` (R189). -/
  | itineraryFree (who : Requester)
  /-- `LAUNCH` (R193). -/
  | launch (port : Nat) (m : Msg)
  /-- `COUNT` (R195). -/
  | count (port : Nat) (m : Msg)
  /-- `MOVE` (R177). -/
  | move (core : Nat)
  /-- `GATHER` (R178). -/
  | gather (core : Nat)
  /-- `ARRAY` (R179). -/
  | array (core : Nat)
  /-- `VECTOR` (R180). -/
  | vector (core : Nat)
  /-- `SELECT` (R181). -/
  | select (core : Nat)
  /-- `SEND` (R182). -/
  | send (core : Nat)
  /-- `STASH` (R182). -/
  | stash (core : Nat)
  /-- `SIGNAL` (R183). -/
  | signal (core : Nat)
  /-- `AWAIT` (R185). -/
  | await (core : Nat)
  /-- `REPEAT` (R175). -/
  | repeatLeg (core : Nat)
  /-- `END` (R188). -/
  | endLeg (core : Nat)
  /-- `AWAIT_TIMEOUT` (R185). -/
  | awaitTimeout (core : Nat)
  /-- `CORE_RESET` (R200). -/
  | coreReset (who : Requester)
  /-- `LOOKUP` (R208). -/
  | lookup (port : Nat) (m : Msg)
  /-- `WALK` (R212). -/
  | walk (port : Nat) (m : Msg)
  /-- `SEARCH_WRITE` (R214). -/
  | searchWrite (port : Nat) (m : Msg)
  /-- `SEARCH_CLEAR` (R214). -/
  | searchClear (port : Nat) (m : Msg)
  /-- `SEARCH_UPDATE_APPLY` (R215). -/
  | searchUpdateApply (part errs : Nat)
  /-- `ENTRY_RECORD_WRITE` (R218). -/
  | entryRecordWrite (who : Requester) (value : Nat)
  /-- `WALK_IDLE_TIMEOUT` (R212). -/
  | walkIdleTimeout (ctx : Nat)
  /-- `PARITY_SCAN` (R220). -/
  | parityScan (part row : Nat) (bad : List Nat)
  /-- `PARTITION_CREATE` (R222). -/
  | partitionCreate (who : Requester)
  /-- `PARTITION_DESTROY` (R222). -/
  | partitionDestroy (who : Requester)
  /-- `PARTITION_CLEARED` (R222). -/
  | partitionCleared (part : Nat)
  /-- `PARTITION_RELOADED` (R222). -/
  | partitionReloaded (part : Nat)
  /-- `BANK_IDLE_GATE` (R223). -/
  | bankIdleGate (bank : Nat)
  /-- `COMPOSITION_CREATE` (R228). -/
  | compositionCreate (who : Requester)
  /-- `COMPOSITION_RESET` (R239). -/
  | compositionReset (who : Requester)
  /-- `COMPOSITION_RESET_COMPLETE` (R239). -/
  | compositionResetComplete (comp : Nat)
  /-- `COMPOSITION_DESTROY` (R228). -/
  | compositionDestroy (who : Requester)
  /-- `COMPOSITION_DESCRIPTOR_WRITE` (R227). -/
  | compositionDescriptorWrite (who : Requester) (offset len value : Nat)
  /-- `JOIN` (R230). -/
  | join (who : Requester)
  /-- `LEAVE` (R231). -/
  | leave (who : Requester)
  /-- `INTERRUPT_WRITE_TIMEOUT` (R235). -/
  | interruptWriteTimeout (host tag : Nat)
  /-- `OPEN` (R250). -/
  | openRec (port : Nat) (m : Msg)
  /-- `SEAL` (R250). -/
  | sealRec (port : Nat) (m : Msg)
  /-- `OFFER` (R250). -/
  | offer (port : Nat) (m : Msg)
  /-- `WITHDRAW` (R250). -/
  | withdraw (port : Nat) (m : Msg)
  /-- `CLAIM` (R250). -/
  | claim (port : Nat) (m : Msg)
  /-- `HANDOFF_RELEASE` (R250). -/
  | handoffRelease (port : Nat) (m : Msg)
  /-- `DISCARD` (R250). -/
  | discard (port : Nat) (m : Msg)
  /-- `QUERY` (R248). -/
  | query (port : Nat) (m : Msg)
  /-- `OFFER_TIMER_EXPIRY` (R250). -/
  | offerTimerExpiry (record : Nat)
  /-- `FORCE_FREE` (R250). -/
  | forceFree (who : Requester)
  /-- `ADMISSION_HOLD_RELEASE` (R263). -/
  | admissionHoldRelease (port tc : Nat)
  /-- `GATE_ENTRY_CHANGE` (R270). -/
  | gateEntryChange (port : Nat)
  /-- `GATE_SWITCH_TIME_WRITE` (R272). -/
  | gateSwitchTimeWrite (who : Requester) (time : Nat)
  /-- `GATE_BANK_SWITCH` (R272). -/
  | gateBankSwitch (port : Nat)
  /-- `BUDGET_WRITE` (R276). -/
  | budgetWrite (who : Requester) (sub value : Nat)
  /-- `PORT_ENABLE` (R285). -/
  | portEnable (who : Requester)
  /-- `PORT_DISABLE` (R285). -/
  | portDisable (who : Requester)
  /-- `PORT_RESET` (R285). -/
  | portReset (who : Requester)
  /-- `PORT_RETRAIN` (R285). -/
  | portRetrain (who : Requester)
  /-- `BREAKOUT_WRITE` (R279). -/
  | breakoutWrite (who : Requester) (value : Nat)
  /-- `PORT_ROLE_WRITE` (R280). -/
  | portRoleWrite (who : Requester) (value : Nat)
  /-- `LASER_INPUT_LOW` (R283). -/
  | laserInputLow (input : Nat) (power : Int)
  /-- `LASER_INPUT_RESTORED` (R283). -/
  | laserInputRestored (input : Nat) (power : Int)
  /-- `LANE_PRESENCE_CHANGE` (R284): the lane's received power, in 0.01 dBm. -/
  | lanePresenceChange (phys lane : Nat) (power : Int)
  /-- `RECEIVERS_ADAPTED` (R285). -/
  | receiversAdapted (port : Nat)
  /-- `TRAIN_TIMEOUT` (R285). -/
  | trainTimeout (port : Nat)
  /-- `CODEWORDS_LOCKED` (R285). -/
  | codewordsLocked (port : Nat)
  /-- `ALIGN_TIMEOUT` (R285). -/
  | alignTimeout (port : Nat)
  /-- `PARAMETER_BLOCK_RECEIVED` (R286). -/
  | parameterBlockReceived (port : Nat) (block : Slot)
  /-- `PARAM_TIMEOUT` (R285). -/
  | paramTimeout (port : Nat)
  /-- `SECURE_TIMEOUT` (R285). -/
  | secureTimeout (port : Nat)
  /-- `CODEWORD_LOCK_LOST` (R285). -/
  | codewordLockLost (port : Nat)
  /-- `RETRAIN_COMPLETE` (R285). -/
  | retrainComplete (port : Nat)
  /-- `RETRAIN_TIMEOUT` (R285). -/
  | retrainTimeout (port : Nat)
  /-- `FLIT_RECEIVED` (R293). -/
  | flitReceived (port : Nat) (flit : Flit)
  /-- `REPLAY_TIMEOUT` (R294). -/
  | replayTimeout (port : Nat)
  /-- `REKEY_LIMIT` (R298). -/
  | rekeyLimit (port : Nat)
  /-- `REKEY_DEADLINE` (R298). -/
  | rekeyDeadline (port : Nat)
  /-- `NARROW_IDLE` (R300). -/
  | narrowIdle (port : Nat)
  /-- `TW_MIRROR` (R309). -/
  | twMirror (port : Nat) (m : Msg)
  /-- `TW_MIRROR_ACK` (R309). -/
  | twMirrorAck (port : Nat) (m : Msg)
  /-- `TW_BEAT` (R320). -/
  | twBeat (port : Nat) (m : Msg)
  /-- `TW_SUSPECT` (R321). -/
  | twSuspect (port : Nat) (m : Msg)
  /-- `TW_CONFIRM` (R322). -/
  | twConfirm (port : Nat) (m : Msg)
  /-- `TW_VERDICT` (R323). -/
  | twVerdict (port : Nat) (m : Msg)
  /-- `TW_SERVING` (R305). -/
  | twServing (port : Nat) (m : Msg)
  /-- `TW_DETACH_REQUEST` (R313). -/
  | twDetachRequest (port : Nat) (m : Msg)
  /-- `TW_DETACH_CONFIRM` (R313). -/
  | twDetachConfirm (port : Nat) (m : Msg)
  /-- `TW_DETACH_REFUSE` (R313). -/
  | twDetachRefuse (port : Nat) (m : Msg)
  /-- `TW_CATCHUP_EPOCH` (R314). -/
  | twCatchupEpoch (port : Nat) (m : Msg)
  /-- `TW_CATCHUP_START` (R314). -/
  | twCatchupStart (port : Nat) (m : Msg)
  /-- `TW_CATCHUP_DONE` (R313). -/
  | twCatchupDone (port : Nat) (m : Msg)
  /-- `TW_CATCHUP_ABORT` (R336). -/
  | twCatchupAbort (port : Nat) (m : Msg)
  /-- `CATCHUP_COPY` (R334). -/
  | catchupCopy
  /-- `TURN` (R319). -/
  | turn
  /-- `PAIR_LOST_TIMEOUT` (R330). -/
  | pairLostTimeout (pair : Nat)
  /-- `SPARE_CALL_TIMEOUT` (R333). -/
  | spareCallTimeout
  /-- `TAG_WARNING_REPEAT` (R317). -/
  | tagWarningRepeat
  /-- `MIRROR_DISABLE` (R316). -/
  | mirrorDisable (who : Requester)
  /-- `SCORE_DECAY` (R339). -/
  | scoreDecay
  /-- `DRILL_START` (R343). -/
  | drillStart
  /-- `DRILL_PATH_FLAP_RETURN` (R343). -/
  | drillPathFlapReturn
  /-- `DRILL_OUTCOME` (R347). -/
  | drillOutcome (passed : Bool)
  /-- `SPDM` (R362). -/
  | spdm (port : Nat) (m : Msg)
  /-- `CAN_EVENT_POP` (R368). -/
  | canEventPop (who : Requester)
  /-- `STEWARD_ALIVE` (R369). -/
  | stewardAlive (who : Requester)
  /-- `STEWARD_WATCHDOG_EXPIRY` (R369). -/
  | stewardWatchdogExpiry
  /-- `STEWARD_RESTART` (R369). -/
  | stewardRestart (who : Requester)
  /-- `ENTER_RECOVERY` (R371). -/
  | enterRecovery (who : Requester)
  /-- `STEWARD_RUNNING` (R369). -/
  | stewardRunning
  /-- `RECOVERY_INSTALL` (R371). -/
  | recoveryInstall (who : Requester)
  /-- `RECOVERY_ABORT` (R371). -/
  | recoveryAbort (who : Requester)
  /-- `INPUT_POWER_UP` (R372). -/
  | inputPowerUp
  /-- `POWER_LOSS` (R396). -/
  | powerLoss
  /-- `PGOOD_LOW` (R424). -/
  | pgoodLow
  /-- `POWER_LOSS_WRITES_COMPLETE` (R396). -/
  | powerLossWritesComplete (durationUs : Nat)
  /-- `POWER_STAGE_FAILURE` (R373). -/
  | powerStageFailure (stage : Nat)
  /-- `POWER_CAP_STEP` (R374). -/
  | powerCapStep (watts : Nat)
  /-- `REFERENCE_LOSS` (R378). -/
  | referenceLoss
  /-- `REFERENCE_RETURN` (R378). -/
  | referenceReturn
  /-- `REFERENCE_156_LOSS` (R378). -/
  | reference156Loss
  /-- `REFERENCE_156_RETURN` (R378). -/
  | reference156Return
  /-- `POWER_FULL` (R379). -/
  | powerFull (who : Requester)
  /-- `POWER_TRIM` (R379). -/
  | powerTrim (who : Requester)
  /-- `POWER_QUIET` (R379). -/
  | powerQuiet (who : Requester)
  /-- `POWER_WATCH` (R379). -/
  | powerWatch (who : Requester)
  /-- `POWER_OFF` (R379). -/
  | powerOff (who : Requester)
  /-- `HANDSHAKE_ACCEPTED` (R380). -/
  | handshakeAccepted
  /-- `HANDSHAKE_REFUSED` (R380). -/
  | handshakeRefused
  /-- `HANDSHAKE_TIMEOUT` (R380). -/
  | handshakeTimeout
  /-- `WARM_RESET` (R391). -/
  | warmReset (who : Requester)
  /-- `COLD_RESET` (R392). -/
  | coldReset (who : Requester)
  /-- `COLD_START` (R379). -/
  | coldStart (who : Requester)
  /-- `RESET_CONTACT` (R423). -/
  | resetContact
  /-- `ISLAND_BROWN_OUT` (R384). -/
  | islandBrownOut
  /-- `WATCH_WAKE_PERIOD` (R385). -/
  | watchWakePeriod (readings : List (Nat × Int)) (temp : Int)
  /-- `START_STEP_COMPLETE` (R387). -/
  | startStepComplete (info : StartInfo)
  /-- `START_STEP_FAILED` (R390). -/
  | startStepFailed (detail : Nat)
  /-- `SCORE_JOURNAL_PERIOD` (R393). -/
  | scoreJournalPeriod
  /-- `THERMAL_THROTTLE` (R435). -/
  | thermalThrottle (cls item : Nat) (temp : Int)
  /-- `THERMAL_THROTTLE_END` (R435). -/
  | thermalThrottleEnd
  /-- `THERMAL_TRIP` (R436). -/
  | thermalTrip (cls item : Nat) (temp : Int)
  /-- `CERT_INSTALL` (R402). -/
  | certInstall (who : Requester)
  /-- `CERT_ERASE` (R402). -/
  | certErase (who : Requester)
  /-- `OWNER_SET` (R411). -/
  | ownerSet (who : Requester)
  /-- `OWNER_TRANSFER` (R411). -/
  | ownerTransfer (who : Requester)
  /-- `IMAGE_STAGE` (R410). -/
  | imageStage (who : Requester)
  /-- `IMAGE_ABORT` (R410). -/
  | imageAbort (who : Requester)
  /-- `SESSION_RETRY_HOLDOFF` (R405). -/
  | sessionRetryHoldoff (port : Nat)
  /-- `RANDOM_SOURCE_UNHEALTHY` (R412). -/
  | randomSourceUnhealthy (test : Nat)
  /-- `BYPASS` (R429). -/
  | jtagBypass
  /-- `IDCODE` (R429). -/
  | jtagIdcode
  /-- `SAMPLE_PRELOAD` (R429). -/
  | jtagSamplePreload (pins : Nat)
  /-- `EXTEST` (R429). -/
  | jtagExtest
  /-- `EGRESS_SLOT` (R268). -/
  | egressSlot (port : Nat)
  /-- `FULL_WIDTH_RESTORED` (R300). -/
  | fullWidthRestored (port : Nat)
  /-- `STEWARD_DIE_FAULT` (R369). -/
  | stewardDieFault
  /-- `CAN_BUS_OFF` (R363). -/
  | canBusOff
  /-- `RANDOM_SOURCE_HEALTHY` (R412). -/
  | randomSourceHealthy
  /-- `CRYSTAL_CHANGE` (R428). -/
  | crystalChange (oscillating : Bool)
  /-- `ZERO_TILE_TRAY_WRITE` (R93). -/
  | zeroTileTrayWrite
  /-- `MARKED_TILE_OVERWRITE` (R21). -/
  | markedTileOverwrite
  deriving DecidableEq, Repr

end Sys2Proof
end

