-- ==== Sys2Proof/Machine/Fec.lean ====
section
/-! DEFINITION. The forward error correction of a port (R281): RS(544,514) over GF(2^10) as IEEE 802.3 defines it, with the
symbols of a codeword spread over the port's lanes. -/

namespace Sys2Proof.Machine

/-- A product in GF(2^10) with x^10 + x^3 + 1. -/
def gf10Mul (a b : Nat) : Nat :=
  (List.range 10).foldl (fun r i =>
    let d := if r < 512 then 2 * r else (2 * r) ^^^ 0x409
    if bit b (9 - i) then d ^^^ a else d) 0

/-- The generator polynomial without its leading 1, highest power first: the product of x - α^j for j = 0 to 29. -/
def rsGenerator : List Nat :=
  ((List.range 30).foldl (fun (g : List Nat × Nat) _ =>
    ((g.1 ++ [0]).zipWith (fun a b => a ^^^ b) (0 :: g.1.map (gf10Mul g.2)), gf10Mul g.2 2)) ([1], 1)).1.drop 1

/-- The 30 parity symbols of 514 data symbols, the first sent being the highest power. -/
def rsParity (data : List Nat) : List Nat :=
  data.foldl (fun r x =>
    let f := x ^^^ r.headD 0
    (r.drop 1 ++ [0]).zipWith (fun a g => a ^^^ gf10Mul f g) rsGenerator) (List.replicate 30 0)

/-- The codeword of 514 data symbols. -/
def rsCodeword (data : List Nat) : List Nat := data ++ rsParity data

/-- The lane position of a codeword's symbol on a port of a width: consecutive symbols lie on different lanes. -/
def symbolLane (width i : Nat) : Nat := i % max 1 width

/-- Whether a codeword with these erroneous symbols is corrected: up to 15 (R281). -/
def fecCorrects (errs : List Nat) : Bool := decide (errs.dedup.length ≤ 15)

/-- Whether a flit contains a symbol of an uncorrectable codeword (R289). -/
def Flit.uncorrectable (f : Flit) : Bool := f.spoiled || f.codewords.any (fun e => !fecCorrects e)

/-- The lane positions of the symbols that FEC corrected with a flit, on a port of a width. -/
def Flit.correctedLanes (f : Flit) (width : Nat) : List Nat :=
  ((f.codewords.filter fecCorrects).map (fun e => e.dedup.map (symbolLane width))).flatten

/-- The codewords that FEC could not correct with a flit. -/
def Flit.lostCodewords (f : Flit) : Nat := (f.codewords.filter (fun e => !fecCorrects e)).length

/-- The symbols of a codeword that a lane position carries. -/
def laneSymbols (width lane : Nat) (word : List Nat) : List Nat :=
  ((List.range word.length).filter (fun i => symbolLane width i == lane)).map (fun i => word.getD i 0)

/-- The bits of a flit, slot 0 first, its lowest bit first. -/
def Flit.toNat (f : Flit) : Nat := pack (((f.slot0 :: f.slots).map (fun x => (256, x.toNat))))

/-- The data symbols of a run of flits: ten bits each, the last filled up with zeros. -/
def flitSymbols (fs : List Flit) : List Nat :=
  let v := pack (fs.map (fun f => (2048, f.toNat)))
  (List.range (ceilDiv (2048 * fs.length) 10)).map (fun i => bits v (10 * i) 10)

/-- What the lanes of a port carry for a run of flits, codeword after codeword (DESIGN CHOICE, log entry 130: the first symbol
of the run opens a codeword). -/
def laneStream (width lane : Nat) (fs : List Flit) : List Nat :=
  let xs := flitSymbols fs
  ((List.range (ceilDiv xs.length 514)).map (fun k =>
    let d := (xs.drop (514 * k)).take 514
    laneSymbols width lane (rsCodeword (d ++ List.replicate (514 - d.length) 0)))).flatten

end Sys2Proof.Machine
end

