-- ==== Sys2Proof/Config.lean ====
section
/-! DEFINITION. What a device, a board or a standard outside the spec fixes: opaque constants with no body. Each is
a free value (log entries 5, 7 and 129): no proof sees it, and a statement about one holds for every value of it. -/

namespace Sys2Proof.Config

/-- Object 2000.02 (R6, R451): true for stepping C, false for stepping B. -/
opaque steppingIsC : Bool
/-- Object 2000.04 (R451): the package serial number. -/
opaque deviceSerial : BitVec 128
/-- The device secret that the PUF yields at every start (R399): unique to the device, not given. -/
opaque deviceSecret : BitVec 256
/-- The manufacturer code of `IDCODE` bits [11:1] (R429). -/
opaque manufacturerCode : BitVec 11
/-- Save-list entry n (R386): fixed per stepping, not given. -/
opaque saveListEntry : Nat → BitVec 64

/-- The n-th fresh 512-bit XTS key pair of the key engine's random source (R412). -/
opaque freshXtsKey : Nat → BitVec 512
/-- The n-th fresh 256-bit codec key (R412). -/
opaque freshCodecKey : Nat → BitVec 256
/-- The n-th free 64-bit value: a value the spec calls undefined or leaves unstated (log entry 5). -/
opaque freeWord : Nat → Word64
/-- The n-th free line of 128 bytes (log entry 5). -/
opaque freeLine : Nat → LineBits

/-- The `version` of the image shipped in a boot image: boot image × 4 + kind (R451; log entry 1). -/
opaque factoryVersion : Nat → BitVec 32
/-- The payload digest that stands for the shipped firmware of a boot image (R399). -/
opaque factoryMeasurement : Nat → BitVec 512

/-- The 15 Reed-Solomon check symbols over 129 bytes of a stored line (R124): the spec gives the field and neither its
polynomial nor the code's generator. -/
opaque checkSymbols : Nat → BitVec 120
/-- Whether a DER chain verifies and its last certificate binds the device key (R402). -/
opaque chainOk : Nat → Bool
/-- The length in bytes of a DER chain (R402). -/
opaque chainLen : Nat → Nat
/-- The slot-0 chain of a firmware measurement: its bytes (R401). -/
opaque slot0Chain : Nat → Nat
/-- Whether a digest of a signer stands in the steward ROM's list of firmware keys (R407). -/
opaque romFirmwareKey : Nat → Bool
/-- What a session reads of the package besides its messages (R403-R405): the port's role, objects 2E20.01 and 2E20.02, the
slot-1 chain, and what the measurements show: the images in force, the strapped boot image and the security counters. -/
structure SpdmView where
  role : Nat
  mutualAuth : Nat
  minFw : Nat
  chain : Nat × Nat
  fw : Option (Nat × Nat)
  cfg : Option (Nat × Nat)
  bootB : Bool
  fwCounter : Nat
  cfgCounter : Nat
  deriving DecidableEq, Repr

/-- The SPDM responder (R362, R403): the package, session state, request; response as (byte count, bytes). -/
opaque spdmRespond : SpdmView → Nat → Nat → Nat × Nat
/-- The first SPDM request on a link (R404), by the peer's parameter block: byte count, bytes. -/
opaque spdmStart : Nat → Nat × Nat
/-- The SPDM `KEY_UPDATE` request of a session (R298). -/
opaque spdmKeyUpdate : Nat → Nat × Nat
/-- The state of an SPDM session after a message. -/
opaque spdmNext : SpdmView → Nat → Nat → Nat
/-- What an SPDM message does to its link (R298, R405): 0 the session goes on, 1 keys of both directions, 2 the session is
refused, 3 the keys are updated. -/
opaque spdmOutcome : SpdmView → Nat → Nat → Fin 4
/-- The SPDM error code of a refused session (R405). -/
opaque spdmError : SpdmView → Nat → Nat → Nat
/-- What a link's SPDM session derives: the key and the salt of a direction (R298, R406). -/
opaque linkKey : Nat → Nat
/-- The salt of a link key (R406). -/
opaque linkSalt : Nat → BitVec 32

/-- Where the result of `EXP2` lies (R152 bounds the error by 2 ulp and gives no value): one below the exact value's truncation,
that, or one or two above it. -/
opaque exp2Place : F32 → Fin 4
/-- The binary32 of an MX element whose exact value binary32 cannot hold (R148 calls the conversion exact): bits, format,
scale (log entry 5). -/
opaque mxToF32 : Nat → Nat → Nat → Nat
/-- The binary32 of an INT32 that binary32 cannot hold exactly (R148; log entry 5). -/
opaque int32ToF32 : Nat → Nat
/-- An element of an MX output block whose scale is NaN (R149): format and element (log entry 5). -/
opaque mxNanElement : Nat → Nat → Nat
/-- Which of its core's engines holds and converts a line of a reduce slot (R151, R156, R158 name none): slot and line. -/
opaque reduceEngine : Nat → Nat → Fin 8
/-- The input voltage in mV at a local time (object 2D00.01): a reading of the world outside. -/
opaque inputMillivolts : Nat → Nat
/-- How many records the steward firmware has removed from its queue when the n-th period ends (R367 promises no rate). -/
opaque stewardTakes : Nat → Nat
/-- Whether a bit of the entry that the n-th search selects has flipped by itself (R219): no rule says when one does. -/
opaque searchFlip : Nat → Bool
/-- How many entries before and after an entry of a partition lie in its line of the search backing store (R221): the spec
gives the store no layout (log entry 31). -/
opaque backingRun : Nat → Nat → Fin 16 × Fin 16
/-- Whether the n-th stack read with more than 11 erroneous symbols is detected (R125 gives no promise). -/
opaque detectsBeyond11 : Nat → Bool

end Sys2Proof.Config
end

