-- ==== Sys2Proof/Machine/Crypto.lean ====
section
/-! DEFINITION. The standards that the spec names and does not restate, from their own texts (PRESUMED, log entry 6): AES-256
(FIPS 197) in XTS (IEEE 1619) and GCM (SP 800-38D), SHAKE256 (FIPS 202), Ed448 verification (RFC 8032); and the stored line
of a stack (R123-R125). Byte strings are numbers, byte 0 least significant. -/

namespace Sys2Proof.Machine

/-- The first n bytes of a number. -/
def bytesOf (n v : Nat) : List Nat := (List.range n).map (fun i => bits v (8 * i) 8)

/-- The number that bytes spell. -/
def ofBytes : List Nat → Nat
  | [] => 0
  | b :: r => b % 256 + 256 * ofBytes r

/-- Byte-wise exclusive or. -/
def xorBytes (a b : List Nat) : List Nat := List.zipWith (fun x y => x ^^^ y) a b

/-! ## AES-256 -/

/-- Multiply by x in the field of AES. -/
def xtime (a : Nat) : Nat := if a < 128 then 2 * a else (2 * a) ^^^ 0x11B

/-- Multiply in the field of AES: n bits of b. -/
def gfMul : Nat → Nat → Nat → Nat
  | 0, _, _ => 0
  | n + 1, a, b => (if b % 2 = 1 then a else 0) ^^^ gfMul n (xtime a) (b / 2)

/-- The inverse in the field of AES, a^254; 0 for 0. -/
def gfInv (a : Nat) : Nat :=
  ((List.range 7).foldl (fun x _ => let sq := gfMul 8 x.1 x.1; (sq, gfMul 8 x.2 sq)) (a, 1)).2

/-- Rotate a byte left. -/
def rotByte (a n : Nat) : Nat := (a * 2 ^ n) % 256 + a / 2 ^ (8 - n)

/-- The S-box. -/
def subByte (a : Nat) : Nat :=
  let i := gfInv a
  i ^^^ rotByte i 1 ^^^ rotByte i 2 ^^^ rotByte i 3 ^^^ rotByte i 4 ^^^ 0x63

/-- The inverse S-box. -/
def invSubByte (a : Nat) : Nat := gfInv (rotByte a 1 ^^^ rotByte a 3 ^^^ rotByte a 6 ^^^ 5)

/-- Expand a key: n more words of four bytes, newest first. -/
def keyWords : Nat → List (List Nat) → List (List Nat)
  | 0, ws => ws
  | n + 1, ws =>
    let i := ws.length
    let t := ws.headD []
    let u := if i % 8 = 0 then
        xorBytes ((t.drop 1 ++ t.take 1).map subByte) [(List.range (i / 8 - 1)).foldl (fun r _ => xtime r) 1, 0, 0, 0]
      else if i % 8 = 4 then t.map subByte else t
    keyWords n (xorBytes (ws.getD 7 []) u :: ws)

/-- The fifteen round keys of a 256-bit key. -/
def roundKeys (key : Nat) : List (List Nat) :=
  let ws := (keyWords 52 (((List.range 8).map (fun i => bytesOf 4 (bits key (32 * i) 32))).reverse)).reverse
  (List.range 15).map (fun r => ((ws.drop (4 * r)).take 4).flatten)

/-- Rotate row r of the block by r columns, left or (`back`) right. -/
def shiftRows (back : Bool) (b : List Nat) : List Nat :=
  (List.range 16).map (fun i => b.getD ((i + (if back then 12 else 4) * (i % 4)) % 16) 0)

/-- Multiply each column by a circulant matrix. -/
def mixColumns (m : List Nat) (b : List Nat) : List Nat :=
  (List.range 16).map (fun i => (List.range 4).foldl (fun x j =>
    x ^^^ gfMul 8 (b.getD (i / 4 * 4 + j) 0) (m.getD ((j + 4 - i % 4) % 4) 0)) 0)

/-- Encrypt one block of 16 bytes under round keys. -/
def aesBlock (ks : List (List Nat)) (b : List Nat) : List Nat :=
  let mid := ((ks.drop 1).take 13).foldl (fun x k => xorBytes (mixColumns [2, 3, 1, 1] (shiftRows false (x.map subByte))) k)
    (xorBytes b (ks.headD []))
  xorBytes (shiftRows false (mid.map subByte)) (ks.getD 14 [])

/-- Decrypt one block. -/
def aesUnblock (ks : List (List Nat)) (b : List Nat) : List Nat :=
  let mid := ((ks.drop 1).take 13).reverse.foldl
    (fun x k => mixColumns [14, 11, 13, 9] (xorBytes ((shiftRows true x).map invSubByte) k)) (xorBytes b (ks.getD 14 []))
  xorBytes ((shiftRows true mid).map invSubByte) (ks.headD [])

/-- One block as numbers. -/
def aesNat (ks : List (List Nat)) (v : Nat) : Nat := ofBytes (aesBlock ks (bytesOf 16 v))

/-! ## XTS (R124) -/

/-- The tweak of the next block of a data unit. -/
def nextTweak (t : Nat) : Nat := (2 * t) % 2 ^ 128 ^^^ (if t < 2 ^ 127 then 0 else 0x87)

/-- The blocks of a data unit through a block function, each between two additions of its tweak. -/
def xtsBlocks (f : List Nat → List Nat) : Nat → Nat → Nat → Nat
  | 0, _, _ => 0
  | n + 1, t, v =>
    (ofBytes (f (bytesOf 16 (v % 2 ^ 128 ^^^ t))) ^^^ t) + 2 ^ 128 * xtsBlocks f n (nextTweak t) (v / 2 ^ 128)

/-- The first tweak of a data unit, under the second key of the pair. -/
def firstTweak (key : BitVec 512) (tweak : BitVec 128) : Nat := aesNat (roundKeys (bits key.toNat 256 256)) tweak.toNat

/-- AES-256-XTS of one 128-byte data unit of eight blocks (R124): the pair's first key is that of the data. -/
@[irreducible] def xtsEncrypt (key : BitVec 512) (tweak : BitVec 128) (d : LineBits) : LineBits :=
  BitVec.ofNat 1024 (xtsBlocks (aesBlock (roundKeys (bits key.toNat 0 256))) 8 (firstTweak key tweak) d.toNat)

/-- Its inverse. -/
@[irreducible] def xtsDecrypt (key : BitVec 512) (tweak : BitVec 128) (d : LineBits) : LineBits :=
  BitVec.ofNat 1024 (xtsBlocks (aesUnblock (roundKeys (bits key.toNat 0 256))) 8 (firstTweak key tweak) d.toNat)

/-! ## GCM (R297) -/

/-- Sixteen bytes as GCM's number, byte 0 most significant. -/
def beNat (b : List Nat) : Nat := b.foldl (fun n x => 256 * n + x % 256) 0

/-- GCM's product: n bits of y from its top, v the shifted x. -/
def ghashMul : Nat → Nat → Nat → Nat → Nat
  | 0, _, _, z => z
  | n + 1, y, v, z =>
    ghashMul n y (if v % 2 = 1 then (v / 2) ^^^ (0xE1 * 2 ^ 120) else v / 2) (if bit y n then z ^^^ v else z)

/-- Pad to whole blocks of 16 bytes. -/
def padBlocks (b : List Nat) : List Nat := b ++ List.replicate ((16 - b.length % 16) % 16) 0

/-- GCM's hash of padded bytes. -/
def ghash (h : Nat) (b : List Nat) : Nat :=
  (List.range (b.length / 16)).foldl (fun y i => ghashMul 128 (y ^^^ beNat ((b.drop (16 * i)).take 16)) h 0) 0

/-- The counter block i of a nonce. -/
def gcmCounter (nonce : BitVec 96) (i : Nat) : List Nat := bytesOf 12 nonce.toNat ++ (bytesOf 4 i).reverse

/-- The key stream of n blocks. -/
def gcmStream (ks : List (List Nat)) (nonce : BitVec 96) (n : Nat) : List Nat :=
  ((List.range n).map (fun i => aesBlock ks (gcmCounter nonce (i + 2)))).flatten

/-- AES-256-GCM of slots: encryption, and decryption, which is the same. -/
@[irreducible] def gcmSlots (key : Nat) (nonce : BitVec 96) (slots : List Slot) : List Slot :=
  let ks := gcmStream (roundKeys (key % 2 ^ 256)) nonce (2 * slots.length)
  slots.zipIdx.map (fun x => BitVec.ofNat 256 (x.1.toNat ^^^ ofBytes ((ks.drop (32 * x.2)).take 32)))

/-- The AES-256-GCM tag over 12 bytes of additional data and the cipher slots. -/
@[irreducible] def gcmTag (key : Nat) (nonce aad : BitVec 96) (cipher : List Slot) : BitVec 128 :=
  let ks := roundKeys (key % 2 ^ 256)
  let c := (cipher.map (fun x => bytesOf 32 x.toNat)).flatten
  let lens := (bytesOf 8 96).reverse ++ (bytesOf 8 (8 * c.length)).reverse
  let y := ghash (beNat (aesBlock ks (List.replicate 16 0))) (padBlocks (bytesOf 12 aad.toNat) ++ padBlocks c ++ lens)
  BitVec.ofNat 128 (ofBytes (xorBytes (aesBlock ks (gcmCounter nonce 1)) (bytesOf 16 y).reverse))

/-! ## SHAKE256 -/

/-- Rotate a 64-bit lane left. -/
def rotLane (a n : Nat) : Nat := (a * 2 ^ n) % 2 ^ 64 + a / 2 ^ (64 - n)

/-- Rotation of each lane, x + 5y. -/
def laneRotations : List Nat :=
  [0, 1, 62, 28, 27, 36, 44, 6, 55, 20, 3, 10, 43, 25, 39, 41, 45, 15, 21, 8, 18, 2, 61, 56, 14]

/-- The round constants. -/
def roundConstants : List Nat :=
  [0x0000000000000001, 0x0000000000008082, 0x800000000000808A, 0x8000000080008000, 0x000000000000808B,
   0x0000000080000001, 0x8000000080008081, 0x8000000000008009, 0x000000000000008A, 0x0000000000000088,
   0x0000000080008009, 0x000000008000000A, 0x000000008000808B, 0x800000000000008B, 0x8000000000008089,
   0x8000000000008003, 0x8000000000008002, 0x8000000000000080, 0x000000000000800A, 0x800000008000000A,
   0x8000000080008081, 0x8000000000008080, 0x0000000080000001, 0x8000000080008008]

/-- One round of the permutation over 25 lanes. -/
def keccakRound (a : List Nat) (rc : Nat) : List Nat :=
  let at5 : List Nat → Nat → Nat → Nat := fun l x y => l.getD (x % 5 + 5 * (y % 5)) 0
  let c := (List.range 5).map (fun x => (List.range 5).foldl (fun n y => n ^^^ at5 a x y) 0)
  let d := (List.range 5).map (fun x => c.getD ((x + 4) % 5) 0 ^^^ rotLane (c.getD ((x + 1) % 5) 0) 1)
  let t := (List.range 25).map (fun i => rotLane (a.getD i 0 ^^^ d.getD (i % 5) 0) (laneRotations.getD i 0))
  let b := (List.range 25).map (fun i => at5 t (i % 5 + 3 * (i / 5)) (i % 5))
  let e := (List.range 25).map (fun i =>
    at5 b (i % 5) (i / 5) ^^^ ((2 ^ 64 - 1 - at5 b (i % 5 + 1) (i / 5)) &&& at5 b (i % 5 + 2) (i / 5)))
  (e.headD 0 ^^^ rc) :: e.drop 1

/-- The permutation. -/
def keccak (a : List Nat) : List Nat := roundConstants.foldl keccakRound a

/-- Absorb n blocks of 136 bytes. -/
def absorb : Nat → Nat → List Nat → List Nat
  | 0, _, a => a
  | n + 1, v, a =>
    absorb n (v / 2 ^ 1088) (keccak (a.zipIdx.map (fun x => if x.2 < 17 then x.1 ^^^ bits v (64 * x.2) 64 else x.1)))

/-- Squeeze n blocks of 136 bytes. -/
def squeeze : Nat → List Nat → Nat
  | 0, _ => 0
  | n + 1, a => bits (ofBytes ((a.map (bytesOf 8)).flatten)) 0 1088 + 2 ^ 1088 * squeeze n (keccak a)

/-- SHAKE256 (R137, R386, R399, R407): message length in bytes, message, output bytes. -/
@[irreducible] def shake256 (len v out : Nat) : Nat :=
  let n := len / 136 + 1
  let padded := bits v 0 (8 * len) + 0x1F * 2 ^ (8 * len)
  squeeze (out / 136 + 1) (absorb n (padded ^^^ (0x80 * 2 ^ (8 * (136 * n - 1)))) (List.replicate 25 0)) % 2 ^ (8 * out)

/-! ## Ed448 (R407, R411) -/

/-- The field's modulus. -/
abbrev edP : Nat := 2 ^ 448 - 2 ^ 224 - 1

/-- The curve's constant d = -39081. -/
abbrev edD : Nat := edP - 39081

/-- The order of the base point. -/
abbrev edL : Nat := 2 ^ 446 - 13818066809895115352007386748515426880336692474882178609894547503885

/-- b^e mod the modulus, by n bits of e. -/
def edPow : Nat → Nat → Nat → Nat
  | 0, _, _ => 1
  | n + 1, b, e => (if e % 2 = 1 then b else 1) * edPow n (b * b % edP) (e / 2) % edP

/-- A point (X, Y, Z) with x = X/Z and y = Y/Z. -/
abbrev EdPoint := Nat × Nat × Nat

/-- The base point. -/
def edBase : EdPoint :=
  (224580040295924300187604334099896036246789641632564134246125461686950415467406032909029192869357953282578032075146446173674602635247710,
   298819210078481492676017930443930673437544040154080242095928241372331506189835876003536878655418784733982303233503462500531545062832660, 1)

/-- The sum of two points. -/
def edAdd (p q : EdPoint) : EdPoint :=
  let a := p.2.2 * q.2.2 % edP
  let b := a * a % edP
  let c := p.1 * q.1 % edP
  let d := p.2.1 * q.2.1 % edP
  let e := edD * c % edP * d % edP
  let f := (b + edP - e) % edP
  let g := (b + e) % edP
  let h := ((p.1 + p.2.1) * (q.1 + q.2.1) + 2 * edP - c - d) % edP
  (a * f % edP * h % edP, a * g % edP * ((d + edP - c) % edP) % edP, f * g % edP)

/-- k times a point, by n bits of k. -/
def edMul : Nat → Nat → EdPoint → EdPoint
  | 0, _, _ => (0, 1, 1)
  | n + 1, k, p => (fun r => if k % 2 = 1 then edAdd p r else r) (edMul n (k / 2) (edAdd p p))

/-- Whether two points are the same. -/
def edSame (p q : EdPoint) : Bool :=
  decide (p.1 * q.2.2 % edP = q.1 * p.2.2 % edP) && decide (p.2.1 * q.2.2 % edP = q.2.1 * p.2.2 % edP)

/-- The point that 57 bytes encode. -/
def edDecode (v : Nat) : Option EdPoint :=
  let y := bits v 0 455
  let u := (y * y + edP - 1) % edP
  let w := (edD * (y * y % edP) + edP - 1) % edP
  let x := u * u % edP * u % edP * w % edP *
    edPow 448 (u * u % edP * (u * u % edP) % edP * u % edP * (w * w % edP * w % edP) % edP) ((edP - 3) / 4) % edP
  if edP ≤ y ∨ w * (x * x % edP) % edP ≠ u then none
  else if x = 0 ∧ bit v 455 then none
  else some (if decide (x % 2 = 1) = bit v 455 then x else edP - x, y, 1)

/-- The contexts of signatures, as length and bytes: 0 none, 1 "ZX964-IMG" (R407). -/
def edContext (c : Nat) : Nat × Nat := if c = 1 then (9, ofBytes [0x5A, 0x58, 0x39, 0x36, 0x34, 0x2D, 0x49, 0x4D, 0x47]) else (0, 0)

/-- Ed448 verification (R407, R411): context, key, message length in bytes, message, signature. -/
@[irreducible] def ed448Verify (context key len msg sig : Nat) : Bool :=
  let (cl, cv) := edContext context
  let head := ofBytes [0x53, 0x69, 0x67, 0x45, 0x64, 0x34, 0x34, 0x38, 0, cl] + 2 ^ 80 * (cv % 2 ^ (8 * cl))
  let pre := 10 + cl
  let m := head + 2 ^ (8 * pre) * (bits sig 0 456 + 2 ^ 456 * (bits key 0 456 + 2 ^ 456 * bits msg 0 (8 * len)))
  let k := shake256 (pre + 114 + len) m 114 % edL
  let t := bits sig 456 456
  match edDecode (bits key 0 456), edDecode (bits sig 0 456) with
  | some a, some r => decide (t < edL) && edSame (edMul 446 t edBase) (edAdd r (edMul 446 k a))
  | _, _ => false

/-! ## The stored line of a stack (R123-R125) -/

/-- A line as a stack stores it (R123, R124): 128 encrypted bytes, the meta byte with the poison mark, and 15 check symbols
over both. -/
def storedLine (key : BitVec 512) (tweak : BitVec 128) (d : LineBits) (poison : Bool) : Nat :=
  let body := (xtsEncrypt key tweak d).toNat + (if poison then 2 ^ 1024 else 0)
  body + 2 ^ 1032 * (Config.checkSymbols body).toNat

/-- What a checked and corrected stored line holds (R123): the line, decrypted, and its poison mark. -/
def loadedLine (key : BitVec 512) (tweak : BitVec 128) (v : Nat) : LineBits × Bool :=
  (xtsDecrypt key tweak (BitVec.ofNat 1024 v), bit v 1024)

end Sys2Proof.Machine
end

