-- ==== Sys2Proof/Machine/Identity.lean ====
section
/-! DEFINITION. The device secret and the keys derived from it (R399-R401), and the wrapping of composition keys (R414): Ed448
public keys (RFC 8032) and AES-256 key wrap (RFC 3394), from their own texts (PRESUMED, log entry 6). -/

namespace Sys2Proof.Machine

/-! ## Ed448 public keys -/

/-- The scalar of a private seed of 57 bytes: its hash, pruned. -/
def edScalar (seed : Nat) : Nat := 4 * bits (shake256 57 seed 114) 2 445 + 2 ^ 447

/-- The 57 bytes that encode a point. -/
def edEncode (p : EdPoint) : Nat :=
  let z := edPow 448 p.2.2 (edP - 2)
  p.2.1 * z % edP + 2 ^ 455 * (p.1 * z % edP % 2)

/-- `ed448_key` of R399: the public key of a seed. -/
@[irreducible] def edPublic (seed : Nat) : Nat := edEncode (edMul 448 (edScalar seed) edBase)

/-! ## Derivation (R399) -/

/-- SHAKE256 of the device secret, a label and what follows it: the label's bytes, the number of bytes after it, those bytes and
the bytes of output. -/
def deriveSecret (label : List Nat) (len v out : Nat) : Nat :=
  shake256 (32 + label.length + len) (Config.deviceSecret.toNat + 2 ^ 256 * (ofBytes label + 2 ^ (8 * label.length) * v)) out

/-- "DEVICE-ID". -/
def labelDeviceId : List Nat := [0x44, 0x45, 0x56, 0x49, 0x43, 0x45, 0x2D, 0x49, 0x44]
/-- "ALIAS". -/
def labelAlias : List Nat := [0x41, 0x4C, 0x49, 0x41, 0x53]
/-- "WRAP". -/
def labelWrap : List Nat := [0x57, 0x52, 0x41, 0x50]
/-- "META". -/
def labelMeta : List Nat := [0x4D, 0x45, 0x54, 0x41]

/-- Object 2E00.01: the public device key, the same at every start (R400). -/
def deviceKey : Nat := edPublic (deriveSecret labelDeviceId 0 0 57)

/-- The DICE layer-1 secret of a firmware measurement of 64 bytes. -/
def layerOneSecret (m1 : Nat) : Nat := deriveSecret [] 64 (m1 % 2 ^ 512) 64

/-- Object 2E00.02: the alias key, which changes only with the firmware measurement (R400). -/
def aliasKey (m1 : Nat) : Nat := edPublic (shake256 69 (layerOneSecret m1 + 2 ^ 512 * ofBytes labelAlias) 57)

/-- The wrapping key of a count of cold starts, four bytes in the manual's byte order (DEDUCED, log entry 123). -/
def wrapKey (coldStarts : Nat) : Nat := deriveSecret labelWrap 4 (coldStarts % 2 ^ 32) 32

/-- The metadata key of a count of cold starts: an XTS pair. -/
def metaKey (coldStarts : Nat) : BitVec 512 := BitVec.ofNat 512 (deriveSecret labelMeta 4 (coldStarts % 2 ^ 32) 64)

/-- A line of the metadata reservation as its stack stores it (R124). -/
def reservationLine (coldStarts n : Nat) (d : LineBits) : Nat := storedLine (metaKey coldStarts) (BitVec.ofNat 128 n) d false

/-! ## Key wrap (R414) -/

/-- The initial value of the wrap, which the unwrap must find again. -/
def wrapMark : List Nat := List.replicate 8 0xA6

/-- Step t of the wrap over n half blocks: the register and the half blocks. -/
def wrapStep (ks : List (List Nat)) (n : Nat) (x : List Nat × List (List Nat)) (t : Nat) : List Nat × List (List Nat) :=
  let b := aesBlock ks (x.1 ++ x.2.getD (t % n) [])
  (xorBytes (b.take 8) (bytesOf 8 (t + 1)).reverse, x.2.set (t % n) (b.drop 8))

/-- The step that undoes it. -/
def unwrapStep (ks : List (List Nat)) (n : Nat) (x : List Nat × List (List Nat)) (t : Nat) : List Nat × List (List Nat) :=
  let b := aesUnblock ks (xorBytes x.1 (bytesOf 8 (t + 1)).reverse ++ x.2.getD (t % n) [])
  (b.take 8, x.2.set (t % n) (b.drop 8))

/-- Wrap n half blocks of 8 bytes: n + 1 half blocks. -/
@[irreducible] def keyWrap (key n v : Nat) : Nat :=
  let ks := roundKeys (key % 2 ^ 256)
  let x := (List.range (6 * n)).foldl (wrapStep ks n) (wrapMark, (List.range n).map (fun i => bytesOf 8 (bits v (64 * i) 64)))
  ofBytes (x.1 ++ x.2.flatten)

/-- Unwrap to n half blocks; none where the integrity check fails. -/
@[irreducible] def keyUnwrap (key n v : Nat) : Option Nat :=
  let ks := roundKeys (key % 2 ^ 256)
  let x := (List.range (6 * n)).reverse.foldl (unwrapStep ks n)
    (bytesOf 8 v, (List.range n).map (fun i => bytesOf 8 (bits v (64 * (i + 1)) 64)))
  if x.1 = wrapMark then some (ofBytes x.2.flatten) else none

end Sys2Proof.Machine
end

