-- ==== Sys2Proof/Machine/ObjTable.lean ====
section
/-! DEFINITION. The object dictionary as a table: one row per object of the object tables (R349, R350, R355). -/

namespace Sys2Proof.Machine

/-- Object types (R350). -/
inductive ObjKind where
  | uint | i32 | bool | enum | bytes | str
  deriving DecidableEq, Repr

/-- One row of an object table: object (index × 256 + subindex), type, bytes, access of the four requester classes
(bit 0 read, bit 1 write), the selectors that address it (R449 order), whether it belongs to the mirrored set (R307), is a
staging object (R359), is an error count (R448), and the range of values a write may carry. -/
structure ObjRow where
  obj : Nat
  kind : ObjKind
  bytes : Nat
  acc : Nat × Nat × Nat × Nat
  sels : List Nat := []
  mirrored : Bool := false
  staged : Bool := false
  errCount : Bool := false
  lo : Nat := 0
  hi : Nat
  deriving DecidableEq, Repr

/-- Rows of the object tables, part 1. -/
def objRows0 : List ObjRow := [
  ⟨0x100000, .uint, 4, (1, 1, 1, 1), [], false, false, false, 0, 2 ^ 32 - 1⟩,
  ⟨0x101800, .uint, 1, (1, 1, 1, 1), [], false, false, false, 0, 2 ^ 8 - 1⟩,
  ⟨0x101801, .uint, 4, (1, 1, 1, 1), [], false, false, false, 0, 2 ^ 32 - 1⟩,
  ⟨0x101802, .uint, 4, (1, 1, 1, 1), [], false, false, false, 0, 2 ^ 32 - 1⟩,
  ⟨0x101803, .uint, 4, (1, 1, 1, 1), [], false, false, false, 0, 2 ^ 32 - 1⟩,
  ⟨0x101804, .uint, 4, (1, 1, 1, 1), [], false, false, false, 0, 2 ^ 32 - 1⟩,
  ⟨0x200001, .uint, 1, (1, 1, 1, 1), [], false, false, false, 0, 2 ^ 8 - 1⟩,
  ⟨0x200002, .enum, 1, (1, 1, 1, 1), [], false, false, false, 0, 2 ^ 8 - 1⟩,
  ⟨0x200003, .uint, 1, (1, 1, 1, 1), [], false, false, false, 0, 2 ^ 8 - 1⟩,
  ⟨0x200004, .bytes, 16, (1, 1, 1, 1), [], false, false, false, 0, 2 ^ 128 - 1⟩,
  ⟨0x200005, .uint, 4, (1, 1, 1, 1), [], false, false, false, 0, 2 ^ 32 - 1⟩,
  ⟨0x200006, .uint, 4, (1, 1, 1, 1), [], false, false, false, 0, 2 ^ 32 - 1⟩,
  ⟨0x200007, .enum, 1, (1, 1, 1, 1), [], false, false, false, 0, 2 ^ 8 - 1⟩,
  ⟨0x200008, .str, 64, (1, 1, 1, 1), [], false, false, false, 0, 2 ^ 512 - 1⟩,
  ⟨0x210001, .uint, 2, (3, 0, 0, 3), [], false, false, false, 0, 4095⟩,
  ⟨0x210002, .uint, 8, (3, 1, 0, 1), [0x210001], false, false, false, 0, 2 ^ 64 - 1⟩,
  ⟨0x210003, .uint, 1, (3, 1, 1, 1), [], false, false, false, 0, 63⟩,
  ⟨0x211001, .uint, 2, (3, 0, 0, 3), [], false, false, false, 0, 2 ^ 16 - 1⟩,
  ⟨0x211002, .bytes, 32, (3, 1, 0, 1), [0x211001], true, true, false, 0, 2 ^ 256 - 1⟩,
  ⟨0x211003, .enum, 1, (2, 0, 0, 0), [0x211001], false, false, false, 1, 4⟩,
  ⟨0x211004, .enum, 1, (1, 0, 0, 1), [], false, false, false, 0, 2 ^ 8 - 1⟩,
  ⟨0x211101, .uint, 4, (3, 1, 0, 1), [], false, false, false, 10, 65535⟩,
  ⟨0x211102, .uint, 4, (3, 1, 0, 1), [], false, false, true, 0, 0⟩,
  ⟨0x211201, .uint, 1, (3, 3, 0, 1), [], false, false, false, 0, 127⟩,
  ⟨0x211202, .uint, 1, (3, 3, 0, 1), [], false, false, false, 0, 2 ^ 8 - 1⟩,
  ⟨0x211203, .uint, 8, (3, 3, 1, 1), [0x211201, 0x211202], true, false, false, 0, 2 ^ 64 - 1⟩,
  ⟨0x212001, .uint, 1, (3, 0, 0, 3), [], false, false, false, 0, 63⟩,
  ⟨0x212002, .enum, 1, (3, 1, 0, 1), [0x212001], false, false, false, 0, 2⟩,
  ⟨0x212003, .uint, 1, (3, 0, 0, 3), [], false, false, false, 0, 2 ^ 8 - 1⟩,
  ⟨0x212004, .enum, 1, (3, 1, 0, 1), [0x212003], false, false, false, 0, 3⟩,
  ⟨0x212005, .bool, 1, (3, 1, 0, 3), [0x212003], false, false, false, 0, 1⟩,
  ⟨0x212006, .enum, 1, (2, 0, 0, 2), [0x212003], false, false, false, 1, 2⟩,
  ⟨0x212007, .enum, 1, (1, 1, 1, 1), [0x212003], false, false, false, 0, 2 ^ 8 - 1⟩,
  ⟨0x212008, .enum, 1, (1, 1, 0, 1), [0x212003], false, false, false, 0, 2 ^ 8 - 1⟩,
  ⟨0x212009, .enum, 1, (1, 1, 0, 1), [0x212003], false, false, false, 0, 2 ^ 8 - 1⟩,
  ⟨0x21200A, .bytes, 16, (3, 1, 0, 1), [0x212003], false, false, false, 0, 2 ^ 128 - 1⟩,
  ⟨0x21200B, .bytes, 32, (1, 1, 0, 1), [0x212003], false, false, false, 0, 2 ^ 256 - 1⟩,
  ⟨0x212102, .uint, 4, (3, 1, 0, 1), [0x212003], false, false, false, 100, 100000⟩,
  ⟨0x212103, .uint, 4, (3, 1, 0, 1), [0x212003], false, false, false, 1000, 100000⟩,
  ⟨0x212104, .uint, 1, (3, 1, 0, 1), [0x212003], false, false, false, 2, 15⟩]

/-- Rows of the object tables, part 2. -/
def objRows1 : List ObjRow := [
  ⟨0x213001, .bool, 1, (3, 1, 0, 1), [0x212003], false, false, false, 0, 1⟩,
  ⟨0x213002, .uint, 4, (3, 1, 0, 1), [0x212003], false, false, false, 10, 10000⟩,
  ⟨0x213003, .uint, 1, (3, 1, 0, 1), [0x212003], false, false, false, 32, 48⟩,
  ⟨0x213004, .uint, 1, (1, 1, 0, 1), [0x212003], false, false, false, 0, 2 ^ 8 - 1⟩,
  ⟨0x213005, .uint, 4, (3, 1, 0, 1), [0x212003], false, false, true, 0, 0⟩,
  ⟨0x214001, .bool, 1, (3, 1, 0, 1), [0x212003], false, false, false, 0, 1⟩,
  ⟨0x214002, .uint, 4, (3, 1, 0, 1), [0x212003], false, false, false, 10, 100000⟩,
  ⟨0x214003, .uint, 1, (1, 1, 1, 1), [0x212003], false, false, false, 0, 2 ^ 8 - 1⟩,
  ⟨0x215001, .uint, 8, (1, 1, 0, 1), [0x212003], false, false, false, 0, 2 ^ 64 - 1⟩,
  ⟨0x215002, .uint, 8, (1, 1, 0, 1), [0x212003], false, false, false, 0, 2 ^ 64 - 1⟩,
  ⟨0x215003, .uint, 4, (3, 1, 0, 1), [0x212003], false, false, true, 0, 0⟩,
  ⟨0x215004, .uint, 4, (3, 1, 0, 1), [0x212003], false, false, true, 0, 0⟩,
  ⟨0x215005, .uint, 4, (3, 1, 0, 1), [0x212003], false, false, true, 0, 0⟩,
  ⟨0x215006, .uint, 4, (3, 1, 0, 1), [0x212003], false, false, true, 0, 0⟩,
  ⟨0x215007, .uint, 4, (3, 1, 0, 1), [0x212003], false, false, true, 0, 0⟩,
  ⟨0x215008, .uint, 4, (3, 1, 0, 1), [0x212003], false, false, true, 0, 0⟩,
  ⟨0x215009, .uint, 4, (3, 1, 0, 1), [0x212003], false, false, true, 0, 0⟩,
  ⟨0x215101, .uint, 1, (3, 0, 0, 3), [], false, false, false, 0, 7⟩,
  ⟨0x215102, .uint, 4, (3, 1, 0, 1), [0x212001, 0x215101], false, false, true, 0, 0⟩,
  ⟨0x215103, .i32, 4, (1, 1, 0, 1), [0x212001, 0x215101], false, false, false, 0, 2 ^ 32 - 1⟩,
  ⟨0x215104, .uint, 4, (3, 1, 0, 1), [0x212001, 0x215101], false, false, true, 0, 0⟩,
  ⟨0x215105, .bool, 1, (1, 1, 0, 1), [0x212001, 0x215101], false, false, false, 0, 1⟩,
  ⟨0x215106, .i32, 4, (3, 1, 0, 1), [0x212001, 0x215101], false, false, false, 4294965296, 4294966796⟩,
  ⟨0x216001, .uint, 1, (3, 0, 0, 3), [], false, false, false, 0, 63⟩,
  ⟨0x216002, .i32, 4, (1, 1, 0, 1), [0x216001], false, false, false, 0, 2 ^ 32 - 1⟩,
  ⟨0x216003, .i32, 4, (3, 1, 0, 1), [0x216001], false, false, false, 1000, 2000⟩,
  ⟨0x216004, .enum, 1, (1, 1, 0, 1), [0x216001], false, false, false, 0, 2 ^ 8 - 1⟩,
  ⟨0x216005, .uint, 4, (3, 1, 0, 1), [0x216001], false, false, true, 0, 0⟩,
  ⟨0x216101, .uint, 1, (3, 0, 0, 3), [], false, false, false, 0, 15⟩,
  ⟨0x216102, .i32, 4, (1, 1, 0, 1), [0x216101], false, false, false, 0, 2 ^ 32 - 1⟩,
  ⟨0x216103, .bool, 1, (1, 1, 0, 1), [0x216101], false, false, false, 0, 1⟩,
  ⟨0x220001, .uint, 1, (3, 1, 0, 1), [], false, false, false, 0, 2 ^ 8 - 1⟩,
  ⟨0x220002, .uint, 1, (3, 1, 0, 1), [], false, false, false, 0, 3⟩,
  ⟨0x220003, .uint, 1, (3, 1, 0, 1), [], false, false, false, 2, 64⟩,
  ⟨0x220101, .uint, 8, (1, 1, 0, 1), [], false, false, false, 0, 2 ^ 64 - 1⟩,
  ⟨0x220102, .uint, 8, (1, 1, 0, 1), [], false, false, false, 0, 2 ^ 64 - 1⟩,
  ⟨0x220103, .uint, 4, (3, 1, 0, 1), [], false, false, true, 0, 0⟩,
  ⟨0x220104, .uint, 4, (3, 1, 0, 1), [], false, false, true, 0, 0⟩,
  ⟨0x221001, .uint, 4, (3, 1, 0, 1), [], false, false, false, 100, 1500⟩,
  ⟨0x221002, .uint, 4, (3, 1, 0, 1), [], false, false, false, 1, 32⟩]

/-- Rows of the object tables, part 3. -/
def objRows2 : List ObjRow := [
  ⟨0x221003, .uint, 4, (3, 1, 0, 1), [], false, false, false, 1, 1000⟩,
  ⟨0x221004, .uint, 4, (3, 1, 0, 1), [], false, false, true, 0, 0⟩,
  ⟨0x230001, .uint, 8, (1, 1, 0, 1), [], false, false, false, 0, 2 ^ 64 - 1⟩,
  ⟨0x230002, .uint, 8, (1, 1, 0, 1), [], false, false, false, 0, 2 ^ 64 - 1⟩,
  ⟨0x230003, .uint, 4, (3, 1, 0, 1), [], false, false, true, 0, 0⟩,
  ⟨0x230006, .enum, 1, (1, 1, 0, 1), [], false, false, false, 0, 2 ^ 8 - 1⟩,
  ⟨0x230201, .uint, 1, (3, 0, 0, 3), [], false, false, false, 0, 2 ^ 8 - 1⟩,
  ⟨0x230202, .uint, 8, (3, 1, 0, 1), [0x230201], false, false, false, 0, 2 ^ 64 - 1⟩,
  ⟨0x231001, .uint, 2, (3, 0, 0, 3), [], false, false, false, 0, 1023⟩,
  ⟨0x231002, .uint, 1, (3, 0, 0, 3), [], false, false, false, 0, 7⟩,
  ⟨0x231003, .uint, 8, (3, 1, 1, 1), [0x231001, 0x231002], false, false, false, 0, 2 ^ 64 - 1⟩,
  ⟨0x231004, .uint, 4, (3, 1, 1, 1), [0x231001, 0x231002], false, false, true, 0, 0⟩,
  ⟨0x232001, .uint, 2, (3, 0, 0, 3), [], false, false, false, 0, 1023⟩,
  ⟨0x232002, .uint, 4, (3, 1, 1, 1), [0x232001], false, false, false, 0, 2 ^ 32 - 1⟩,
  ⟨0x232003, .uint, 2, (3, 1, 1, 1), [0x232001], false, false, false, 1, 64⟩,
  ⟨0x232004, .uint, 8, (1, 1, 1, 1), [0x232001], false, false, false, 0, 2 ^ 64 - 1⟩,
  ⟨0x233001, .uint, 2, (3, 3, 0, 3), [], false, false, false, 0, 1023⟩,
  ⟨0x233002, .uint, 1, (1, 1, 1, 1), [0x233001], false, false, false, 0, 2 ^ 8 - 1⟩,
  ⟨0x234001, .uint, 1, (3, 0, 0, 3), [], false, false, false, 0, 2 ^ 8 - 1⟩,
  ⟨0x234002, .uint, 1, (3, 0, 0, 3), [], false, false, false, 0, 7⟩,
  ⟨0x234003, .uint, 8, (3, 1, 0, 1), [0x234001, 0x234002], false, false, false, 0, 2 ^ 64 - 1⟩,
  ⟨0x234004, .uint, 8, (1, 1, 0, 1), [0x234001, 0x234002], false, false, false, 0, 2 ^ 64 - 1⟩,
  ⟨0x235001, .uint, 1, (3, 0, 0, 3), [], false, false, false, 0, 2 ^ 8 - 1⟩,
  ⟨0x235002, .uint, 1, (3, 0, 0, 3), [], false, false, false, 0, 1⟩,
  ⟨0x235003, .uint, 1, (3, 0, 0, 3), [], false, false, false, 0, 2 ^ 8 - 1⟩,
  ⟨0x235004, .uint, 4, (3, 1, 0, 1), [0x235001, 0x235002, 0x235003], false, false, false, 0, 2 ^ 32 - 1⟩,
  ⟨0x235005, .uint, 1, (3, 1, 0, 1), [0x235001, 0x235002], false, false, false, 0, 2 ^ 8 - 1⟩,
  ⟨0x235006, .uint, 8, (3, 1, 0, 1), [0x235001], false, false, false, 0, 2 ^ 64 - 1⟩,
  ⟨0x235007, .enum, 1, (1, 1, 0, 1), [0x235001], false, false, false, 0, 2 ^ 8 - 1⟩,
  ⟨0x235008, .uint, 4, (1, 1, 1, 1), [0x235001], false, false, false, 0, 2 ^ 32 - 1⟩,
  ⟨0x235009, .uint, 8, (1, 1, 1, 1), [], false, false, false, 0, 2 ^ 64 - 1⟩,
  ⟨0x236001, .uint, 1, (3, 0, 0, 3), [], false, false, false, 0, 3⟩,
  ⟨0x236002, .uint, 1, (3, 0, 0, 3), [], false, false, false, 1, 7⟩,
  ⟨0x236003, .uint, 4, (3, 1, 0, 1), [0x236001, 0x236002], false, false, false, 0, 2 ^ 32 - 1⟩,
  ⟨0x236004, .uint, 4, (3, 1, 0, 1), [0x236001, 0x236002], false, false, false, 0, 2 ^ 32 - 1⟩,
  ⟨0x236005, .uint, 4, (3, 1, 0, 1), [0x236002], false, false, false, 0, 2 ^ 32 - 1⟩,
  ⟨0x236006, .uint, 1, (3, 1, 0, 1), [], false, false, false, 4, 32⟩,
  ⟨0x236007, .uint, 4, (1, 1, 0, 1), [0x236001, 0x236002], false, false, false, 0, 2 ^ 32 - 1⟩,
  ⟨0x236008, .uint, 8, (1, 1, 0, 1), [0x236001, 0x236002], false, false, false, 0, 2 ^ 64 - 1⟩,
  ⟨0x236009, .enum, 1, (1, 1, 0, 1), [], false, false, false, 0, 2 ^ 8 - 1⟩]

/-- Rows of the object tables, part 4. -/
def objRows3 : List ObjRow := [
  ⟨0x240001, .uint, 4, (1, 1, 1, 1), [], false, false, false, 0, 2 ^ 32 - 1⟩,
  ⟨0x240002, .uint, 4, (1, 1, 0, 1), [], false, false, false, 0, 2 ^ 32 - 1⟩,
  ⟨0x240003, .uint, 4, (1, 1, 0, 1), [], false, false, false, 0, 2 ^ 32 - 1⟩,
  ⟨0x240004, .uint, 8, (1, 1, 0, 1), [], false, false, false, 0, 2 ^ 64 - 1⟩,
  ⟨0x240005, .uint, 8, (1, 1, 0, 1), [], false, false, false, 0, 2 ^ 64 - 1⟩,
  ⟨0x240006, .uint, 4, (1, 1, 0, 1), [], false, false, false, 0, 2 ^ 32 - 1⟩,
  ⟨0x241001, .uint, 2, (3, 1, 0, 1), [], false, false, false, 0, 1000⟩,
  ⟨0x241002, .uint, 4, (3, 1, 0, 1), [], false, false, false, 10, 1000⟩,
  ⟨0x241003, .uint, 1, (3, 1, 1, 1), [], false, false, false, 0, 7⟩,
  ⟨0x241004, .uint, 4, (3, 1, 0, 1), [], false, false, true, 0, 0⟩,
  ⟨0x241005, .uint, 4, (3, 1, 0, 1), [], false, false, true, 0, 0⟩,
  ⟨0x242001, .uint, 4, (3, 1, 0, 1), [], false, false, false, 50, 100000⟩,
  ⟨0x242002, .uint, 2, (3, 0, 0, 3), [], false, false, false, 0, 1023⟩,
  ⟨0x242003, .enum, 1, (2, 0, 0, 2), [0x242002], false, false, false, 1, 2⟩,
  ⟨0x242004, .enum, 1, (1, 1, 1, 1), [0x242002], false, false, false, 0, 2 ^ 8 - 1⟩,
  ⟨0x242005, .enum, 1, (3, 1, 0, 1), [0x242002], false, false, false, 0, 1⟩,
  ⟨0x242006, .uint, 4, (3, 1, 0, 1), [], false, false, true, 0, 0⟩,
  ⟨0x243001, .bool, 1, (3, 1, 0, 1), [], false, false, false, 0, 1⟩,
  ⟨0x243002, .uint, 8, (1, 1, 0, 1), [], false, false, false, 0, 2 ^ 64 - 1⟩,
  ⟨0x243003, .uint, 8, (1, 1, 0, 1), [], false, false, false, 0, 2 ^ 64 - 1⟩,
  ⟨0x243004, .uint, 8, (1, 1, 0, 1), [], false, false, false, 0, 2 ^ 64 - 1⟩,
  ⟨0x244001, .uint, 1, (3, 3, 0, 3), [], false, false, false, 0, 127⟩,
  ⟨0x244002, .enum, 1, (3, 3, 1, 1), [0x244001], true, false, false, 0, 1⟩,
  ⟨0x244003, .uint, 4, (3, 1, 0, 1), [], false, false, true, 0, 0⟩,
  ⟨0x248001, .uint, 4, (1, 1, 1, 1), [], false, false, false, 0, 2 ^ 32 - 1⟩,
  ⟨0x248002, .uint, 4, (1, 1, 0, 1), [], false, false, false, 0, 2 ^ 32 - 1⟩,
  ⟨0x248003, .uint, 4, (3, 1, 0, 1), [], false, false, true, 0, 0⟩,
  ⟨0x248004, .uint, 4, (3, 1, 0, 1), [], false, false, true, 0, 0⟩,
  ⟨0x250001, .uint, 8, (1, 1, 1, 1), [], false, false, false, 0, 2 ^ 64 - 1⟩,
  ⟨0x250002, .uint, 8, (1, 1, 1, 1), [], false, false, false, 0, 2 ^ 64 - 1⟩,
  ⟨0x250003, .uint, 4, (1, 1, 0, 1), [], false, false, false, 0, 2 ^ 32 - 1⟩,
  ⟨0x250101, .uint, 8, (1, 1, 0, 1), [], false, false, false, 0, 2 ^ 64 - 1⟩,
  ⟨0x250102, .uint, 8, (1, 1, 0, 1), [], false, false, false, 0, 2 ^ 64 - 1⟩,
  ⟨0x250103, .uint, 8, (1, 1, 0, 1), [], false, false, false, 0, 2 ^ 64 - 1⟩,
  ⟨0x251001, .uint, 1, (3, 3, 0, 3), [], false, false, false, 0, 127⟩,
  ⟨0x251002, .uint, 4, (3, 1, 0, 1), [0x251001], true, false, false, 0, 2 ^ 32 - 1⟩,
  ⟨0x251003, .uint, 2, (3, 3, 0, 1), [0x251001], true, false, false, 10, 250⟩,
  ⟨0x251004, .uint, 2, (3, 3, 0, 1), [0x251001], true, false, false, 100, 1000⟩,
  ⟨0x251005, .uint, 1, (3, 1, 0, 1), [0x251001], true, false, false, 1, 15⟩,
  ⟨0x251006, .uint, 8, (1, 1, 1, 1), [0x251001], false, false, false, 0, 2 ^ 64 - 1⟩]

/-- Rows of the object tables, part 5. -/
def objRows4 : List ObjRow := [
  ⟨0x251007, .uint, 4, (1, 1, 1, 1), [0x251001], false, false, false, 0, 2 ^ 32 - 1⟩,
  ⟨0x251008, .enum, 1, (2, 2, 0, 0), [0x251001], false, false, false, 1, 1⟩,
  ⟨0x251009, .enum, 1, (1, 1, 0, 1), [0x251001], false, false, false, 0, 2 ^ 8 - 1⟩,
  ⟨0x252001, .uint, 1, (3, 0, 0, 3), [], false, false, false, 0, 2 ^ 8 - 1⟩,
  ⟨0x252002, .uint, 8, (3, 1, 0, 1), [0x252001], true, false, false, 0, 2 ^ 64 - 1⟩,
  ⟨0x252003, .uint, 1, (3, 0, 0, 3), [], false, false, false, 0, 31⟩,
  ⟨0x252004, .uint, 8, (3, 1, 0, 1), [0x252001, 0x252003], true, false, false, 0, 2 ^ 64 - 1⟩,
  ⟨0x252005, .uint, 4, (3, 1, 0, 1), [], false, false, false, 50, 100000⟩,
  ⟨0x252006, .uint, 1, (3, 1, 0, 1), [], false, false, false, 2, 2 ^ 8 - 1⟩,
  ⟨0x252007, .uint, 1, (3, 1, 0, 1), [], false, false, false, 0, 7⟩,
  ⟨0x252008, .uint, 4, (3, 1, 0, 1), [], false, false, false, 2, 1000⟩,
  ⟨0x252009, .uint, 4, (3, 1, 0, 1), [], false, false, true, 0, 0⟩,
  ⟨0x252010, .enum, 1, (2, 0, 0, 2), [0x252001, 0x252003], false, false, false, 1, 2⟩,
  ⟨0x254001, .uint, 1, (3, 3, 0, 3), [], false, false, false, 0, 127⟩,
  ⟨0x254002, .uint, 1, (3, 3, 3, 3), [], false, false, false, 0, 15⟩,
  ⟨0x254003, .bytes, 16, (3, 3, 1, 1), [0x254001, 0x254002], true, false, false, 0, 2 ^ 128 - 1⟩,
  ⟨0x254004, .uint, 2, (3, 3, 3, 1), [0x254001, 0x254002], true, false, false, 0, 2 ^ 16 - 1⟩,
  ⟨0x254005, .uint, 2, (3, 3, 0, 3), [], false, false, false, 0, 2 ^ 16 - 1⟩,
  ⟨0x254006, .bytes, 32, (3, 3, 1, 1), [0x254001, 0x254005], true, false, false, 0, 2 ^ 256 - 1⟩,
  ⟨0x254007, .enum, 1, (1, 1, 1, 1), [0x254001, 0x254002], false, false, false, 0, 2 ^ 8 - 1⟩,
  ⟨0x254008, .uint, 8, (1, 1, 0, 1), [0x254001, 0x254002], false, false, false, 0, 2 ^ 64 - 1⟩,
  ⟨0x256001, .uint, 2, (3, 3, 0, 3), [], false, false, false, 0, 4095⟩,
  ⟨0x256002, .bytes, 64, (3, 3, 1, 1), [0x256001], true, true, false, 0, 2 ^ 512 - 1⟩,
  ⟨0x256003, .enum, 1, (2, 2, 0, 0), [0x256001], false, false, false, 1, 2⟩,
  ⟨0x256004, .enum, 1, (1, 1, 0, 1), [], false, false, false, 0, 2 ^ 8 - 1⟩,
  ⟨0x256005, .uint, 8, (1, 1, 1, 1), [], false, false, false, 0, 2 ^ 64 - 1⟩,
  ⟨0x256006, .uint, 4, (3, 1, 0, 1), [], false, false, true, 0, 0⟩,
  ⟨0x260001, .uint, 1, (3, 0, 0, 3), [], false, false, false, 0, 3⟩,
  ⟨0x260002, .bytes, 16384, (3, 0, 0, 0), [0x260001], false, true, false, 0, 2 ^ 131072 - 1⟩,
  ⟨0x260003, .enum, 1, (2, 0, 0, 0), [0x260001], false, false, false, 1, 2⟩,
  ⟨0x260004, .enum, 1, (1, 1, 0, 1), [], false, false, false, 0, 2 ^ 8 - 1⟩,
  ⟨0x260005, .uint, 4, (1, 1, 1, 1), [0x260001], false, false, false, 0, 2 ^ 32 - 1⟩,
  ⟨0x260006, .uint, 4, (1, 1, 0, 1), [0x260001], false, false, false, 0, 2 ^ 32 - 1⟩,
  ⟨0x260101, .uint, 8, (1, 1, 0, 1), [], false, false, false, 0, 2 ^ 64 - 1⟩,
  ⟨0x260102, .uint, 4, (3, 1, 0, 1), [], false, false, true, 0, 0⟩,
  ⟨0x260103, .uint, 4, (3, 1, 0, 1), [], false, false, true, 0, 0⟩,
  ⟨0x260201, .uint, 8, (1, 1, 0, 1), [], false, false, false, 0, 2 ^ 64 - 1⟩,
  ⟨0x260202, .uint, 8, (1, 1, 0, 1), [], false, false, false, 0, 2 ^ 64 - 1⟩,
  ⟨0x260203, .uint, 8, (1, 1, 0, 1), [], false, false, false, 0, 2 ^ 64 - 1⟩,
  ⟨0x260204, .uint, 2, (1, 1, 1, 1), [], false, false, false, 0, 2 ^ 16 - 1⟩]

/-- Rows of the object tables, part 6. -/
def objRows5 : List ObjRow := [
  ⟨0x260301, .uint, 4, (3, 1, 0, 1), [], false, false, true, 0, 0⟩,
  ⟨0x260302, .uint, 4, (3, 1, 0, 1), [], false, false, true, 0, 0⟩,
  ⟨0x260303, .uint, 4, (3, 1, 0, 1), [], false, false, false, 600, 86400⟩,
  ⟨0x260304, .uint, 4, (3, 1, 0, 1), [], false, false, true, 0, 0⟩,
  ⟨0x270001, .uint, 1, (1, 1, 1, 1), [], false, false, false, 0, 2 ^ 8 - 1⟩,
  ⟨0x270002, .uint, 1, (1, 1, 1, 1), [], false, false, false, 0, 2 ^ 8 - 1⟩,
  ⟨0x271001, .uint, 1, (3, 3, 0, 3), [], false, false, false, 0, 63⟩,
  ⟨0x271002, .bytes, 32, (3, 1, 1, 1), [0x271001], true, false, false, 0, 2 ^ 256 - 1⟩,
  ⟨0x271003, .uint, 1, (3, 3, 0, 3), [], false, false, false, 0, 2 ^ 8 - 1⟩,
  ⟨0x271004, .uint, 2, (3, 1, 1, 1), [0x271001, 0x271003], true, false, false, 0, 2 ^ 16 - 1⟩,
  ⟨0x271005, .enum, 1, (2, 2, 0, 0), [0x271001], false, false, false, 1, 3⟩,
  ⟨0x271006, .enum, 1, (1, 1, 0, 1), [], false, false, false, 0, 2 ^ 8 - 1⟩,
  ⟨0x271007, .enum, 1, (1, 1, 1, 1), [0x271001], false, false, false, 0, 2 ^ 8 - 1⟩,
  ⟨0x271008, .uint, 4, (3, 1, 0, 1), [], false, false, false, 10, 100000⟩,
  ⟨0x271009, .uint, 2, (3, 1, 0, 1), [], false, false, false, 0, 4096⟩,
  ⟨0x272001, .uint, 8, (1, 1, 0, 1), [], false, false, false, 0, 2 ^ 64 - 1⟩,
  ⟨0x272002, .uint, 8, (1, 1, 0, 1), [], false, false, false, 0, 2 ^ 64 - 1⟩,
  ⟨0x272003, .uint, 4, (3, 1, 0, 1), [], false, false, true, 0, 0⟩,
  ⟨0x272004, .uint, 8, (1, 1, 0, 1), [], false, false, false, 0, 2 ^ 64 - 1⟩,
  ⟨0x272005, .uint, 8, (1, 1, 0, 1), [], false, false, false, 0, 2 ^ 64 - 1⟩,
  ⟨0x272006, .uint, 8, (1, 1, 0, 1), [], false, false, false, 0, 2 ^ 64 - 1⟩,
  ⟨0x273001, .uint, 2, (3, 1, 0, 1), [], false, false, false, 20, 2 ^ 16 - 1⟩,
  ⟨0x273002, .uint, 8, (1, 1, 0, 1), [], false, false, false, 0, 2 ^ 64 - 1⟩,
  ⟨0x280001, .uint, 4, (1, 1, 1, 1), [], false, false, false, 0, 2 ^ 32 - 1⟩,
  ⟨0x280002, .uint, 4, (1, 1, 0, 1), [], false, false, false, 0, 2 ^ 32 - 1⟩,
  ⟨0x280003, .uint, 4, (1, 1, 0, 1), [], false, false, false, 0, 2 ^ 32 - 1⟩,
  ⟨0x281001, .uint, 1, (3, 3, 0, 3), [], false, false, false, 0, 2 ^ 8 - 1⟩,
  ⟨0x281002, .bytes, 128, (3, 3, 1, 1), [0x281001], false, true, false, 0, 2 ^ 1024 - 1⟩,
  ⟨0x281003, .uint, 2, (3, 3, 0, 3), [], false, false, false, 0, 2 ^ 16 - 1⟩,
  ⟨0x281004, .bytes, 16, (3, 3, 0, 1), [0x281001, 0x281003], false, false, false, 0, 2 ^ 128 - 1⟩,
  ⟨0x281005, .enum, 1, (2, 2, 0, 0), [0x281001], false, false, false, 1, 6⟩,
  ⟨0x281006, .enum, 1, (1, 1, 0, 1), [], false, false, false, 0, 2 ^ 8 - 1⟩,
  ⟨0x281007, .enum, 1, (1, 1, 1, 1), [0x281001], false, false, false, 0, 2 ^ 8 - 1⟩,
  ⟨0x281008, .uint, 4, (3, 1, 0, 1), [0x281001], false, false, false, 0, 2 ^ 32 - 1⟩,
  ⟨0x282001, .uint, 4, (3, 1, 0, 1), [], false, false, false, 10, 1000000⟩,
  ⟨0x282002, .uint, 1, (3, 1, 0, 1), [], false, false, false, 0, 7⟩,
  ⟨0x282003, .uint, 8, (1, 1, 0, 1), [], false, false, false, 0, 2 ^ 64 - 1⟩,
  ⟨0x282004, .uint, 4, (3, 1, 0, 1), [], false, false, true, 0, 0⟩,
  ⟨0x282005, .uint, 8, (1, 1, 0, 1), [], false, false, false, 0, 2 ^ 64 - 1⟩,
  ⟨0x282006, .uint, 8, (1, 1, 0, 1), [], false, false, false, 0, 2 ^ 64 - 1⟩]

/-- Rows of the object tables, part 7. -/
def objRows6 : List ObjRow := [
  ⟨0x282007, .uint, 4, (3, 1, 0, 1), [], false, false, true, 0, 0⟩,
  ⟨0x282101, .uint, 1, (3, 3, 0, 3), [], false, false, false, 0, 23⟩,
  ⟨0x282102, .bytes, 128, (1, 1, 0, 1), [0x282101], false, false, false, 0, 2 ^ 1024 - 1⟩,
  ⟨0x290001, .uint, 4, (1, 1, 1, 1), [], false, false, false, 0, 2 ^ 32 - 1⟩,
  ⟨0x290002, .uint, 1, (1, 1, 0, 1), [], false, false, false, 0, 2 ^ 8 - 1⟩,
  ⟨0x290101, .uint, 8, (1, 1, 0, 1), [], false, false, false, 0, 2 ^ 64 - 1⟩,
  ⟨0x290102, .uint, 8, (1, 1, 0, 1), [], false, false, false, 0, 2 ^ 64 - 1⟩,
  ⟨0x290103, .uint, 8, (1, 1, 0, 1), [], false, false, false, 0, 2 ^ 64 - 1⟩,
  ⟨0x290104, .uint, 8, (1, 1, 0, 1), [], false, false, false, 0, 2 ^ 64 - 1⟩,
  ⟨0x290105, .uint, 4, (3, 1, 0, 1), [], false, false, true, 0, 0⟩,
  ⟨0x290106, .uint, 4, (3, 1, 0, 1), [], false, false, true, 0, 0⟩,
  ⟨0x290107, .uint, 4, (3, 1, 0, 1), [], false, false, true, 0, 0⟩,
  ⟨0x290108, .uint, 2, (1, 1, 1, 1), [], false, false, false, 0, 2 ^ 16 - 1⟩,
  ⟨0x291001, .uint, 1, (3, 3, 0, 3), [], false, false, false, 0, 15⟩,
  ⟨0x291002, .uint, 8, (3, 1, 1, 1), [0x291001], true, false, false, 0, 2 ^ 64 - 1⟩,
  ⟨0x291003, .enum, 1, (2, 0, 0, 0), [0x291001], false, false, false, 1, 2⟩,
  ⟨0x291004, .enum, 1, (1, 1, 0, 1), [], false, false, false, 0, 2 ^ 8 - 1⟩,
  ⟨0x291005, .enum, 1, (1, 1, 1, 1), [0x291001], false, false, false, 0, 2 ^ 8 - 1⟩,
  ⟨0x291101, .uint, 4, (3, 3, 0, 3), [], false, false, false, 0, 2 ^ 32 - 1⟩,
  ⟨0x291102, .bytes, 96, (3, 3, 1, 1), [0x291001, 0x291101], true, false, false, 0, 2 ^ 768 - 1⟩,
  ⟨0x292001, .uint, 4, (3, 1, 0, 1), [], false, false, false, 10, 10000⟩,
  ⟨0x292002, .uint, 2, (1, 1, 0, 1), [], false, false, false, 0, 2 ^ 16 - 1⟩,
  ⟨0x293001, .uint, 4, (3, 1, 0, 1), [], false, false, false, 2, 1000⟩,
  ⟨0x293002, .uint, 8, (1, 1, 0, 1), [], false, false, false, 0, 2 ^ 64 - 1⟩,
  ⟨0x2A0001, .uint, 1, (1, 1, 1, 1), [], false, false, false, 0, 2 ^ 8 - 1⟩,
  ⟨0x2A1001, .uint, 1, (3, 3, 0, 3), [], false, false, false, 0, 127⟩,
  ⟨0x2A1002, .bytes, 32, (3, 1, 1, 1), [0x2A1001], true, true, false, 0, 2 ^ 256 - 1⟩,
  ⟨0x2A1003, .enum, 1, (2, 2, 0, 0), [0x2A1001], false, false, false, 1, 3⟩,
  ⟨0x2A1004, .enum, 1, (1, 1, 0, 1), [], false, false, false, 0, 2 ^ 8 - 1⟩,
  ⟨0x2A1005, .enum, 1, (1, 1, 1, 1), [0x2A1001], false, false, false, 0, 2 ^ 8 - 1⟩,
  ⟨0x2A1101, .uint, 2, (3, 3, 0, 3), [], false, false, false, 0, 1023⟩,
  ⟨0x2A1102, .uint, 1, (3, 1, 1, 1), [0x2A1001, 0x2A1101], true, false, false, 0, 2 ^ 8 - 1⟩,
  ⟨0x2A1103, .enum, 1, (2, 0, 0, 0), [0x2A1001, 0x2A1101], false, false, false, 1, 2⟩,
  ⟨0x2A1104, .uint, 2, (1, 1, 1, 1), [0x2A1001], false, false, false, 0, 2 ^ 16 - 1⟩,
  ⟨0x2A1201, .uint, 1, (3, 3, 0, 3), [], false, false, false, 0, 15⟩,
  ⟨0x2A1202, .bytes, 16, (3, 3, 1, 1), [0x2A1001, 0x2A1201], true, false, false, 0, 2 ^ 128 - 1⟩,
  ⟨0x2A1301, .uint, 2, (3, 1, 1, 1), [0x2A1001], true, false, false, 0, 1024⟩,
  ⟨0x2A1302, .uint, 2, (3, 1, 1, 1), [0x2A1001], true, false, false, 0, 1024⟩,
  ⟨0x2A1303, .uint, 2, (3, 1, 1, 1), [0x2A1001], true, false, false, 0, 1024⟩,
  ⟨0x2A1304, .uint, 4, (3, 1, 1, 1), [0x2A1001], true, false, false, 0, 16777215⟩]

/-- Rows of the object tables, part 8. -/
def objRows7 : List ObjRow := [
  ⟨0x2A1305, .uint, 4, (3, 1, 1, 1), [0x2A1001], true, false, false, 0, 16777215⟩,
  ⟨0x2A1306, .uint, 1, (3, 1, 1, 1), [0x2A1001], true, false, false, 0, 2 ^ 8 - 1⟩,
  ⟨0x2A3001, .uint, 4, (3, 3, 0, 3), [], false, false, false, 0, 1048575⟩,
  ⟨0x2A3002, .bytes, 128, (1, 1, 1, 1), [0x2A3001], false, false, false, 0, 2 ^ 1024 - 1⟩,
  ⟨0x2A3003, .enum, 1, (2, 0, 0, 0), [0x2A3001], false, false, false, 1, 1⟩,
  ⟨0x2A3004, .uint, 4, (3, 3, 0, 1), [0x2A1001], true, false, false, 10, 1000000⟩,
  ⟨0x2A3101, .uint, 8, (1, 1, 0, 1), [], false, false, false, 0, 2 ^ 64 - 1⟩,
  ⟨0x2A3102, .uint, 4, (3, 1, 0, 1), [], false, false, true, 0, 0⟩,
  ⟨0x2A3103, .uint, 4, (3, 1, 0, 1), [], false, false, true, 0, 0⟩,
  ⟨0x2A3104, .uint, 4, (3, 1, 0, 1), [], false, false, true, 0, 0⟩,
  ⟨0x2A3105, .uint, 4, (3, 1, 0, 1), [], false, false, true, 0, 0⟩,
  ⟨0x2A3106, .uint, 4, (3, 1, 0, 1), [], false, false, true, 0, 0⟩,
  ⟨0x2A4001, .uint, 1, (3, 3, 0, 3), [], false, false, false, 0, 23⟩,
  ⟨0x2A4002, .enum, 1, (2, 2, 0, 0), [0x2A4001], false, false, false, 1, 1⟩,
  ⟨0x2B0001, .uint, 4, (3, 1, 0, 1), [], false, false, false, 0, 2 ^ 32 - 1⟩,
  ⟨0x2B0002, .bool, 1, (3, 1, 0, 1), [], false, false, false, 0, 1⟩,
  ⟨0x2B0003, .uint, 1, (3, 1, 0, 1), [], false, false, false, 0, 1⟩,
  ⟨0x2B0004, .bool, 1, (3, 0, 0, 1), [], false, false, false, 0, 1⟩,
  ⟨0x2B0005, .bool, 1, (3, 1, 0, 1), [], false, false, false, 0, 1⟩,
  ⟨0x2B0006, .uint, 1, (3, 1, 0, 1), [], false, false, false, 0, 7⟩,
  ⟨0x2B0007, .uint, 8, (3, 1, 0, 1), [], false, false, false, 0, 2 ^ 64 - 1⟩,
  ⟨0x2B0101, .enum, 1, (1, 1, 1, 1), [], false, false, false, 0, 2 ^ 8 - 1⟩,
  ⟨0x2B0102, .uint, 1, (1, 1, 1, 1), [], false, false, false, 0, 2 ^ 8 - 1⟩,
  ⟨0x2B0103, .uint, 8, (1, 1, 0, 1), [], false, false, false, 0, 2 ^ 64 - 1⟩,
  ⟨0x2B0104, .uint, 4, (1, 1, 0, 1), [], false, false, false, 0, 2 ^ 32 - 1⟩,
  ⟨0x2B0105, .bool, 1, (1, 1, 0, 1), [], false, false, false, 0, 1⟩,
  ⟨0x2B0201, .uint, 8, (1, 1, 0, 1), [], false, false, false, 0, 2 ^ 64 - 1⟩,
  ⟨0x2B0202, .uint, 4, (1, 1, 0, 1), [], false, false, false, 0, 2 ^ 32 - 1⟩,
  ⟨0x2B0301, .uint, 8, (1, 1, 0, 1), [], false, false, false, 0, 2 ^ 64 - 1⟩,
  ⟨0x2B0302, .uint, 8, (1, 1, 0, 1), [], false, false, false, 0, 2 ^ 64 - 1⟩,
  ⟨0x2B0303, .uint, 4, (3, 1, 0, 1), [], false, false, true, 0, 0⟩,
  ⟨0x2B0304, .bytes, 32, (3, 1, 0, 1), [], false, false, false, 0, 2 ^ 256 - 1⟩,
  ⟨0x2B0305, .uint, 4, (3, 1, 0, 1), [], false, false, false, 1000, 600000⟩,
  ⟨0x2B1001, .uint, 4, (1, 1, 1, 1), [], false, false, false, 0, 2 ^ 32 - 1⟩,
  ⟨0x2B1002, .uint, 4, (3, 1, 0, 1), [], false, false, true, 0, 0⟩,
  ⟨0x2B1003, .uint, 4, (3, 1, 0, 1), [], false, false, true, 0, 0⟩,
  ⟨0x2B1004, .uint, 1, (3, 0, 0, 3), [], false, false, false, 0, 127⟩,
  ⟨0x2B1005, .uint, 8, (1, 1, 0, 1), [0x2B1004], false, false, false, 0, 2 ^ 64 - 1⟩,
  ⟨0x2B1006, .uint, 4, (1, 1, 1, 1), [], false, false, false, 0, 2 ^ 32 - 1⟩,
  ⟨0x2B1007, .uint, 1, (3, 0, 0, 3), [], false, false, false, 0, 127⟩]

/-- Rows of the object tables, part 9. -/
def objRows8 : List ObjRow := [
  ⟨0x2B1008, .uint, 4, (1, 1, 0, 1), [0x2B1007], false, false, false, 0, 2 ^ 32 - 1⟩,
  ⟨0x2B1101, .uint, 1, (3, 0, 0, 3), [], false, false, false, 0, 254⟩,
  ⟨0x2B1102, .uint, 4, (3, 1, 0, 1), [0x2B1101], false, false, false, 0, 2 ^ 32 - 1⟩,
  ⟨0x2B3001, .uint, 4, (3, 1, 0, 1), [], false, false, true, 0, 0⟩,
  ⟨0x2B3002, .uint, 2, (1, 1, 1, 1), [0x2A1001], false, false, false, 0, 2 ^ 16 - 1⟩,
  ⟨0x2B3003, .bool, 1, (2, 2, 2, 0), [], false, false, false, 0, 1⟩,
  ⟨0x2B4001, .enum, 1, (3, 0, 0, 3), [], false, false, false, 0, 5⟩,
  ⟨0x2B4002, .uint, 2, (3, 0, 0, 3), [], false, false, false, 0, 2 ^ 16 - 1⟩,
  ⟨0x2B4003, .uint, 2, (3, 1, 0, 1), [0x2B4001, 0x2B4002], false, false, false, 0, 0⟩,
  ⟨0x2B4004, .bytes, 6, (3, 1, 0, 1), [0x2B4001], false, false, false, 0, 2 ^ 48 - 1⟩,
  ⟨0x2B4005, .uint, 2, (3, 1, 0, 1), [], false, false, false, 1, 3600⟩,
  ⟨0x2B4006, .uint, 1, (3, 1, 0, 1), [], false, false, false, 1, 12⟩,
  ⟨0x2B4007, .uint, 2, (3, 1, 0, 1), [], false, false, false, 0, 2 ^ 16 - 1⟩,
  ⟨0x2B4008, .uint, 2, (3, 1, 0, 1), [], false, false, false, 0, 2 ^ 16 - 1⟩,
  ⟨0x2B4009, .bool, 1, (3, 1, 0, 1), [], false, false, false, 0, 1⟩,
  ⟨0x2B5001, .bool, 1, (3, 1, 0, 1), [], false, false, false, 0, 1⟩,
  ⟨0x2B5002, .uint, 4, (3, 1, 0, 1), [], false, false, false, 1000, 86400000⟩,
  ⟨0x2B5003, .uint, 1, (3, 1, 0, 1), [], false, false, false, 0, 31⟩,
  ⟨0x2B5004, .uint, 4, (3, 0, 0, 0), [], false, false, false, 0, 2 ^ 32 - 1⟩,
  ⟨0x2B5005, .bytes, 32, (1, 1, 0, 1), [], false, false, false, 0, 2 ^ 256 - 1⟩,
  ⟨0x2B5101, .uint, 1, (3, 3, 0, 1), [0x2A1001], false, false, false, 0, 31⟩,
  ⟨0x2B5102, .uint, 2, (3, 3, 0, 1), [0x2A1001], false, false, false, 0, 2 ^ 16 - 1⟩,
  ⟨0x2B5201, .uint, 8, (1, 1, 0, 1), [], false, false, false, 0, 2 ^ 64 - 1⟩,
  ⟨0x2B5202, .uint, 4, (3, 1, 0, 1), [], false, false, true, 0, 0⟩,
  ⟨0x2B5203, .uint, 4, (3, 1, 0, 1), [], false, false, true, 0, 0⟩,
  ⟨0x2C0001, .uint, 8, (1, 1, 0, 1), [], false, false, false, 0, 2 ^ 64 - 1⟩,
  ⟨0x2C0002, .uint, 4, (3, 1, 0, 1), [], false, false, true, 0, 0⟩,
  ⟨0x2C1001, .uint, 1, (1, 0, 0, 1), [], false, false, false, 0, 2 ^ 8 - 1⟩,
  ⟨0x2C1002, .uint, 2, (3, 0, 0, 3), [], false, false, false, 0, 2 ^ 16 - 1⟩,
  ⟨0x2C1003, .uint, 2, (3, 0, 0, 3), [], false, false, false, 0, 2 ^ 16 - 1⟩,
  ⟨0x2C1004, .uint, 4, (3, 0, 0, 1), [], false, false, true, 0, 0⟩,
  ⟨0x2C1005, .bool, 1, (3, 0, 0, 3), [], false, false, false, 0, 1⟩,
  ⟨0x2C2001, .uint, 2, (1, 0, 0, 1), [], false, false, false, 0, 2 ^ 16 - 1⟩,
  ⟨0x2C2002, .uint, 4, (3, 0, 0, 1), [], false, false, true, 0, 0⟩,
  ⟨0x2C2101, .uint, 2, (3, 0, 0, 3), [], false, false, false, 0, 16382⟩,
  ⟨0x2C2102, .bytes, 32, (0, 0, 0, 1), [], false, false, false, 0, 2 ^ 256 - 1⟩,
  ⟨0x2C2103, .bool, 1, (0, 0, 0, 2), [], false, false, false, 0, 1⟩,
  ⟨0x2C2104, .uint, 2, (1, 0, 0, 1), [], false, false, false, 0, 2 ^ 16 - 1⟩,
  ⟨0x2C2105, .uint, 4, (3, 0, 0, 3), [], false, false, true, 0, 0⟩,
  ⟨0x2C3001, .uint, 4, (3, 0, 0, 3), [], false, false, false, 10, 60000⟩]

/-- Rows of the object tables, part 10. -/
def objRows9 : List ObjRow := [
  ⟨0x2C3002, .enum, 1, (1, 0, 0, 1), [], false, false, false, 0, 2 ^ 8 - 1⟩,
  ⟨0x2C3003, .enum, 1, (2, 0, 0, 2), [], false, false, false, 1, 2⟩,
  ⟨0x2C3004, .uint, 4, (1, 0, 0, 1), [], false, false, false, 0, 2 ^ 32 - 1⟩,
  ⟨0x2C3005, .uint, 1, (2, 0, 0, 0), [], false, false, false, 0, 2 ^ 8 - 1⟩,
  ⟨0x2C3101, .enum, 1, (1, 0, 0, 1), [], false, false, false, 0, 2 ^ 8 - 1⟩,
  ⟨0x2C3102, .uint, 4, (3, 0, 0, 1), [], false, false, true, 0, 0⟩,
  ⟨0x2C4001, .uint, 4, (0, 0, 0, 3), [], false, false, false, 0, 2 ^ 32 - 1⟩,
  ⟨0x2C4002, .bytes, 128, (0, 0, 0, 2), [], false, true, false, 0, 2 ^ 1024 - 1⟩,
  ⟨0x2C4003, .enum, 1, (0, 0, 0, 2), [], false, false, false, 1, 2⟩,
  ⟨0x2C4004, .enum, 1, (0, 0, 0, 1), [], false, false, false, 0, 2 ^ 8 - 1⟩,
  ⟨0x2D0001, .uint, 4, (1, 1, 0, 1), [], false, false, false, 0, 2 ^ 32 - 1⟩,
  ⟨0x2D0002, .uint, 4, (1, 1, 0, 1), [], false, false, false, 0, 2 ^ 32 - 1⟩,
  ⟨0x2D0003, .uint, 1, (1, 1, 0, 1), [], false, false, false, 0, 2 ^ 8 - 1⟩,
  ⟨0x2D0004, .i32, 4, (1, 1, 0, 1), [], false, false, false, 0, 2 ^ 32 - 1⟩,
  ⟨0x2D0005, .i32, 4, (1, 1, 0, 1), [], false, false, false, 0, 2 ^ 32 - 1⟩,
  ⟨0x2D0006, .uint, 1, (1, 1, 0, 1), [], false, false, false, 0, 2 ^ 8 - 1⟩,
  ⟨0x2D0101, .uint, 2, (3, 1, 0, 3), [], false, false, false, 1200, 2400⟩,
  ⟨0x2D0102, .uint, 8, (1, 1, 0, 1), [], false, false, false, 0, 2 ^ 64 - 1⟩,
  ⟨0x2D0103, .uint, 2, (1, 1, 0, 1), [], false, false, false, 0, 2 ^ 16 - 1⟩,
  ⟨0x2D1001, .enum, 1, (1, 1, 1, 1), [], false, false, false, 0, 2 ^ 8 - 1⟩,
  ⟨0x2D1002, .enum, 1, (2, 0, 0, 2), [], false, false, false, 1, 5⟩,
  ⟨0x2D1003, .enum, 1, (2, 0, 0, 2), [], false, false, false, 1, 3⟩,
  ⟨0x2D1004, .enum, 1, (1, 0, 0, 1), [], false, false, false, 0, 2 ^ 8 - 1⟩,
  ⟨0x2D1005, .uint, 4, (3, 1, 0, 1), [], false, false, false, 1, 10000⟩,
  ⟨0x2D1006, .uint, 2, (1, 1, 0, 1), [], false, false, false, 0, 2 ^ 16 - 1⟩,
  ⟨0x2D1101, .uint, 4, (3, 1, 0, 1), [], false, false, false, 10, 100000⟩,
  ⟨0x2D1102, .uint, 1, (1, 1, 0, 1), [], false, false, false, 0, 2 ^ 8 - 1⟩,
  ⟨0x2D2001, .uint, 2, (3, 0, 0, 3), [], false, false, false, 1, 1000⟩,
  ⟨0x2D2002, .uint, 1, (3, 0, 0, 3), [], false, false, false, 0, 3⟩,
  ⟨0x2D2003, .uint, 1, (3, 0, 0, 3), [], false, false, false, 1, 12⟩,
  ⟨0x2D2004, .bytes, 32, (3, 0, 0, 3), [], false, false, false, 0, 2 ^ 256 - 1⟩,
  ⟨0x2D2005, .i32, 4, (3, 0, 0, 3), [], false, false, false, 0, 2 ^ 32 - 1⟩,
  ⟨0x2D2006, .uint, 1, (1, 0, 0, 1), [], false, false, false, 0, 2 ^ 8 - 1⟩,
  ⟨0x2D3001, .uint, 2, (1, 1, 1, 1), [], false, false, false, 0, 2 ^ 16 - 1⟩,
  ⟨0x2D3002, .uint, 2, (1, 1, 0, 1), [], false, false, false, 0, 2 ^ 16 - 1⟩,
  ⟨0x2D3003, .uint, 4, (1, 1, 0, 1), [], false, false, false, 0, 2 ^ 32 - 1⟩,
  ⟨0x2D3004, .uint, 4, (1, 1, 0, 1), [], false, false, false, 0, 2 ^ 32 - 1⟩,
  ⟨0x2D3005, .uint, 2, (3, 0, 0, 3), [], false, false, false, 200, 3000⟩,
  ⟨0x2D4001, .uint, 2, (3, 0, 0, 3), [], false, false, false, 0, 1023⟩,
  ⟨0x2D4002, .uint, 8, (1, 0, 0, 1), [0x2D4001], false, false, false, 0, 2 ^ 64 - 1⟩]

/-- Rows of the object tables, part 11. -/
def objRows10 : List ObjRow := [
  ⟨0x2D4003, .uint, 1, (1, 0, 0, 1), [], false, false, false, 0, 2 ^ 8 - 1⟩,
  ⟨0x2D5001, .uint, 4, (1, 1, 0, 1), [], false, false, false, 0, 2 ^ 32 - 1⟩,
  ⟨0x2D5002, .uint, 4, (1, 1, 0, 1), [], false, false, false, 0, 2 ^ 32 - 1⟩,
  ⟨0x2D5003, .uint, 4, (3, 1, 0, 1), [], false, false, true, 0, 0⟩,
  ⟨0x2E0001, .bytes, 57, (1, 1, 1, 1), [], false, false, false, 0, 2 ^ 456 - 1⟩,
  ⟨0x2E0002, .bytes, 57, (1, 1, 1, 1), [], false, false, false, 0, 2 ^ 456 - 1⟩,
  ⟨0x2E0101, .uint, 1, (3, 0, 0, 3), [], false, false, false, 0, 1⟩,
  ⟨0x2E0102, .uint, 2, (1, 1, 1, 1), [0x2E0101], false, false, false, 0, 2 ^ 16 - 1⟩,
  ⟨0x2E0103, .bytes, 8192, (1, 1, 1, 1), [0x2E0101], false, false, false, 0, 2 ^ 65536 - 1⟩,
  ⟨0x2E0104, .bytes, 8192, (3, 0, 0, 0), [0x2E0101], false, true, false, 0, 2 ^ 65536 - 1⟩,
  ⟨0x2E0105, .enum, 1, (2, 0, 0, 0), [0x2E0101], false, false, false, 1, 2⟩,
  ⟨0x2E0106, .enum, 1, (1, 0, 0, 1), [], false, false, false, 0, 2 ^ 8 - 1⟩,
  ⟨0x2E1001, .uint, 4, (1, 1, 1, 1), [], false, false, false, 0, 2 ^ 32 - 1⟩,
  ⟨0x2E1002, .uint, 4, (1, 1, 1, 1), [], false, false, false, 0, 2 ^ 32 - 1⟩,
  ⟨0x2E1003, .bytes, 57, (3, 1, 1, 3), [], false, true, false, 0, 2 ^ 456 - 1⟩,
  ⟨0x2E1004, .bytes, 114, (2, 0, 0, 2), [], false, true, false, 0, 2 ^ 912 - 1⟩,
  ⟨0x2E1005, .enum, 1, (2, 0, 0, 2), [], false, false, false, 1, 2⟩,
  ⟨0x2E1006, .enum, 1, (1, 0, 0, 1), [], false, false, false, 0, 2 ^ 8 - 1⟩,
  ⟨0x2E1201, .uint, 4, (3, 0, 0, 3), [], false, false, false, 0, 2 ^ 32 - 1⟩,
  ⟨0x2E1202, .bytes, 128, (2, 0, 0, 2), [], false, true, false, 0, 2 ^ 1024 - 1⟩,
  ⟨0x2E1203, .enum, 1, (2, 0, 0, 2), [], false, false, false, 1, 2⟩,
  ⟨0x2E1204, .enum, 1, (1, 0, 0, 1), [], false, false, false, 0, 2 ^ 8 - 1⟩,
  ⟨0x2E2001, .bool, 1, (3, 1, 0, 1), [], false, false, false, 0, 1⟩,
  ⟨0x2E2002, .uint, 4, (3, 1, 0, 1), [], false, false, false, 0, 2 ^ 32 - 1⟩,
  ⟨0x2E2003, .uint, 2, (1, 1, 0, 1), [], false, false, false, 0, 2 ^ 16 - 1⟩,
  ⟨0x2E2004, .uint, 4, (3, 1, 0, 1), [], false, false, true, 0, 0⟩,
  ⟨0x2E3001, .uint, 1, (3, 3, 0, 3), [], false, false, false, 0, 127⟩,
  ⟨0x2E3002, .uint, 4, (1, 1, 1, 1), [0x2E3001], false, false, false, 0, 2 ^ 32 - 1⟩,
  ⟨0x2E3003, .bytes, 96, (0, 0, 0, 0), [0x2E3001], false, false, false, 0, 2 ^ 768 - 1⟩]

/-- The whole object table. -/
def objRows : List ObjRow :=
  objRows0 ++ objRows1 ++ objRows2 ++ objRows3 ++ objRows4 ++ objRows5 ++ objRows6 ++ objRows7 ++ objRows8 ++ objRows9 ++ objRows10

/-- The row of an object (R351 steps 1 and 2). -/
def objRow (o : Nat) : Option ObjRow := objRows.find? (fun r => r.obj == o)

/-- Default budgets per period (10_traffic_manager.md): stack, crossbar, search, by activity. -/
def budgetDefault (resource activity : Nat) : Nat :=
  match resource, activity with
  | 0, 1 => 38400 | 0, 2 => 3072 | 0, 3 => 30720 | 0, 4 => 61440 | 0, 6 => 768 | 0, 7 => 768
  | 1, 1 => 384000 | 1, 2 => 30720 | 1, 3 => 768000 | 1, 4 => 768000 | 1, 5 => 15360 | 1, 6 => 15360 | 1, 7 => 7680
  | 2, 2 => 256 | 2, 5 => 2048 | 2, 7 => 16
  | _, _ => 0

/-- Default score weights (12, "Score inputs and default weights"): three U16 in input order. -/
def weightDefault (cls : Nat) : Nat :=
  match cls with
  | 0 => pack [(16, 1), (16, 256)]
  | 1 => pack [(16, 64), (16, 2), (16, 1024)]
  | 2 => pack [(16, 16), (16, 1), (16, 256)]
  | 3 => pack [(16, 8192), (16, 512)]
  | 4 => pack [(16, 4), (16, 2048)]
  | 5 => pack [(16, 16), (16, 8192)]
  | _ => 0

/-- The default of an object with a default other than zero. `i` packs its selectors (R449). -/
def objDefaults : List (Nat × Nat) := [
  (0x101800, 4),
  (0x101801, 1891),
  (0x101802, 2404),
  (0x101803, (131072 + (if Config.steppingIsC then 2 else 1))),
  (0x101804, (Config.deviceSerial.toNat % 2 ^ 32)),
  (0x200001, 2),
  (0x200002, (if Config.steppingIsC then 2 else 1)),
  (0x200003, 6),
  (0x200004, Config.deviceSerial.toNat),
  (0x200008, 1058981367622300315988591031640397),
  (0x211101, 1000),
  (0x212102, 2000),
  (0x212103, 10000),
  (0x212104, 8),
  (0x213001, 1),
  (0x213002, 500),
  (0x213003, 40),
  (0x214001, 1),
  (0x214002, 50),
  (0x215106, 4294966096),
  (0x216003, 1500),
  (0x220001, 8),
  (0x220002, 3),
  (0x220003, 64),
  (0x221001, 400),
  (0x221002, 8),
  (0x221003, 40),
  (0x231003, 17179869184),
  (0x232003, 2),
  (0x234003, 70368744177920),
  (0x235004, 4278190080),
  (0x235008, 1440),
  (0x236002, 1),
  (0x236006, 8),
  (0x240001, 16777216),
  (0x241001, 96),
  (0x241002, 50),
  (0x241003, 6),
  (0x242001, 500),
  (0x243001, 1),
  (0x248001, 2000),
  (0x250001, 1202590842880),
  (0x250002, 34359738368),
  (0x250003, 18350080),
  (0x251003, 125),
  (0x251004, 750),
  (0x251005, 15),
  (0x252002, 128),
  (0x252005, 1000),
  (0x252006, 16),
  (0x252007, 5),
  (0x252008, 20),
  (0x260204, 256),
  (0x260303, 3600),
  (0x270001, 24),
  (0x270002, 8),
  (0x271008, 1000),
  (0x271009, 2048),
  (0x273001, 1000),
  (0x280001, 65536),
  (0x280002, 65536),
  (0x280003, 65536),
  (0x282001, 1000),
  (0x282002, 4),
  (0x290001, 262144),
  (0x290108, 256),
  (0x291002, 4),
  (0x292001, 100),
  (0x293001, 20),
  (0x2A1306, 255),
  (0x2A3004, 2000),
  (0x2B0002, 1),
  (0x2B0006, 7),
  (0x2B0305, 45000),
  (0x2B4005, 60),
  (0x2B4006, 6),
  (0x2B4007, 16384),
  (0x2B4008, 49152),
  (0x2B5001, 1),
  (0x2B5002, 10000),
  (0x2B5003, 31),
  (0x2B5102, 65535),
  (0x2C1002, 500),
  (0x2C1003, 2000),
  (0x2C1005, 1),
  (0x2C2101, 16382),
  (0x2C3001, 1000),
  (0x2D0003, 15),
  (0x2D0101, 2400),
  (0x2D0103, 2400),
  (0x2D1005, 100),
  (0x2D1101, 100),
  (0x2D2001, 1),
  (0x2D2002, 1),
  (0x2D2003, 8),
  (0x2D2005, 8500),
  (0x2D2006, 68),
  (0x2D3005, 1000)]

/-- The default of an object (object tables; "table" defaults from the governor and score tables). -/
def objDefault (o i : Nat) : Nat :=
  if o = 0x236003 then budgetDefault 0 (bits i 8 8)
  else if o = 0x236004 then budgetDefault 1 (bits i 8 8)
  else if o = 0x236005 then budgetDefault 2 (bits i 0 8)
  else if o = 0x2B4004 then weightDefault i
  else ((objDefaults.find? (fun p => p.1 == o)).map Prod.snd).getD 0

end Sys2Proof.Machine
end

