-- ==== Sys2Proof/Machine/State.lean ====
section
/-! DEFINITION. The state of the ZX964 as plain data, and the state right after reset. -/

namespace Sys2Proof.Machine

/-! ## Dictionary (13_object_dictionary.md) -/

/-- An event record (R366); `toNat` is in Ops. -/
structure EventRec where
  seq : Nat
  code : Nat
  comp : Option Nat
  pair : Nat
  side : Nat
  lostBefore : Bool
  time : Nat
  payload : Nat
  deriving DecidableEq, Repr

/-- The answer to one dictionary access of the steward or the CAN bus (R357, R363, R365): the access code. -/
structure Answer where
  who : Requester
  idx : Nat
  sub : Nat
  err : Nat
  deriving DecidableEq, Repr

/-- Object values, selectors, status copies, staged values and the event queues. -/
structure Dict where
  /-- Values of objects, keyed `objKey object selectors`; an unlisted object holds its default (R349-R355). -/
  objs : SMap Nat
  /-- Selector copies, keyed by requester and object (R29, R361). -/
  sel : SMap Nat
  /-- Status-object copies, keyed by requester and object (R353). -/
  status : SMap Nat
  /-- Staged values, keyed by requester and object (R359). -/
  staged : SMap Nat
  /-- Answers given, oldest first. -/
  answers : List Answer
  /-- Accesses of the steward class that wait while the steward is down (R369). -/
  stewardWait : List Access
  /-- Writes that commit at the next start (R354). -/
  nextStart : List Access
  /-- Budget writes that commit at the next period (R276, R354). -/
  nextPeriod : List (Nat × Nat)
  /-- Steward queue, at most 4,096 records (R367). -/
  stewardQ : List EventRec
  /-- The latest 2,048 records posted to the steward queue, which the error log takes (R393). -/
  log : List EventRec
  /-- CAN queue, at most 256 records (R367). -/
  canQ : List EventRec
  stewardSeq : Nat
  canSeq : Nat
  stewardLost : Bool
  canLost : Bool
  /-- EMCY messages sent: code and sequence (R368). -/
  emcy : List (Nat × Nat)
  /-- Events limited to once per period that this period has already posted: keys (R367 and others). -/
  posted : List Nat
  /-- Deadline of the steward watchdog (R369). -/
  watchdog : Option Nat
  deriving DecidableEq, Repr

/-! ## Extents, home agent, ledger (01, 02, 03) -/

/-- An extent descriptor (object 2110.02) and its lifecycle timers (R21). State: 0 FREE, 1 ACTIVE, 2 DRAINING,
3 REVOKED, 4 CLEARING, 5 RESETTING. -/
structure Extent where
  base : Nat := 0
  length : Nat := 0
  state : Nat := 0
  comp : Nat := 0
  shared : Bool := false
  owner : Nat := 0
  rights : Nat := 0
  backing : Nat := 0
  tileDesc : Nat := 0
  stripeSet : Nat := 0
  drainUs : Nat := 0
  generation : Nat := 0
  /-- Deadline of the drain timer, while DRAINING. -/
  drainAt : Option Nat := none
  /-- Tiles already marked zero-valued, while CLEARING or RESETTING. -/
  marked : Nat := 0
  /-- Quadrant mask under which a `FAST` extent took its slots at its bind (R90, R91). -/
  slotMask : Nat := 0
  deriving DecidableEq, Repr

/-- A request at the home: the message, where it came from and what line serves it (R114). -/
structure Req where
  m : Msg
  /-- Arrival port; none for an agent of this ZX964. -/
  port : Option Nat := none
  /-- The own compute core that sent it. -/
  core : Option Nat := none
  /-- Admission number at the home (R23, R36). -/
  admNo : Nat := 0
  /-- Line whose stored bytes serve the request (R114). -/
  served : Nat := 0
  /-- Members of the group that serves it (R48), and whether it joined one that another request opened (R45). -/
  group : Nat := 1
  follows : Bool := false
  /-- A tile mover's write under an `ACTIVATION` descriptor: no block is expanded before it (R137, R138). -/
  coded : Bool := false
  /-- Tile descriptor that its line was used under when it was checked (R5, object 2112.03), and the dirty limit of its
  composition then (R5, R102). -/
  desc : Nat := 0
  limit : Nat := 0
  /-- A member of a combined group after the first that is applied: its ledger lookup has its turn in the group's order
  (R50), and what R20 steps 3-5 then answer, if not applied. -/
  late : Bool := false
  /-- The home's own write of an event record to a composition's ring (R237). -/
  ring : Bool := false
  refusal : Option (Nat × Nat) := none
  deriving DecidableEq, Repr

/-- One snoop or stash offer outstanding (R63, R64). -/
structure Snoop where
  host : Nat
  tag : Nat
  opcode : Nat
  deriving DecidableEq, Repr

/-- What a line's transaction does: serve requests, or invalidate without serving (R61, R78, R231). -/
inductive Work where
  /-- Requests of one transaction: one, or a merged group in joining order (R45, R46). -/
  | ops (reqs : List Req)
  /-- Invalidate every holder (revocation walk, back-invalidation). -/
  | inval
  /-- Invalidate one departing host (R231). -/
  | depart (host : Nat)
  deriving DecidableEq, Repr

/-- Transaction states of R69; `wayWait` is the wait for a filter way of R61. -/
inductive TxnState where
  | wayWait | dwellWait | snooping | serving | mirroring | stashing
  deriving DecidableEq, Repr

/-- What a transaction still has to do when its changes are held by the twin. -/
structure Txn where
  state : TxnState
  work : Work
  /-- Snoops outstanding. -/
  snoops : List Snoop := []
  /-- Hosts that the transaction decided to snoop (R68). -/
  targets : List Nat := []
  /-- Opcode of its snoops. -/
  snpOp : Nat := opSnpInv
  /-- Home timer (R71, R75). -/
  deadline : Option Nat := none
  /-- Modified data returned by a snoop, and its poison mark. -/
  returned : Option (LineBits × Bool) := none
  /-- The tier access ran while snoops were outstanding (R69). -/
  tierDone : Bool := false
  /-- A write-back, a home timeout or a host loss has changed the entry, which goes to the twin with the line (R66). -/
  entryChanged : Bool := false
  /-- The dirty limit has held its tier access (R103). -/
  atLimit : Bool := false
  /-- Poisoned by a home timeout: the response detail (R71). -/
  poisonDetail : Option Nat := none
  /-- Responses built, with their arrival ports and cores. -/
  resps : List (Req × Msg) := []
  /-- Owner whose dwell starts at the response (R70). -/
  grant : Option Nat := none
  /-- A stash offer to make after the response: the host (R74). -/
  offer : Option Nat := none
  deriving DecidableEq, Repr

/-- A snoop-filter entry (R57-R60). Mode: 0 OWNED, 1 SHARED, 2 WIDE. -/
structure FEntry where
  mode : Nat
  ptrs : List Nat
  comp : Nat
  seq : Nat
  deriving DecidableEq, Repr

/-- An open merge group (R45-R47). -/
structure MGroup where
  line : Nat
  opcode : Nat
  comp : Nat
  word : Nat
  aop : Nat
  reqs : List Req
  /-- Admission of the request that opened it, its hold in crossbar cycles, and its end (R47). -/
  opened : Nat
  hold : Nat
  closeAt : Nat
  quadrant : Nat
  deriving DecidableEq, Repr

/-- An atomic ledger entry (R52-R54). State: 0 PENDING, 1 DONE, 2 TOMBSTONE. -/
structure LEntry where
  state : Nat
  comp : Nat
  line : Nat
  word : Nat
  aop : Nat
  status : Nat
  cas : Bool
  result : Nat
  /-- Local time in ns when it became DONE or TOMBSTONE (`recorded_at` in µs is this divided by 1,000). -/
  stamp : Nat
  deriving DecidableEq, Repr

/-- A cause that joined the running filter walk (R78). -/
inductive WalkCause where
  | revoke (ext : Nat)
  | loss (host cause : Nat)
  | depart (comp host : Nat)
  | reset (comp : Nat)
  deriving DecidableEq, Repr

/-- A departure whose snoops are outstanding: 0x0A06 waits for them (R78, R231). -/
structure Departure where
  comp : Nat
  host : Nat
  walked : Bool
  poisoned : Nat
  deriving DecidableEq, Repr

/-- The home agent. -/
structure Home where
  /-- Extent descriptors by extent ID; unlisted ones are all zero (`FREE`). -/
  exts : SMap Extent
  groups : List MGroup
  txns : SMap Txn
  /-- Waiting work by line, oldest first (R68). -/
  waiters : List (Nat × Work)
  /-- Running dwells by line: owner and end (R70). -/
  dwells : SMap (Nat × Nat)
  filter : SMap FEntry
  /-- Lines whose filter way is reserved for a stash offer (R74). -/
  reserved : List Nat
  allocSeq : Nat
  snoopTag : Nat
  /-- Snoops whose home timer expired: (line, host, tag) (R72). -/
  timedOut : List (Nat × Nat × Nat)
  /-- Causes acted on by the running walk (R78); empty when none runs. -/
  walk : List WalkCause
  /-- Lines poisoned so far by a walk's host losses (R81 step 6). -/
  walkPoisoned : SMap Nat
  departures : List Departure
  /-- Hosts in the `LOST` state (R81, R452). -/
  lost : List Nat
  /-- Since when every port of an attached host has been down (R79). -/
  hostDown : SMap Nat
  /-- Ledger entries keyed host × 2^32 + ledger ID. -/
  ledger : SMap LEntry
  floors : SMap Nat
  admits : Nat
  /-- Hosts not yet confirmed after a takeover, by composition (R329). -/
  unconfirmed : List (Nat × Nat)
  /-- Event-ring records to be written, oldest first: composition and record (R237). -/
  ringQ : List (Nat × EventRec)
  deriving DecidableEq, Repr

/-! ## Tier engine (04) and line storage (05) -/

/-- Residency of a tile (R93); `fast` is a tile of a FAST extent. -/
inductive TileState where
  | filling | resident | evicting | fast
  deriving DecidableEq, Repr

/-- A tile slot's map entry: masks have one bit per line of the tile. -/
structure Tile where
  state : TileState
  comp : Nat
  quadrant : Nat
  /-- Lines not arrived, while filling. -/
  missing : Nat := 0
  dirty : Nat := 0
  /-- Lines rewritten since their write-back was issued. -/
  rewritten : Nat := 0
  /-- Lines whose write-back is outstanding. -/
  writing : Nat := 0
  /-- A write-back of the running eviction failed. -/
  failed : Bool := false
  expanded : Bool := false
  /-- Lines still to be written to the trays for a zero-valued tile (R93). -/
  zeroLeft : Nat := 0
  /-- Admission number at the start of the fill (R134). -/
  since : Nat := 0
  /-- A prefetch opened the slot (R106): 0 none did, 1 each line read is charged to the migration budget, 2 its stack slots
  were charged when it began. -/
  prefetch : Nat := 0
  /-- Local time of the last access (R94) and of the first dirty line (R104). -/
  access : Nat := 0
  dirtiedAt : Nat := 0
  deriving DecidableEq, Repr

/-- Why a tray request was sent. -/
inductive TrayKind where
  | fill | refetch | writeback | zero | poison
  deriving DecidableEq, Repr

/-- An outstanding tray request (R97, R98). -/
structure TrayReq where
  port : Nat
  tag : Nat
  kind : TrayKind
  line : Nat
  deadline : Nat
  retried : Bool := false
  /-- What a write carries. -/
  data : LineBits := 0
  poison : Bool := false
  deriving DecidableEq, Repr

/-- A running flush (R105): lines left, lines written, lines held by lost members. -/
structure Flush where
  lines : List Nat
  /-- Those whose outstanding write-back was issued before the commit point with older data (R105). -/
  stale : List Nat := []
  written : Nat
  held : Nat
  deriving DecidableEq, Repr

/-- The tier engine, and the lines it stores. -/
structure Tier where
  /-- Bytes of the span held in the fast tier, by fabric byte address (decrypted; log entry 8). -/
  mem : Memory
  /-- Poisoned lines and the detail their reads carry (R28, R85). -/
  poison : SMap Nat
  /-- Slots in use, by tile. -/
  tiles : SMap Tile
  /-- Tiles whose zero map bit is set (R21, R93). -/
  zero : List Nat
  /-- Marked tiles whose physical copy is not yet overwritten (R21). -/
  marked : List Nat
  reqs : List TrayReq
  trayTag : Nat
  /-- Consecutive failures by tray port (R98). -/
  fails : SMap Nat
  /-- Since when a tray port has been down (R98). -/
  down : SMap Nat
  /-- Lines whose tray read failed after its retry, to be read again (R98). -/
  reissue : List Nat
  flushes : SMap Flush
  /-- Tiles queued by touch (R213). -/
  touchQ : List Nat
  /-- Layers whose residency event has been posted: (composition × 16 + window) × 4096 + layer (R109). -/
  layerSeen : List Nat
  /-- Windows being repointed: composition × 16 + window, and the tiles to fetch (R111). -/
  repoints : SMap Nat
  /-- Published regions: the host of the last successful publish (R115). -/
  publisher : SMap Nat
  /-- Extents whose writes wait for face reads admitted before a publish: region, extent and admission number (R117). -/
  locked : List (Nat × Nat × Nat)
  /-- Poisoned lines whose tile has not yet taken the slot that it takes for them (R101). -/
  owed : List Nat
  /-- Poison fills of `REFILLING` members: set + member × 2^8, the next line and the lines written (R100). -/
  refills : SMap (Nat × Nat)
  /-- Tiles of windows counted as skipped while held: (composition × 16 + window) × 2^31 + tile (R109). -/
  skipSeen : List Nat
  /-- The running patrol pass: its start in ns, its period in s, and the lines it has read (R128). -/
  patrol : Nat × Nat × List Nat
  /-- Lines waiting for an uncorrectable read's recovery and how: 0 twin, 1 tray (R126). -/
  recover : SMap Nat
  deriving DecidableEq, Repr

/-! ## Compositions and handoff (09) -/

/-- A composition (object 2A10.02, R228). State: 0 FREE, 1 ACTIVE, 2 RESETTING, 3 FATAL. -/
structure Comp where
  state : Nat := 0
  owner : Nat := 0
  recordBase : Nat := 0
  recordCount : Nat := 0
  arena : Nat := 0
  arenaValid : Bool := false
  ringLine : Nat := 0
  ringLog2 : Nat := 0
  ringValid : Bool := false
  vector : Nat := 0
  notify : Bool := false
  resetCount : Nat := 0
  /-- Member hosts; each is listed with 1 (R230). -/
  members : SMap Nat := []
  /-- Pools of hosts, 0 where unlisted. -/
  pools : SMap Nat := []
  /-- Hosts that left (R231 step 1). -/
  departed : List Nat := []
  /-- Next sequence of the event ring (R236). -/
  ringSeq : Nat := 0
  /-- Local time of the last `event_vector` trigger by a ring write (R237). -/
  notifiedAt : Option Nat := none
  /-- Extents and partitions a running reset waits for (R239). -/
  waitExts : List Nat := []
  waitParts : List Nat := []
  waitWalk : Bool := false
  deriving DecidableEq, Repr

/-- A handoff record (R242, R243), fields as the record table; a FREE record keeps its generation. -/
structure Rec where
  state : Nat := 0
  ownerValid : Bool := false
  producerLost : Bool := false
  consumerLost : Bool := false
  comp : Nat := 0
  owner : Nat := 0
  generation : Nat := 0
  producer : Nat := 0
  consumer : Nat := 0
  target : Nat := 0
  lastFunction : Nat := 0
  lastHost : Nat := 0
  firstTile : Nat := 0
  tiles : Nat := 0
  requestTag : Nat := 0
  fillLines : Nat := 0
  openedAt : Nat := 0
  stateAt : Nat := 0
  producerInfo : Nat := 0
  /-- End of the offer timer (R251). -/
  offerEnd : Option Nat := none
  deriving DecidableEq, Repr

/-- A vector write outstanding (R235). -/
structure VecWrite where
  host : Nat
  tag : Nat
  deadline : Nat
  deriving DecidableEq, Repr

/-- Compositions, handoff records, and vector writes outstanding. -/
structure Comps where
  comps : SMap Comp
  recs : SMap Rec
  vecs : List VecWrite
  vecTag : Nat
  /-- Memory key (bits 511-0) and codec key (bits 767-512) of a composition (R124, R137, R412). -/
  keys : SMap Nat
  /-- The keys as the metadata reservation holds them, wrapped (R414). -/
  wrapped : SMap Nat
  deriving DecidableEq, Repr

/-! ## Traffic manager and paths (02, 10) -/

/-- A message in a port's egress queue (R37, R268). -/
structure EItem where
  m : Msg
  since : Nat
  deriving DecidableEq, Repr

/-- A request of an attached host outstanding at this ZX964 (R38, R39, R40). -/
structure HostReq where
  host : Nat
  tag : Nat
  port : Nat
  tc : Nat
  comp : Nat
  line : Nat
  /-- Destination pair and the path (egress port) it took; 256: not sent on a path. -/
  dest : Nat
  path : Nat
  deadline : Nat
  pathLost : Bool := false
  /-- A `CAS`: its answer carries an extension slot (R32). -/
  cas : Bool := false
  seq : Nat
  deriving DecidableEq, Repr

/-- An outstanding fence (R39-R41): covered request numbers still open, and how covered ones ended. It covers what was
received before it from its receipt on, and is answered when it has been admitted. -/
structure FenceRec where
  host : Nat
  m : Msg
  port : Nat
  covers : List Nat
  admitted : Bool := true
  timeouts : Nat := 0
  pathLosts : Nat := 0
  deriving DecidableEq, Repr

/-- A running path change (R43). -/
structure PathChange where
  oldPort : Nat
  newPort : Nat
  cause : Nat
  /-- Milestones unanswered: tags. -/
  milestones : List Nat
  deadline : Nat
  /-- Requests held, with their arrival ports and the start of their residency (R37), oldest first. -/
  held : List (Nat × Msg × Nat)
  deriving DecidableEq, Repr

/-- A bucket (R261, R263, R269): its level in the unit of its rule's definition, and the time of the last fill. -/
structure Bucket where
  level : Int
  stamp : Nat
  deriving DecidableEq, Repr

/-- A port's gate lists (R270-R272). -/
structure Gate where
  running : Option Nat := none
  entry : Nat := 0
  /-- Start of the running entry. -/
  since : Nat := 0
  pendingAt : Option Nat := none
  /-- The bank that the pending switch runs. -/
  nextBank : Nat := 0
  deriving DecidableEq, Repr

/-- The traffic manager. -/
structure Tm where
  hostReqs : List HostReq
  reqSeq : Nat
  fences : List FenceRec
  /-- Messages held at admission, oldest first: arrival port, message, since (R260). -/
  held : List (Nat × Msg × Nat)
  policers : SMap Bucket
  buckets : SMap Bucket
  shapers : SMap Bucket
  /-- Deficit counters of the round robin and the class served last, by port (R268). -/
  deficits : SMap Nat
  rrLast : SMap Nat
  gates : SMap Gate
  /-- Egress queues by port and class: key port × 8 + class. -/
  egress : SMap (List EItem)
  /-- Current path (egress port) to a pair. -/
  paths : SMap Nat
  changes : SMap PathChange
  milestoneId : Nat
  /-- Where a host's last request came from: its route back. -/
  hostVia : SMap Nat
  /-- Requests sent on the present path to a pair and not answered here: peer × 2^16 + tag, and pair × 8 + class (R43). -/
  sent : SMap Nat
  /-- Governor use in this period: resource × 64 + quadrant × 8 + activity (R274). -/
  used : SMap Nat
  /-- Period of the last exhausted event by activity and quadrant (event 0x0320). -/
  exhausted : SMap Nat
  /-- Stack slots that host traffic waits for: quadrant × 128 + composition, since when; and by composition the time in ns
  that its requests waited in this period, and (with its number) in the previous one (R232, R266, R275). -/
  stackHeld : SMap Nat
  stackWait : SMap Nat
  stackWaitPrev : Nat × SMap Nat
  /-- `MGMT` messages that wait for the management budget: arrival port and message (R274). -/
  mgmtWait : List (Nat × Msg)
  /-- Hosts and classes dropped in this and the previous period (R266). -/
  dropped : List Nat
  droppedPrev : List Nat
  deriving DecidableEq, Repr

/-! ## Twins and health (12) -/

/-- A mirror record (12, "Mirror record"). -/
structure MRec where
  kind : Nat
  copy : Bool := false
  comp : Nat := 0
  key : Nat := 0
  inline : Nat := 0
  data : List Slot := []
  deriving DecidableEq, Repr

/-- An access whose effect waits for a commit point (R306, R354). -/
structure Deferred where
  access : Access
  /-- The `MGMT` message to answer in-band, with its arrival port; none: `answers` receives the code. -/
  via : Option (Nat × Msg) := none
  /-- The records sent to the twin for it (R306); none: the access has not been looked at yet (R352). -/
  sent : Option (List MRec) := none
  deriving DecidableEq, Repr

/-- What waits for a batch's acknowledgement (R310, R306). -/
inductive HeldItem where
  /-- A response, with the port its request came from. -/
  | resp (m : Msg) (via : Option Nat)
  /-- A transaction in MIRRORING. -/
  | txn (line : Nat)
  /-- A dictionary write or command, applied and answered at the acknowledgement. -/
  | obj (d : Deferred)
  /-- The answer of a write that has taken effect (R214, R218). -/
  | answer (d : Deferred) (err : Nat)
  /-- A vector trigger: composition and vector. -/
  | vector (comp vec : Nat)
  /-- A stored result line of a reduce slot: slot and aperture line (R158). -/
  | reduced (slot line : Nat)
  deriving DecidableEq, Repr

/-- A batch in the mirror journal (R309). -/
structure Batch where
  seq : Nat
  recs : List MRec
  deriving DecidableEq, Repr

/-- What a monitor knows of a neighbour (R320-R322), keyed by identity (pair + 64 × side). -/
structure Neigh where
  heard : Bool := false
  missed : Nat := 0
  /-- The suspicion: turn of the ask, agreeing and disagreeing answerers, confirmed as posted. -/
  ask : Option Nat := none
  agree : List Nat := []
  disagree : List Nat := []
  answers : Nat := 0
  deriving DecidableEq, Repr

/-- Twin logic (12). -/
structure Twin where
  /-- Object 2B01.01: 0 UNPAIRED ... 8 QUARANTINED. -/
  pair : Nat
  side : Nat
  serving : Bool
  epoch : Nat
  twinTags : Option Nat
  forced : Bool
  seq : Nat
  journal : List Batch
  /-- Batches of the journal that wait for the next period's budget before they are sent, oldest first (R274). -/
  unsent : List Batch
  /-- What waits, oldest first: for a batch, or (none) for the end of `HOLDING`. -/
  held : List (Option Nat × HeldItem)
  /-- Batches received out of sequence and the next sequence to apply. -/
  inbox : List Batch
  applied : Nat
  peerEpoch : Option Nat
  /-- Catch-up: records left to send, start time. -/
  copyLeft : List MRec
  copyStart : Nat
  /-- Quarantine list: identity and `cold_starts` (R323). -/
  quarantine : SMap Nat
  neigh : SMap Neigh
  /-- Identity on a trunk or twin port, learned from its parameter block. -/
  portPeer : SMap Nat
  /-- Serving side by pair as last learned (R305). -/
  servingOf : SMap Nat
  /-- Pairs in takeover: end of the 3 ms (R330); and pairs lost. -/
  takeover : SMap Nat
  lostPairs : List Nat
  /-- Peers' tags and cold starts by identity (R318). -/
  peerTags : SMap Nat
  peerCold : SMap Nat
  /-- Pair state that a peer's last heartbeat showed, and the epoch of the last `TW_SERVING` by pair (R305, R313). -/
  peerState : SMap Nat
  servingEpoch : SMap Nat
  silentTurns : Nat
  /-- A trunk or twin port was `UP` since the last start and went down while enabled (R324). -/
  wentDown : List Nat
  /-- Spare call: rank and deadline (R333). -/
  call : Option (Nat × Nat)
  warnAt : Option Nat
  /-- A spare: the pair that claimed it (R332). -/
  claimed : Bool
  deriving DecidableEq, Repr

/-- A drill in progress (R343-R347). -/
structure Drill where
  seq : Nat
  cls : Nat
  comp : Nat
  target : Nat
  started : Nat
  /-- PATH_FLAP: the port to return to. -/
  back : Nat := 0
  phase : Nat := 0
  deriving DecidableEq, Repr

/-- Health scores and drills (R338-R347). -/
structure Health where
  scores : SMap Nat
  /-- Thresholds whose event may not post again yet: score key × 4 + threshold (R340). -/
  armed : List Nat
  /-- Corrected symbols not yet worth a score input, by lane (R338). -/
  symbols : SMap Nat
  decayAt : Nat
  dice : Nat × Nat
  nextDrill : Nat
  drill : Option Drill
  drillSeq : Nat
  /-- Saturated items whose ports are still to be disabled (R342): score keys. -/
  retire : List Nat
  deriving DecidableEq, Repr

/-! ## Codec (05) -/

/-- A decode-table slot (R133-R135). State: 0 EMPTY, 1 LIVE, 2 RETIRING. -/
structure DSlot where
  state : Nat := 0
  gen : Nat := 0
  /-- The table: 4,096 entries of 32 bits as one number. -/
  image : Nat := 0
  /-- A `LOAD` whose copy is not done: the new image. -/
  loading : Option Nat := none
  /-- The copy of object 2600.04 that reads `BUSY` until then (R135, R353). -/
  loader : Option Nat := none
  /-- Admission number at `RETIRE`: what began up to it still uses the table (R134). -/
  before : Nat := 0
  deriving DecidableEq, Repr

/-- The codec: four decode-table slots and the last coded blocks (R139). -/
structure Codec where
  slots : SMap DSlot
  /-- (uncompressed bytes, stored lines) of the last 65,536 blocks coded, newest first. -/
  recent : List (Nat × Nat)
  deriving DecidableEq, Repr

/-! ## Compute cores, steppers, reduce slots (06, 07) -/

/-- A repeat in progress: the first leg of its body, the leg after it, iterations minus one, the index (R175). -/
structure Loop where
  start : Nat
  stop : Nat
  last : Nat
  idx : Nat
  deriving DecidableEq, Repr

/-- One line request of a tile mover (R177, R182). -/
structure MReq where
  line : Nat
  op : Nat
  data : LineBits := 0
  poison : Bool := false
  coded : Bool := false
  mask : Nat := 2 ^ 128 - 1
  host : Nat := 0
  tag : Nat := 0
  deadline : Nat := 0
  deriving DecidableEq, Repr

/-- A range of local memory that a leg reads or writes: write, first byte, bytes (R176). -/
structure LRange where
  write : Bool
  lo : Nat
  len : Nat
  deriving DecidableEq, Repr

/-- A tile mover leg that has issued and not completed. -/
structure Job where
  leg : Nat
  pc : Nat
  /-- Iteration number at its issue (R447). -/
  iter : Nat := 0
  /-- 0 first reads, 1 the lines that block headers name, or the writes of a gather. -/
  phase : Nat := 0
  todo : List MReq
  outstanding : List MReq := []
  /-- Requests answered `RETRY`, to be sent again (R199). -/
  again : List MReq := []
  /-- Lines read: data and poison, by line. -/
  got : SMap (Nat × Bool) := []
  ranges : List LRange
  /-- Where tiles go: tile and local byte address. -/
  dests : List (Nat × Nat) := []
  /-- The rows of a gather: source row, or none for a row of zeros. -/
  rows : List (Option Nat) := []
  desc : Nat := 0
  /-- Detail of the fault that the leg ends with after its deliveries; 0 for none (R164). -/
  fault : Nat := 0
  /-- Admission number at the home when it issued (R134). -/
  since : Nat := 0
  /-- Local time at which the budget stopped it (R197). -/
  stalled : Option Nat := none
  deriving DecidableEq, Repr

/-- A compute core and its stepper. -/
structure Core where
  /-- Launches held, the head first (R194). -/
  queue : List Nat := []
  started : Bool := false
  /-- Composition of the launch it ran last (R144, R184). -/
  lastComp : Option Nat := none
  pc : Nat := 0
  loops : List Loop := []
  /-- The await in progress: deadline and target (R185). -/
  waiting : Option (Nat × Nat) := none
  jobs : List Job := []
  tag : Nat := 0
  bases : List Nat := []
  /-- The PLL is stopped (R377). -/
  pllOff : Bool := false
  deriving DecidableEq, Repr

/-- A launch (R193-R196). State: 0 QUEUED, 1 RUNNING, 2 ENDING. -/
structure Launch where
  itin : Nat
  comp : Nat
  host : Nat
  args : Nat
  state : Nat := 0
  done : List Nat := []
  /-- Signals held for cores that have not started: core, counter, amount (R186). -/
  held : List (Nat × Nat × Nat) := []
  /-- Cores that have posted 0x0810 (R198). -/
  posted : List Nat := []
  deriving DecidableEq, Repr

/-- An itinerary (R189). State: 0 EMPTY, 1 OPEN, 2 CHECKING, 3 READY, 4 RETIRING. -/
structure Itin where
  state : Nat := 0
  desc : Nat := 0
  deriving DecidableEq, Repr

/-- A stationary block (R145, R179). -/
structure Block where
  rows : Nat
  k : Nat
  format : Nat
  data : Nat
  poison : Bool
  deriving DecidableEq, Repr

/-- A selector's running list, best first: score and index (R153, R181). -/
structure SelList where
  items : List (Nat × Nat)
  poison : Bool
  deriving DecidableEq, Repr

/-- An aperture line of a reduce slot: what its open round holds, and what waits (R157, R158). -/
structure RLine where
  arrived : List Nat := []
  acc : List Nat := []
  poison : Bool := false
  /-- The current round's result is stored. -/
  stored : Bool := false
  /-- Its arrival bits, until the result is mirrored and offered (R158). -/
  shut : List Nat := []
  deriving DecidableEq, Repr

/-- The open rounds of a reduce slot (R156). Descriptor, members and state are objects 2710.02, 2710.04, 2710.07. -/
structure RSlot where
  lines : SMap RLine := []
  /-- Deadlines of the current and the next round (R160). -/
  opened : Option Nat := none
  openedNext : Option Nat := none
  /-- Stored lines whose mirror batch is not acknowledged. -/
  unmirrored : List Nat := []
  deriving DecidableEq, Repr

/-- Compute cores, launches, the leg store and reduce slots. -/
structure Compute where
  /-- Core buffers (core × 2^23) and operand memories (2^28 + engine × 2^19), by byte. -/
  loc : Memory
  /-- Poisoned 32-byte units (R198). -/
  marks : List Nat
  blocks : SMap Block
  sels : SMap SelList
  /-- Event counters and their origins, keyed core × 32 + counter (R184, R185). -/
  counters : SMap Nat
  origins : SMap Nat
  /-- The leg store (object 2800.01). -/
  legs : SMap Nat
  itins : SMap Itin
  launches : SMap Launch
  launchSeq : Nat
  cores : SMap Core
  /-- Local time at which an engine last ran a leg, and the engines that are gated (R166). -/
  engineUse : SMap Nat
  gated : List Nat
  slots : SMap RSlot
  /-- Result offers outstanding: line, host, tag (R159). -/
  offers : List (Nat × Nat × Nat)
  /-- Responses that cores have received and not yet handled. -/
  inbox : List (Nat × Msg)
  deriving DecidableEq, Repr

/-! ## Associative search (08) -/

/-- Who waits for a search update: a `SEARCH` request, an object write (R218), or nobody: a reload under R219 (source 0)
or R220 (source 1), which a drill may have caused (R347). -/
inductive UpdSource where
  | req (m : Msg) (via : Option Nat)
  | obj (d : Deferred)
  | reload (source : Nat) (drill : Bool)
  deriving DecidableEq, Repr

/-- A queued update of a partition (R214): `WRITE` of a record, `CLEAR` (none), or a reload. -/
structure SUpd where
  idx : Nat
  record : Option Nat := none
  source : UpdSource
  /-- Its invalidate step in the all-bank partition is done: it writes until its validate step (R216). -/
  begun : Bool := false
  deriving DecidableEq, Repr

/-- A partition (R203, R222). State: 0 FREE, 1 CLEARING, 2 ACTIVE, 3 RELOADING. -/
structure Part where
  state : Nat := 0
  desc : Nat := 4
  /-- `CLEARING` after a `DESTROY`. -/
  destroying : Bool := false
  /-- Entry records in the backing store, by index; an unlisted entry is all zero. -/
  entries : SMap Nat := []
  /-- Entries whose `valid` is cleared on die only (R219). -/
  hidden : List Nat := []
  /-- Entries of which a drill flipped a parity bit on die. -/
  flipped : List Nat := []
  queue : List SUpd := []
  /-- The requester's copy of object 2910.04 that reads `BUSY` while a command of it runs. -/
  waiter : Option Nat := none
  deriving DecidableEq, Repr

/-- A walk context (R211). -/
structure WalkCtx where
  /-- The requester: a host number, or 1024 + agent. -/
  host : Nat
  comp : Nat
  part : Nat
  key : Nat
  group : Nat
  mask : Nat
  plen : Nat
  pos : Nat
  /-- Idle limit in ns when it was opened, and the time of its last use. -/
  limit : Nat
  used : Nat
  deriving DecidableEq, Repr

/-- The associative search unit. -/
structure Search where
  parts : SMap Part
  ctxs : SMap WalkCtx
  /-- Number of times each context has been opened (R211). -/
  uses : SMap Nat
  /-- Searches that wait for their composition's share, oldest first (R232). -/
  waiting : List (Option Nat × Msg)
  /-- Rows enabled and rows of the partition in the last 65,536 searches, newest first. -/
  recent : List (Nat × Nat)
  /-- Local time of each bank's last search, and gated banks (R223). -/
  lastUse : SMap Nat
  gated : List Nat
  /-- Rows read in the present parity scan pass, one bit a row, by partition; when the pass may start and its period, in ns
  (R220). -/
  scanned : SMap Nat
  scanFrom : Nat
  scanPeriod : Nat
  deriving DecidableEq, Repr

/-! ## Power, clocks and starts (14) -/

/-- A start in progress (R387). Kind: 0 cold, 1 warm keeping stack contents, 2 warm not keeping them. -/
structure Start where
  kind : Nat
  cause : Nat
  step : Nat
  deriving DecidableEq, Repr

/-- An entry handshake in progress (R380). Target: 3 QUIET, 4 WATCH, 5 OFF, 6 the handshake of `WARM_RESET`. -/
structure Shake where
  target : Nat
  deadline : Nat
  /-- Whose copy of object 2D10.04 reads the outcome. -/
  who : Requester
  deriving DecidableEq, Repr

/-- The test access port (R429): instruction 0 `BYPASS`, 1 `IDCODE`, 2 `SAMPLE/PRELOAD`, 3 `EXTEST`; the data register
that the instruction captured, the boundary register, and the contact levels that `EXTEST` drives. -/
structure Jtag where
  ir : Nat
  dr : Nat
  boundary : Nat
  driven : Option Nat
  deriving DecidableEq, Repr

/-- Power control, the always-on island's memory and the journals in package flash. -/
structure Power where
  /-- 0 OFF, 1 FULL, 2 TRIM, 3 QUIET, 4 WATCH, 5 STARTING, 6 STALLED (object 2D10.01). -/
  state : Nat
  start : Option Start
  shake : Option Shake
  /-- Object 2D30.01, and the consecutive failures of object 2D30.02. -/
  lastStart : Nat
  failWarm : Nat
  failCold : Nat
  /-- Failures whose 0x0D20 waits for `FULL`: object 2D30.03 of each, oldest first. -/
  failures : List Nat
  /-- Save-area header (R386): byte 1, temperatures, save count, steward firmware version. -/
  saveValid : Nat
  trainTemp : Int
  calTemp : Int
  saveCount : Nat
  saveFw : Nat
  /-- Light engines whose calibration failed at the last cold start (R390). -/
  badEngines : List Nat
  /-- Issue rate of array and vector legs in 1/16 (R374), and the period of the last 0x0D03. -/
  rate : Nat
  cappedAt : Option Nat
  /-- Sensors at or above their throttle temperature hold the cap (R435): class and item. -/
  throttle : List (Nat × Nat)
  /-- A power-loss sequence or a halt that runs: local time of its start (R396). -/
  losing : Option Nat
  /-- Whether the next start must report a power loss: duration in µs, and an incomplete journal (R395). -/
  lossReport : Option Nat
  journalBad : Bool
  /-- Score journal and the one before it, and the error log (R393). -/
  journal : SMap Nat
  journalOld : SMap Nat
  errorLog : List EventRec
  journalAt : Nat
  /-- Halted for want of the 100 MHz reference (R378). -/
  halted : Bool
  /-- The always-on memory is invalid after a brown-out (R384). -/
  brownOut : Bool
  /-- A wake that 0x0D12 will report: source and port (R385). -/
  wake : Option (Nat × Nat)
  /-- Ports seen at or above the threshold in the last sample of `WATCH`, and ports present (R385). -/
  watchSeen : List Nat
  watchPresent : List Nat
  watchHot : Bool
  /-- A thermal trip that the next start posts (R436): class, item, temperature. -/
  tripped : Option (Nat × Nat × Int)
  /-- The last run ended in a power-loss sequence: the next start's cause is 9 (R395). -/
  lost : Bool
  /-- The 156.25 MHz reference is present; the crystal oscillates; `RESET_N` is asserted (R378, R423, R428). -/
  ref156 : Bool
  crystal : Bool
  resetLow : Bool
  jtag : Jtag
  /-- Object 2C30.02: 0 OFF, 1 BOOTING, 2 RUNNING, 3 RECOVERY, 4 RESTARTING; and the cause that 0x0C01 will carry. -/
  steward : Nat
  stewardCause : Option Nat
  /-- The contact `EVENT_N` is asserted (R425). -/
  eventN : Bool := false
  deriving DecidableEq, Repr

/-! ## Links (11) -/

/-- A sequenced flit in the replay buffer (R292, R295). -/
structure Sent where
  /-- Sequence number extended without wrap; its low 12 bits are `seq`. -/
  ext : Nat
  /-- Slots 1-7 in clear, and the message each belongs to (0: `EMPTY`). -/
  slots : List (Slot × Nat)
  cont : Nat
  cut : Bool := false
  credits : Nat
  attempt : Nat := 0
  sentAt : Nat
  deriving DecidableEq, Repr

/-- A message of which some slot may still be in the replay buffer: residency start, class, slots (R296). -/
structure Carried where
  since : Nat
  cls : Nat
  slots : Nat
  deriving DecidableEq, Repr

/-- The link of a logical port (R285-R300). Role, enable, state and cause are objects 2120.04-2120.08. -/
structure Link where
  /-- Local time at which the present state was entered. -/
  since : Nat := 0
  level : Nat := 2
  /-- Training started from saved calibration. -/
  calibrated : Bool := false
  /-- Sequenced flits sent: the next extended sequence number; and idle flits sent. -/
  txExt : Nat := 0
  idleTx : Nat := 0
  replay : List Sent := []
  /-- Acknowledgement from which a `nak` has already been answered. -/
  resentFrom : Option Nat := none
  /-- Sequenced flits accepted: the next one expected; and the last idle counter accepted. -/
  rxExt : Nat := 0
  idleRx : Nat := 0
  nak : Bool := false
  /-- Slots received of a message that is not complete. -/
  part : List Slot := []
  /-- Credits held by class, and slots freed by class but not yet returned (R291). -/
  credits : SMap Nat := []
  freed : SMap Nat := []
  /-- Credits granted by class as they now stand, and slots by class that are not returned when they are freed, because a
  bandwidth limit has cut the grant (R264). -/
  grants : SMap Nat := []
  withheld : SMap Nat := []
  /-- The peer's link load and whether it asks for full width, as its last flit carried them (R288). -/
  rxLoad : Nat := 0
  rxWide : Bool := false
  /-- Numbers of the link keys, the receive key of the next phase, phases, and flits under the keys (R298). -/
  txKey : Nat := 0
  rxKey : Nat := 0
  rxNext : Option Nat := none
  txPhase : Nat := 0
  rxPhase : Nat := 0
  txUsed : Nat := 0
  rxUsed : Nat := 0
  rekeying : Bool := false
  /-- The flit being assembled, its continuation slots, and what is left of the message being sent. -/
  build : List (Slot × Nat) := []
  cont : Nat := 0
  cut : Bool := false
  rest : List Slot := []
  serial : Nat := 0
  carried : SMap Carried := []
  /-- Local time at which a message last crossed the port; narrowed to one lane (R300). -/
  lastMsg : Nat := 0
  narrow : Bool := false
  /-- The parameter block sent (R285). -/
  params : Slot := 0
  /-- Flits put on the wire, oldest first. -/
  wire : List Flit := []
  deriving DecidableEq, Repr

/-! ## Identity, images and keys (15) -/

/-- A command that waits for the key engine's random source (R412): `CREATE`, or else `RESET`. -/
structure KeyOp where
  create : Bool
  who : Requester
  comp : Nat
  staged : Nat
  deriving DecidableEq, Repr

/-- The key engine, the certificate slots and the images in package flash. -/
structure Security where
  /-- The random source passes its health tests (R412), and the commands that wait for it. -/
  rngOk : Bool
  keyOps : List KeyOp
  /-- Slot-1 chain: bytes and their number (R402). -/
  chain : Nat × Nat
  /-- Images staged into package flash, by boot image × 4 + kind: bytes and their number (R410). -/
  images : SMap (Nat × Nat)
  /-- The image that a requester class assembles (R410): bytes and their number; and over CAN (R371). -/
  building : SMap (Nat × Nat)
  recovery : Nat × Nat
  /-- Firmware and configuration image in force since this start; none: the shipped one. Whether step 7 applied it. -/
  fwImage : Option (Nat × Nat)
  cfgImage : Option (Nat × Nat)
  cfgApplied : Bool
  /-- The boot image strapped for this start is B (R422). -/
  bootB : Bool
  /-- SPDM session state by port, and the end of the holdoff after a refused session (R405). -/
  sessions : SMap Nat
  holdoff : SMap Nat
  /-- Link keys derived so far: each has a number of its own (R298, R406). -/
  linkKeys : Nat
  deriving DecidableEq, Repr

/-! ## The whole state -/

/-- The whole state of one ZX964 package. -/
structure State where
  /-- Local time in ns since the last start (object 2350.09, R12). -/
  now : Nat
  /-- The model's own counter of free values drawn (log entry 5). -/
  free : Nat
  /-- Commands waiting, first in, first out. -/
  pending : List Instr
  dict : Dict
  home : Home
  tier : Tier
  comps : Comps
  tm : Tm
  twin : Twin
  health : Health
  codec : Codec
  compute : Compute
  search : Search
  power : Power
  security : Security
  links : SMap Link
  deriving DecidableEq, Repr

/-- What stops the machine. No meaning of this model raises one: every command of the table has an effect the spec
gives, and an operand that names nothing has none (log entry 2). -/
inductive Fault where
  /-- An address that the spec says does not exist. Raised by no command; safe. -/
  | noSuchAddress
  deriving DecidableEq, Repr

/-- Commands that the model turns away. -/
inductive Refusal where
  /-- A command whose meaning the model does not have. Raised by an arm of `exec` only; safe. -/
  | notModelled (mnemonic : String)
  deriving DecidableEq, Repr

/-- The dictionary after reset: every object at its default, queues empty. -/
def Dict.reset : Dict :=
  { objs := [], sel := [], status := [], staged := [], answers := [], stewardWait := [], nextStart := [], nextPeriod := [],
    stewardQ := [], log := [], canQ := [], stewardSeq := 0, canSeq := 0, stewardLost := false, canLost := false, emcy := [],
    posted := [], watchdog := some 1000000000 }

/-- The home agent after reset (R21 last row, R56). -/
def Home.reset : Home :=
  { exts := [], groups := [], txns := [], waiters := [], dwells := [], filter := [], reserved := [], allocSeq := 0,
    snoopTag := 0, timedOut := [], walk := [], walkPoisoned := [], departures := [], lost := [], hostDown := [],
    ledger := [], floors := [], admits := 0, unconfirmed := [], ringQ := [] }

/-- The tier engine after reset (R121). -/
def Tier.reset : Tier :=
  { mem := [], poison := [], tiles := [], zero := [], marked := [], reqs := [], trayTag := 0, fails := [], down := [],
    reissue := [], flushes := [], touchQ := [], layerSeen := [], repoints := [],
    publisher := [], locked := [], owed := [], refills := [], skipSeen := [], patrol := (0, 3600, []), recover := [] }

/-- The traffic manager after reset. -/
def Tm.reset : Tm :=
  { hostReqs := [], reqSeq := 0, fences := [], held := [], policers := [], buckets := [], shapers := [],
    deficits := [], rrLast := [], gates := [], egress := [], paths := [], changes := [], milestoneId := 0,
    hostVia := [], sent := [], used := [], exhausted := [], stackHeld := [], stackWait := [], stackWaitPrev := (0, []),
    mgmtWait := [], dropped := [], droppedPrev := [] }

/-- Twin logic after a cold start (R313 last row). -/
def Twin.reset : Twin :=
  { pair := 0, side := 0, serving := false, epoch := 0, twinTags := none, forced := false, seq := 0, journal := [],
    unsent := [], held := [], inbox := [], applied := 0, peerEpoch := none, copyLeft := [], copyStart := 0,
    quarantine := [], neigh := [], portPeer := [], servingOf := [], takeover := [],
    lostPairs := [], peerTags := [], peerCold := [], peerState := [], servingEpoch := [], silentTurns := 0, wentDown := [], call := none,
    warnAt := none, claimed := false }

/-- Health logic after reset: scores zero, dice seeded from object 2B50.04 = 0, the first decay step and drill due one
default period after the start (log entry 12). -/
def Health.reset : Health :=
  { scores := [], armed := [], symbols := [], decayAt := 60000000000, dice := (0, 0), nextDrill := 10000000000,
    drill := none, drillSeq := 0, retire := [] }

/-- Compute after reset: memories zero, no itinerary, no launch (R142, R189). -/
def Compute.reset : Compute :=
  { loc := [], marks := [], blocks := [], sels := [], counters := [], origins := [], legs := [], itins := [],
    launches := [], launchSeq := 0, cores := [], engineUse := [], gated := [], slots := [], offers := [], inbox := [] }

/-- Search after reset: every partition `FREE` (R222). -/
def Search.reset : Search :=
  { parts := [], ctxs := [], uses := [], waiting := [], recent := [], lastUse := [], gated := [], scanned := [], scanFrom := 0,
    scanPeriod := 20000000 }

/-- Power after reset: `FULL` after a cold start with cause 0; no save, no journal (log entry 1). -/
def Power.reset : Power :=
  { state := 1, start := none, shake := none, lastStart := 0, failWarm := 0, failCold := 0, failures := [],
    saveValid := 0, trainTemp := 0, calTemp := 0, saveCount := 0, saveFw := 0, badEngines := [], rate := 16, cappedAt := none,
    throttle := [], losing := none, lossReport := none, journalBad := false, journal := [], journalOld := [],
    errorLog := [], journalAt := 3600000000000, halted := false, brownOut := false, wake := none, watchSeen := [],
    watchPresent := [], watchHot := false, tripped := none, lost := false, ref156 := true, crystal := false,
    resetLow := false, jtag := { ir := 1, dr := 0, boundary := 0, driven := none }, steward := 2, stewardCause := none, eventN := false }

/-- Identity and keys after reset: no owner key, no slot-1 chain, no staged image (log entry 1). -/
def Security.reset : Security :=
  { rngOk := true, keyOps := [], chain := (0, 0), images := [], building := [], recovery := (0, 0),
    fwImage := none, cfgImage := none, cfgApplied := true, bootB := false,
    sessions := [], holdoff := [], linkKeys := 0 }

/-- The machine right after reset: a cold start with an empty configuration image has just reached `FULL` at local
time 0 (log entry 1). -/
def State.reset : State :=
  { now := 0, free := 0, pending := [], dict := Dict.reset, home := Home.reset, tier := Tier.reset,
    comps := { comps := [], recs := [], vecs := [], vecTag := 0, keys := [], wrapped := [] }, tm := Tm.reset, twin := Twin.reset,
    health := Health.reset,
    codec := { slots := [], recent := [] }, compute := Compute.reset,
    search := Search.reset, power := Power.reset, security := Security.reset, links := [] }

end Sys2Proof.Machine
end

