-- ==== Sys2Proof/Machine/Ops.lean ====
section
/-! DEFINITION. Named operations over the dictionary's objects, the counters, the event queues and the time. -/

namespace Sys2Proof.Machine

/-! ## Objects -/

/-- The key of an object under its selectors (R449 packing). -/
def objKey (o i : Nat) : Nat := o * 2 ^ 64 + i

/-- The value of object o under selectors i: what is stored, else the default. -/
def getObj (s : State) (o i : Nat) : Nat := s.dict.objs.getD (objKey o i) (objDefault o i)

/-- The value of an object without selectors. -/
def cfg (s : State) (o : Nat) : Nat := getObj s o 0

/-- Change the dictionary. -/
def State.onDict (s : State) (f : Dict → Dict) : State := { s with dict := f s.dict }
/-- Change the home agent. -/
def State.onHome (s : State) (f : Home → Home) : State := { s with home := f s.home }
/-- Change the tier engine. -/
def State.onTier (s : State) (f : Tier → Tier) : State := { s with tier := f s.tier }
/-- Change the compositions. -/
def State.onComps (s : State) (f : Comps → Comps) : State := { s with comps := f s.comps }
/-- Change the traffic manager. -/
def State.onTm (s : State) (f : Tm → Tm) : State := { s with tm := f s.tm }
/-- Change the twin logic. -/
def State.onTwin (s : State) (f : Twin → Twin) : State := { s with twin := f s.twin }
/-- Change compute. -/
def State.onCompute (s : State) (f : Compute → Compute) : State := { s with compute := f s.compute }
/-- Change the search unit. -/
def State.onSearch (s : State) (f : Search → Search) : State := { s with search := f s.search }
/-- Change power control. -/
def State.onPower (s : State) (f : Power → Power) : State := { s with power := f s.power }
/-- Change identity and keys. -/
def State.onSecurity (s : State) (f : Security → Security) : State := { s with security := f s.security }
/-- Change health. -/
def State.onHealth (s : State) (f : Health → Health) : State := { s with health := f s.health }

/-- Store the value of object o under selectors i; a default value is not listed. -/
def setObj (s : State) (o i v : Nat) : State :=
  s.onDict (fun d => { d with objs := d.objs.setD (objKey o i) (objDefault o i) v })

/-- The selectors and values of object o that are not at the default. -/
def listed (s : State) (o : Nat) : List (Nat × Nat) :=
  (s.dict.objs.filter (fun p => decide (p.1 / 2 ^ 64 = o))).map (fun p => (p.1 % 2 ^ 64, p.2))

/-- Reset every copy of object o to its default. -/
def clearObj (s : State) (o : Nat) : State :=
  s.onDict (fun d => { d with objs := d.objs.filter (fun p => decide (p.1 / 2 ^ 64 ≠ o)) })

/-- Whether any requester's key: steward 0, CAN 1, an in-band host 2 + its ID (R353, R361). -/
def Requester.key : Requester → Nat
  | .steward => 0
  | .can => 1
  | .inband p _ => 2 + p % 1024

/-- A requester's key of an object. -/
def whoKey (w : Requester) (o : Nat) : Nat := w.key * 2 ^ 24 + o

/-- A fresh free value: its number, and the state with the counter advanced (log entry 5). -/
def drawFree (s : State) : Nat × State := (s.free, { s with free := s.free + 1 })

/-! ## Time -/

/-- Local time reaches t: it never goes back. -/
def reachTime (s : State) (t : Nat) : State := { s with now := max s.now t }

/-- The 8.192 µs period of a local time (R4, R274). -/
def periodOf (t : Nat) : Nat := t / 8192

/-- Local time in µs, 32 bits (`recorded_at`, `opened_at`). -/
def usNow (s : State) : Nat := (s.now / 1000) % 2 ^ 32

/-! ## Events (R366, R367, R446, R447) -/

/-- A payload: (bytes, value) in order; a value too large for its field reads all ones (R447). -/
def pay : List (Nat × Nat) → Nat
  | [] => 0
  | (n, v) :: r => min v (2 ^ (8 * n) - 1) + 2 ^ (8 * n) * pay r

/-- An event record as its 32 bytes (R366). -/
def EventRec.toNat (e : EventRec) : Nat :=
  pack [(32, e.seq), (16, e.code), (7, e.comp.getD 0), (1, b2n e.comp.isSome), (6, e.pair), (1, e.side),
    (1, b2n e.lostBefore), (64, e.time), (128, e.payload)]

/-- A record posted now, with a sequence number. -/
def mkEvent (s : State) (seq code : Nat) (comp : Option Nat) (payload : Nat) (lost : Bool) : EventRec :=
  { seq := seq, code := code, comp := comp, pair := cfg s 0x210003, side := s.twin.side, lostBefore := lost,
    time := s.now, payload := payload }

/-- Saturating increment of a stored 32-bit count (R448), without its event. -/
def satAdd (v n : Nat) : Nat := min (v + n) (2 ^ 32 - 1)

/-- The last n of a list. -/
def latest {α : Type} (n : Nat) (l : List α) : List α := l.drop (l.length - n)

/-- Put a record into the steward queue, or drop it and count it (R367). -/
def pushSteward (s : State) (code : Nat) (comp : Option Nat) (payload : Nat) : State :=
  if s.dict.stewardQ.length < 4096 then
    let e := mkEvent s s.dict.stewardSeq code comp payload s.dict.stewardLost
    s.onDict (fun d => { d with
      stewardQ := d.stewardQ ++ [e]
      log := latest 2048 (d.log ++ [e])
      stewardSeq := inc32 d.stewardSeq
      stewardLost := false })
  else
    (setObj s 0x2C2002 0 (satAdd (cfg s 0x2C2002) 1)).onDict (fun d => { d with stewardLost := true })

/-- Put a record into the CAN queue, or drop it and count it (R367), with its EMCY message (R368). -/
def pushCan (s : State) (code : Nat) (comp : Option Nat) (payload : Nat) : State :=
  if s.dict.canQ.length < 256 then
    let e := mkEvent s s.dict.canSeq code comp payload s.dict.canLost
    let emcy := if cfg s 0x2C1005 = 1 then [(code, s.dict.canSeq)] else []
    s.onDict (fun d => { d with
      canQ := d.canQ ++ [e]
      canSeq := inc32 d.canSeq
      canLost := false
      emcy := d.emcy ++ emcy })
  else
    (setObj s 0x2C2105 0 (satAdd (cfg s 0x2C2105) 1)).onDict (fun d => { d with canLost := true })

/-- Key of a once-per-period event: code and item. -/
def onceKey (code item : Nat) : Nat := code * 2 ^ 32 + item

/-- Whether a once-per-period event was already posted in this period. -/
def postedThisPeriod (s : State) (code item : Nat) : Bool := s.dict.posted.contains (onceKey code item)

/-- Record a once-per-period posting. -/
def markPosted (s : State) (code item : Nat) : State :=
  s.onDict (fun d => { d with posted := onceKey code item :: d.posted })

/-- Post 0x0C10 for a queue that has room again, once per period (R367). -/
def overflowNotice (s : State) (hadLost : Bool) (queue : Nat) : State :=
  if hadLost && !postedThisPeriod s 0x0C10 queue then
    let lost := if queue = 0 then cfg s 0x2C2002 else cfg s 0x2C2105
    if queue = 0 then
      (if s.dict.stewardQ.length < 4096 then pushSteward (markPosted s 0x0C10 0) 0x0C10 none (pay [(1, 0), (4, lost)]) else s)
    else if s.dict.canQ.length < 256 then pushCan (markPosted s 0x0C10 queue) 0x0C10 none (pay [(1, 1), (4, lost)])
    else s
  else s

/-- Post an event to the steward, copied to the CAN queue when its subsystem bit is set (R367). -/
def post (s : State) (code : Nat) (comp : Option Nat) (payload : Nat) : State :=
  let hadS := s.dict.stewardLost && decide (s.dict.stewardQ.length < 4096)
  let s1 := overflowNotice (pushSteward s code comp payload) hadS 0
  if bit (cfg s 0x2C2101) (code / 256) then
    let hadC := s.dict.canLost && decide (s.dict.canQ.length < 256)
    overflowNotice (pushCan s1 code comp payload) hadC 1
  else s1

/-- Post an event at most once per item and period. -/
def postOnce (s : State) (code item : Nat) (comp : Option Nat) (payload : Nat) : State :=
  if postedThisPeriod s code item then s else post (markPosted s code item) code comp payload

/-! ## Counters (R448, R449) -/

/-- A traffic statistic: adds n, wrapping at 2^64. -/
def addStat (s : State) (o i n : Nat) : State := setObj s o i ((getObj s o i + n) % 2 ^ 64)

/-- A 32-bit sequence: adds n, wrapping at 2^32. -/
def addSeq (s : State) (o i n : Nat) : State := setObj s o i ((getObj s o i + n) % 2 ^ 32)

/-- An error count: adds n, saturating; 0x0C30 is posted when it reaches its largest value (R449). -/
def addErr (s : State) (o i n : Nat) : State :=
  let v := getObj s o i
  let s1 := setObj s o i (satAdd v n)
  if v < 2 ^ 32 - 1 ∧ satAdd v n = 2 ^ 32 - 1 then post s1 0x0C30 none (pay [(2, o / 256), (1, o % 256), (4, i)])
  else s1

/-! ## Names: own pair, home map, extents, compositions, ports -/

/-- Object 2100.03. -/
def ownPair (s : State) : Nat := cfg s 0x210003

/-- Tile of a line address (R13). -/
def tileOf (line : Nat) : Nat := line / 512

/-- The pair that serves a tile under the home map (R14, R15). -/
def homePair (s : State) (line : Nat) : Option Nat :=
  let t := tileOf line
  let e := getObj s 0x210002 (t / 2 ^ 19)
  if bit e 0 then some (bits e (8 + 6 * (t % 2 ^ bits e 1 2)) 6) else none

/-- `ways_log2` of a line's region. -/
def regionWays (s : State) (line : Nat) : Nat := bits (getObj s 0x210002 (tileOf line / 2 ^ 19)) 1 2

/-- Whether this ZX964's pair is the home of a line (R16). -/
def homedHere (s : State) (line : Nat) : Bool := homePair s line == some (ownPair s)

/-- Whether an extent contains a tile. -/
def Extent.covers (e : Extent) (tile : Nat) : Bool := decide (e.base ≤ tile) && decide (tile < e.base + e.length)

/-- The extent, not `FREE`, that contains a line (R18, R20). -/
def extentAt (s : State) (line : Nat) : Option (Nat × Extent) :=
  s.home.exts.find? (fun p => decide (p.2.state ≠ 0) && p.2.covers (tileOf line))

/-- An extent by ID. -/
def extOf (s : State) (id : Nat) : Extent := s.home.exts.getD id {}

/-- Store an extent. -/
def setExt (s : State) (id : Nat) (e : Extent) : State := s.onHome (fun h => { h with exts := h.exts.setD id {} e })

/-- A composition. -/
def compOf (s : State) (c : Nat) : Comp := s.comps.comps.getD c {}

/-- Store a composition. -/
def setComp (s : State) (c : Nat) (v : Comp) : State :=
  s.onComps (fun k => { k with comps := k.comps.setD c {} v })

/-- Whether a host is a member (R230). -/
def isMember (s : State) (c h : Nat) : Bool := (compOf s c).members.has h

/-- Whether a host is `LOST` here (R81). -/
def isLost (s : State) (h : Nat) : Bool := s.home.lost.contains h

/-- The member hosts that are not `LOST` (R60). -/
def liveMembers (s : State) (c : Nat) : List Nat := (compOf s c).members.keys.filter (fun h => !isLost s h)

/-- Port roles (object 2120.04). -/
abbrev roleHost : Nat := 0
abbrev roleTray : Nat := 1
abbrev roleTrunk : Nat := 2
abbrev roleTwin : Nat := 3

/-- Link state of a logical port (object 2120.07): 6 is `UP`. -/
def linkState (s : State) (p : Nat) : Nat := getObj s 0x212007 p

/-- Whether a logical port is `UP`. -/
def linkUp (s : State) (p : Nat) : Bool := linkState s p == 6

/-- Role of a logical port. -/
def portRole (s : State) (p : Nat) : Nat := getObj s 0x212004 p

/-- The `UP` ports of a role, ascending. -/
def upPorts (s : State) (role : Nat) : List Nat :=
  ((listed s 0x212007).filter (fun p => decide (p.2 = 6) && decide (portRole s p.1 = role))).map Prod.fst

/-- The hosts that a value of object 2302.02 binds. -/
def boundHosts (v : Nat) : List Nat :=
  [0, 1, 2, 3].filterMap (fun n => if bit v (11 * n + 10) then some (bits v (11 * n) 10) else none)

/-- Whether object 2302.02 binds a host to a port (R256 step 3). -/
def boundTo (s : State) (p h : Nat) : Bool := (boundHosts (getObj s 0x230202 p)).contains h

/-- The ports that a host is bound to. -/
def portsOfHost (s : State) (h : Nat) : List Nat :=
  ((listed s 0x230202).filter (fun p => (boundHosts p.2).contains h)).map Prod.fst

/-- Whether a host is attached here: bound to a port with role `HOST` (R452). -/
def attached (s : State) (h : Nat) : Bool := (portsOfHost s h).any (fun p => portRole s p == roleHost)

/-- The lowest `UP` port with role `HOST` that a host is bound to. -/
def hostPort (s : State) (h : Nat) : Option Nat :=
  (portsOfHost s h).find? (fun p => decide (portRole s p = roleHost) && linkUp s p)

/-- Host state (R452): 0 ABSENT, 1 PRESENT, 2 LOST. -/
def hostState (s : State) (h : Nat) : Nat :=
  if isLost s h then 2 else if (hostPort s h).isSome then 1 else 0

/-! ## Egress -/

/-- The own side's agent as a `peer` value (R30). -/
def ownAgent (s : State) (agent : Nat) : Nat := agentPeer (ownPair s) s.twin.side agent

/-- Queue a message that has resided here since a time for a port's egress, in its class (R37, R268). -/
def emitSince (s : State) (p : Nat) (m : Msg) (since : Nat) : State :=
  let k := p * 8 + m.tc
  s.onTm (fun t => { t with egress := t.egress.put k (t.egress.getD k [] ++ [{ m := m, since := since }]) })

/-- Queue a message for a port's egress now. -/
def emit (s : State) (p : Nat) (m : Msg) : State := emitSince s p m s.now

end Sys2Proof.Machine
end

