-- ==== Sys2Proof/Machine/Operands.lean ====
section
/-! DEFINITION. Layouts of descriptors: numbers read as fields, and structures written as numbers. -/

namespace Sys2Proof.Machine

/-! ## Extent descriptor (object 2110.02) -/

/-- The 32 bytes of an extent descriptor. -/
def Extent.toNat (e : Extent) : Nat :=
  pack [(31, e.base), (1, 0), (31, e.length), (1, 0), (3, e.state), (1, 0), (7, e.comp), (1, b2n e.shared),
    (10, e.owner), (2, 0), (4, e.rights), (2, e.backing), (2, 0), (8, e.tileDesc), (8, e.stripeSet),
    (16, e.drainUs), (32, e.generation)]

/-- The descriptor that 32 bytes spell. -/
def Extent.ofNat (v : Nat) : Extent :=
  { base := bits v 0 31, length := bits v 32 31, state := bits v 64 3, comp := bits v 68 7, shared := bit v 75,
    owner := bits v 76 10, rights := bits v 88 4, backing := bits v 92 2, tileDesc := bits v 96 8,
    stripeSet := bits v 104 8, drainUs := bits v 112 16, generation := bits v 128 32 }

/-- Rights of an extent (bits 88-91). -/
def Extent.canRead (e : Extent) : Bool := bit e.rights 0
def Extent.canWrite (e : Extent) : Bool := bit e.rights 1
def Extent.canAtomic (e : Extent) : Bool := bit e.rights 2
def Extent.canCompute (e : Extent) : Bool := bit e.rights 3
/-- Whether the extent is `FAST`-backed (R91). -/
def Extent.isFast (e : Extent) : Bool := decide (e.backing = 1)

/-! ## Tile descriptor (object 2112.03) -/

/-- Bits per element of a format (01, "Element format encodings"); 0 for a reserved encoding. -/
def formatBits (f : Nat) : Nat :=
  match f with
  | 0 => 32 | 1 => 16 | 2 => 16 | 3 => 8 | 4 => 8 | 5 => 8 | 6 => 8 | 7 => 6 | 8 => 6 | 9 => 4 | 10 => 8 | 11 => 8
  | 12 => 32 | _ => 0

/-- Whether a format carries an MX scale per 32 elements. -/
def formatMx (f : Nat) : Bool := decide (5 ≤ f) && decide (f ≤ 10)

/-- A tile descriptor's fields. -/
structure TileDesc where
  format : Nat
  swizzle : Nat
  rows : Nat
  cols : Nat
  codec : Nat
  block : Nat
  deriving DecidableEq, Repr

/-- The fields of object 2112.03. -/
def TileDesc.ofNat (v : Nat) : TileDesc :=
  { format := bits v 0 5, swizzle := bits v 5 3, rows := bits v 8 12 + 1, cols := bits v 20 12 + 1,
    codec := bits v 32 4, block := bits v 36 2 }

/-- Bytes of one row of the data area. -/
def TileDesc.rowBytes (d : TileDesc) : Nat := d.cols * formatBits d.format / 8

/-- Bytes of the data area, whole lines (R26). -/
def TileDesc.dataBytes (d : TileDesc) : Nat := 128 * ceilDiv (ceilDiv (d.rows * d.cols * formatBits d.format) 8) 128

/-- Bytes of the scale area, whole lines (R26). -/
def TileDesc.scaleBytes (d : TileDesc) : Nat :=
  if formatMx d.format then 128 * ceilDiv (d.rows * (d.cols / 32)) 128 else 0

/-- Codec block size in bytes. -/
def TileDesc.blockBytes (d : TileDesc) : Nat := 2048 * 2 ^ d.block

/-- The descriptor checks of R26. -/
def tileDescOk (v : Nat) : Bool :=
  let d := TileDesc.ofNat v
  decide (formatBits d.format ≠ 0) && decide (d.swizzle ≤ 2) && decide (d.codec ≤ 2) && decide (v < 2 ^ 38) &&
  decide (d.dataBytes + d.scaleBytes ≤ 65536) && (!formatMx d.format || decide (d.cols % 32 = 0)) &&
  (decide (d.swizzle ≠ 1) || (decide (d.rows % 16 = 0) && decide ((d.cols * formatBits d.format) % 1024 = 0)))

/-- A composition's tile descriptor. -/
def tileDescOf (s : State) (comp idx : Nat) : TileDesc := TileDesc.ofNat (getObj s 0x211203 (comp + idx * 2 ^ 8))

/-! ## Stripe sets (objects 2520.02, 2520.04) -/

/-- A stripe set header: members, unit in lines, origin tile, valid. -/
def stripeHeader (s : State) (set : Nat) : Nat := getObj s 0x252002 set
def stripeMembers (h : Nat) : Nat := bits h 0 6
def stripeUnit (h : Nat) : Nat := 4 * 2 ^ bits h 6 2
def stripeOrigin (h : Nat) : Nat := bits h 8 31
def stripeValid (h : Nat) : Bool := bit h 39

/-- A stripe set member as written. -/
def stripeMember (s : State) (set j : Nat) : Nat := getObj s 0x252004 (set + j * 2 ^ 8)
def memberBase (v : Nat) : Nat := bits v 0 40
def memberPort (v : Nat) : Nat := bits v 40 8
def memberTray (v : Nat) : Nat := bits v 48 8
/-- State bits kept with a member: 2 LOST, 3 REFILLING, else derived (R456). -/
def memberMark (v : Nat) : Nat := bits v 56 2

/-- A member's `state` (R456): 0 UNUSED, 1 OK, 2 LOST, 3 REFILLING. -/
def memberState (s : State) (set j : Nat) : Nat :=
  let h := stripeHeader s set
  if stripeValid h && decide (j < stripeMembers h) then
    (let k := memberMark (stripeMember s set j); if k ≥ 2 then k else 1)
  else 0

/-- Where a line of a `POOL` tile is stored (R95): set member and tray-local line. -/
def trayLocation (s : State) (set line : Nat) : Nat × Nat :=
  let h := stripeHeader s set
  let t := line / 512
  let k := line % 512
  let u := stripeUnit h
  let str := (t - stripeOrigin h) * (512 / u) + k / u
  let j := str % max 1 (stripeMembers h)
  (j, memberBase (stripeMember s set j) + (str / max 1 (stripeMembers h)) * u + k % u)

/-! ## Windows (objects 2540.03, 2540.06) -/

/-- A window descriptor, its cursor included. -/
def windowOf (s : State) (c w : Nat) : Nat := getObj s 0x254003 (c + w * 2 ^ 8)
def winLayers (v : Nat) : Nat := bits v 0 12 + 1
def winCursor (v : Nat) : Nat := bits v 12 12
def winDepth (v : Nat) : Nat := bits v 24 8
def winEnable (v : Nat) : Bool := bit v 32
def winCyclic (v : Nat) : Bool := bit v 33
def winDrop (v : Nat) : Bool := bit v 34
def winExpand (v : Nat) : Bool := bit v 35
def winBase (v : Nat) : Nat := bits v 40 16
def winAdvances (v : Nat) : Nat := bits v 64 32

/-- A layer entry: first tile, tiles, tile descriptor. -/
def layerOf (s : State) (c i : Nat) : Nat := getObj s 0x254006 (c + i * 2 ^ 8)
def layerFirst (v : Nat) : Nat := bits v 0 31
def layerTiles (v : Nat) : Nat := bits v 32 16
def layerDesc (v : Nat) : Nat := bits v 48 8

/-! ## Published regions (object 2560.02) -/

def regionOf (s : State) (r : Nat) : Nat := getObj s 0x256002 r
def regFace (v : Nat) : Nat := bits v 0 31
def regLength (v : Nat) : Nat := bits v 32 31
def regComp (v : Nat) : Nat := bits v 64 7
def regValid (v : Nat) : Bool := bit v 71
def regCurrent (v : Nat) : Nat := bits v 72 16
def regVersionLine (v : Nat) : Nat := bits v 96 40
def regVersion (v : Nat) : Nat := bits v 144 64
def regSlot (v i : Nat) : Nat := bits v (256 + 32 * i) 32
def slotHost (x : Nat) : Nat := bits x 0 10
def slotExtent (x : Nat) : Nat := bits x 10 16
def slotValid (x : Nat) : Bool := bit x 26

/-- The valid regions: number and descriptor. -/
def regions (s : State) : List (Nat × Nat) := (listed s 0x256002).filter (fun p => regValid p.2)

/-- The region whose face holds a line. -/
def faceAt (s : State) (line : Nat) : Option (Nat × Nat) :=
  (regions s).find? (fun p => decide (regFace p.2 ≤ tileOf line) && decide (tileOf line < regFace p.2 + regLength p.2))

/-- The region whose version line this is. -/
def versionAt (s : State) (line : Nat) : Option (Nat × Nat) :=
  (regions s).find? (fun p => decide (regVersionLine p.2 = line))

/-! ## Vectors, compositions, records -/

/-- Vector entry (object 2A12.02). -/
def vectorOf (s : State) (c v : Nat) : Nat := getObj s 0x2A1202 (c + v * 2 ^ 8)
def vecLine (x : Nat) : Nat := bits x 0 40
def vecWord (x : Nat) : Nat := bits x 40 5
def vecTc (x : Nat) : Nat := bits x 45 3
def vecHost (x : Nat) : Nat := bits x 48 10
def vecAll (x : Nat) : Bool := bit x 58
def vecEnable (x : Nat) : Bool := bit x 59
def vecData (x : Nat) : Nat := bits x 64 32
def vecDeliveries (x : Nat) : Nat := bits x 96 32

/-- The 32 bytes of a composition descriptor (object 2A10.02). -/
def Comp.toNat (c : Comp) : Nat :=
  pack [(10, c.owner), (6, 0), (20, c.recordBase), (21, c.recordCount), (7, 0), (16, c.arena), (1, b2n c.arenaValid),
    (15, 0), (40, c.ringLine), (4, c.ringLog2), (1, b2n c.ringValid), (4, c.vector), (1, b2n c.notify), (14, 0),
    (32, c.resetCount)]

/-- The descriptor fields that 32 bytes spell. -/
def Comp.ofNat (v : Nat) : Comp :=
  { owner := bits v 0 10, recordBase := bits v 16 20, recordCount := bits v 36 21, arena := bits v 64 16,
    arenaValid := bit v 80, ringLine := bits v 96 40, ringLog2 := bits v 136 4, ringValid := bit v 140,
    vector := bits v 141 4, notify := bit v 145, resetCount := bits v 160 32 }

/-- The reserved bits of a composition descriptor. -/
def compReserved (v : Nat) : Bool :=
  decide (bits v 10 6 ≠ 0) || decide (bits v 57 7 ≠ 0) || decide (bits v 81 15 ≠ 0) || decide (bits v 146 14 ≠ 0) ||
  decide (bits v 192 64 ≠ 0)

/-- The 128 bytes of a handoff record (object 2A30.02). -/
def Rec.toNat (r : Rec) : Nat :=
  pack [(4, r.state), (1, b2n r.ownerValid), (1, b2n r.producerLost), (1, b2n r.consumerLost), (1, 0), (7, r.comp),
    (1, 0), (10, r.owner), (6, 0), (32, r.generation), (10, r.producer), (6, 0), (10, r.consumer), (6, 0),
    (12, r.target), (4, 0), (4, r.lastFunction), (10, r.lastHost), (2, 0), (31, r.firstTile), (1, 0), (32, r.tiles),
    (64, r.requestTag), (32, r.fillLines), (32, r.openedAt), (32, r.stateAt), (32, 0), (128, r.producerInfo)]

/-- The record that 128 bytes spell. -/
def Rec.ofNat (v : Nat) : Rec :=
  { state := bits v 0 4, ownerValid := bit v 4, producerLost := bit v 5, consumerLost := bit v 6,
    comp := bits v 8 7, owner := bits v 16 10, generation := bits v 32 32, producer := bits v 64 10,
    consumer := bits v 80 10, target := bits v 96 12, lastFunction := bits v 112 4, lastHost := bits v 116 10,
    firstTile := bits v 128 31, tiles := bits v 160 32, requestTag := bits v 192 64, fillLines := bits v 256 32,
    openedAt := bits v 288 32, stateAt := bits v 320 32, producerInfo := bits v 384 128 }

/-- A record as it reads: of a `FREE` one every field but `generation` is zero (R242). What R248 step 5 compares after a
`DISCARD` stays beside it (log entry 20). -/
def Rec.shown (r : Rec) : Rec := if r.state = 0 then { generation := r.generation } else r

/-- Word w of a record (R243). -/
def Rec.word (r : Rec) (w : Nat) : Nat := bits r.shown.toNat (64 * w) 64

/-- A handoff record. -/
def recOf (s : State) (i : Nat) : Rec := s.comps.recs.getD i {}

/-- Store a record; a record all at its default is not listed. -/
def setRec (s : State) (i : Nat) (r : Rec) : State := s.onComps (fun k => { k with recs := k.recs.setD i {} r })

/-! ## Filter and ledger entries -/

/-- A filter entry's 16 bytes (03, "Snoop-filter entry"); a freed entry is sent as zero (`valid` = 0). -/
def FEntry.toNat (e : FEntry) (line : Nat) : Nat :=
  pack [(1, 1), (2, e.mode), (3, if e.mode = 2 then 0 else e.ptrs.length), (2, 0), (7, e.comp), (1, 0), (40, line),
    (10, e.ptrs.getD 0 0), (10, e.ptrs.getD 1 0), (10, e.ptrs.getD 2 0), (10, e.ptrs.getD 3 0), (32, e.seq)]

/-- The entry that 16 bytes spell, if valid. -/
def FEntry.ofNat (v : Nat) : Option FEntry :=
  if bit v 0 then
    let mode := bits v 1 2
    let n := if mode = 2 then 0 else bits v 3 3
    some { mode := mode, ptrs := (List.range n).map (fun i => bits v (56 + 10 * i) 10), comp := bits v 8 7,
           seq := bits v 96 32 }
  else none

/-- A ledger entry's 32 bytes (02, "Atomic ledger entry"). -/
def LEntry.toNat (e : LEntry) (host id : Nat) : Nat :=
  pack [(1, 1), (2, e.state), (5, 0), (10, host), (7, e.comp), (7, 0), (32, id), (40, e.line), (4, e.word),
    (4, e.aop), (4, e.status), (1, b2n e.cas), (11, 0), (64, e.result), (32, e.stamp / 1000), (32, 0)]

/-- The ledger entry that 32 bytes spell, received at local time `t` (R307: its life is timed from its arrival). -/
def LEntry.ofNat (v t : Nat) : Option LEntry :=
  if bit v 0 then
    some { state := bits v 1 2, comp := bits v 18 7, line := bits v 64 40, word := bits v 104 4, aop := bits v 108 4,
           status := bits v 112 4, cas := bit v 116, result := bits v 128 64, stamp := t }
  else none

/-- Key of a ledger entry. -/
def ledgerKey (host id : Nat) : Nat := host * 2 ^ 32 + id

/-! ## Composition events (R236, R237) -/

/-- Tiles [first, first + n) in regions of the span with `ways_log2` = 0 homed by this pair; a region spans 2^19 tiles. -/
def oneWayHere (s : State) (first n : Nat) : Bool :=
  (List.range (if n = 0 then 0 else (first + n - 1) / 2 ^ 19 - first / 2 ^ 19 + 1)).all (fun i =>
    let l := (first / 2 ^ 19 + i) * 2 ^ 19 * 512
    regionWays s l == 0 && homedHere s l)

/-- Whether the ring of a composition lies where R237 wants it: in one `ACTIVE` `FAST` extent of the composition with the
read right, in regions with `ways_log2` = 0 homed by this pair. -/
def ringLies (s : State) (c : Nat) (k : Comp) : Bool :=
  match extentAt s k.ringLine with
  | some (_, e) =>
    decide (e.state = 1) && e.isFast && decide (e.comp = c) && e.canRead &&
    e.covers (tileOf (k.ringLine + 2 ^ k.ringLog2 - 1)) &&
    oneWayHere s (tileOf k.ringLine) (tileOf (k.ringLine + 2 ^ k.ringLog2 - 1) - tileOf k.ringLine + 1)
  | none => false

/-- Whether the ring of a composition can be written now (R237). -/
def ringReady (s : State) (c : Nat) (k : Comp) : Bool := k.ringValid && ringLies s c k

/-- An event of a composition takes the next number of its ring; its record is queued for writing, or dropped and counted
(R236, R237). -/
def queueRing (s : State) (c code payload : Nat) (kept : Bool) : State :=
  let k := compOf s c
  let s1 := setComp s c { k with ringSeq := inc32 k.ringSeq }
  if kept then s1.onHome (fun h => { h with ringQ := h.ringQ ++ [(c, mkEvent s k.ringSeq code (some c) payload false)] })
  else addErr s1 0x2A3106 0 1

/-- Post an event to a composition (R236, R237). -/
def postComp (s : State) (c code payload : Nat) : State := queueRing s c code payload (ringReady s c (compOf s c))

/-- Post an event to the steward and to a composition. -/
def postBoth (s : State) (c code payload : Nat) : State := postComp (post s code (some c) payload) c code payload

end Sys2Proof.Machine
end

