-- ==== Sys2Proof/Machine/Flags.lean ====
section
/-! DEFINITION. Load values of responses (R266) and the buckets and tokens they read (R261, R263). -/

namespace Sys2Proof.Machine

/-- Policer entry fields (object 2310.03). -/
def polEnable (v : Nat) : Bool := bit v 0
def polRate (v : Nat) : Nat := bits v 8 26
def polBurst (v : Nat) : Nat := bits v 34 16

/-- The policer entry of a host and class. -/
def policerOf (s : State) (host tc : Nat) : Nat := getObj s 0x231003 (host + tc * 2 ^ 16)

/-- Tokens in 1/8,192 now: `rate` per 8.192 µs period spread evenly, at most `burst` (R261). One period is 8,192 ns, so
`rate` such units are added each ns, and eight of them are the 1/1,024 token of the rule's resolution. -/
def policerLevel (s : State) (host tc : Nat) : Int :=
  let e := policerOf s host tc
  let b := s.tm.policers.getD (host + tc * 2 ^ 16) { level := (polBurst e * 8192 : Nat), stamp := s.now }
  min (polBurst e * 8192 : Nat) (b.level + ((polRate e * (s.now - b.stamp) : Nat) : Int))

/-- Bandwidth limit of a host in MB/s (object 2320.02). -/
def limitOf (s : State) (host : Nat) : Nat := getObj s 0x232002 host

/-- Bucket size in thousandths of a byte: v × burst µs bytes (R263; v MB/s is v bytes per µs). -/
def bucketSize (s : State) (host : Nat) : Nat := limitOf s host * getObj s 0x232003 host * 1000

/-- Bucket level now, in thousandths of a byte (v bytes per µs are v thousandths per ns). -/
def bucketLevel (s : State) (host : Nat) : Int :=
  let b := s.tm.buckets.getD host { level := (bucketSize s host : Nat), stamp := s.now }
  min (bucketSize s host : Nat) (b.level + ((limitOf s host * (s.now - b.stamp) : Nat) : Int))

/-- Key of a host and class in the dropped lists. -/
def dropKey (host tc : Nat) : Nat := host + tc * 2 ^ 16

/-- Dirty `POOL` lines of a composition (object 2510.06). -/
def dirtyLines (s : State) (c : Nat) : Nat :=
  (s.tier.tiles.filter (fun p => decide (p.2.comp = c) && decide (p.2.state ≠ .fast))).foldl
    (fun n p => n + (setBitList p.2.dirty 512).length) 0

/-- The dirty limit of a composition in lines (R102). -/
def dirtyLimit (s : State) (c : Nat) : Nat := getObj s 0x251003 c * getObj s 0x251002 c * 512 / 1000

/-- Whether a composition is now at the dirty limit: its clean `POOL` line waits to be written (R103). -/
def atDirtyLimit (s : State) (c : Nat) : Bool := decide (dirtyLimit s c ≤ dirtyLines s c)

/-- Sixteenths of a fraction, at most 14 (R266). -/
def sixteenths (a b : Nat) : Nat := if b = 0 then 0 else min 14 (16 * a / b)

/-- Slots waiting in a port's egress queue of a class; its size is taken as 256 messages (log entry 14). -/
def egressDepth (s : State) (p tc : Nat) : Nat := (s.tm.egress.getD (p * 8 + tc) []).length

/-- Sixteenths of the previous period in which requests of a composition waited for stack slots (R266). -/
def stackWaited (s : State) (comp : Nat) : Nat :=
  if s.tm.stackWaitPrev.1 + 1 = periodOf s.now then sixteenths (s.tm.stackWaitPrev.2.getD comp 0) 8192 else 0

/-- The load value that this ZX964 gives a response to a `peer` (R266). An agent has no limit, policer or port here. -/
def loadFor (s : State) (peer tc comp : Nat) (home : Bool) : Nat :=
  let host := if peerIsAgent peer then 1024 else peerHost peer
  let lim := limitOf s host
  let pol := policerOf s host tc
  let held := decide (lim ≠ 0) && decide (bucketLevel s host < 0) &&
    s.tm.held.any (fun x => decide (x.2.1.peer = host))
  let dropped := s.tm.dropped.contains (dropKey host tc) || s.tm.droppedPrev.contains (dropKey host tc)
  let dirtyHeld := home && s.home.txns.any (fun p => p.2.atLimit &&
    decide (p.2.state = .serving) && (match p.2.work with
      | .ops rs => rs.any (fun r => decide (r.m.composition = comp))
      | _ => false))
  let shareHeld := home && s.search.waiting.any (fun w => decide (w.2.composition = comp))
  if held || dropped || dirtyHeld || shareHeld then 15
  else
    let a := if lim = 0 then 0 else sixteenths (bucketSize s host - (bucketLevel s host).toNat) (bucketSize s host)
    let b := if polEnable pol then sixteenths (polBurst pol * 8192 - (policerLevel s host tc).toNat) (polBurst pol * 8192)
      else 0
    let c := match hostPort s host with | some p => sixteenths (egressDepth s p tc) 256 | none => 0
    let d := if home then max (sixteenths (dirtyLines s comp) (dirtyLimit s comp)) (stackWaited s comp) else 0
    max (max a b) (max c d)

end Sys2Proof.Machine
end

