-- ==== Sys2Proof/Machine/Journal.lean ====
section
/-! DEFINITION. Line storage, the governor's accounts, mirror records and the mirror journal (R28, R274, R307-R310), and
interrupt vectors (R235). -/

namespace Sys2Proof.Machine

/-! ## Stored lines -/

/-- The 128 bytes of a line. -/
def lineNat (s : State) (line : Nat) : Nat := Memory.readNat s.tier.mem (line * 128) 128

/-- The 128 bytes of a line as bits; a zero-valued tile reads as zeros (R21). -/
def readLine (s : State) (line : Nat) : LineBits :=
  if s.tier.zero.contains (tileOf line) && !s.tier.tiles.has (tileOf line) then 0 else BitVec.ofNat 1024 (lineNat s line)

/-- Store the 128 bytes of a line. -/
def storeLine (s : State) (line : Nat) (d : LineBits) : State :=
  s.onTier (fun t => { t with mem := Memory.writeNat t.mem (line * 128) 128 d.toNat })

/-- Whether a line carries the poison mark (R28). -/
def isPoisoned (s : State) (line : Nat) : Bool := s.tier.poison.has line

/-- Set the poison mark, with the detail that reads of the line carry. -/
def setPoison (s : State) (line detail : Nat) : State :=
  s.onTier (fun t => { t with poison := t.poison.put line detail })

/-- Clear the poison mark (R28). -/
def clearPoison (s : State) (line : Nat) : State := s.onTier (fun t => { t with poison := t.poison.del line })

/-- The quadrant of a tile under a composition's mask (R90); a tile of a `FAST` extent has kept its slot since its bind, in
the quadrant that the mask of that time selects (R91). -/
def quadrantOf (s : State) (c tile : Nat) : Nat :=
  let mask := match extentAt s (tile * 512) with
    | some (_, e) => if e.isFast then e.slotMask else getObj s 0x251005 c
    | none => getObj s 0x251005 c
  let qs := setBitList mask 4
  qs.getD (tile % max 1 qs.length) 0

/-- Whether a line's dirty bit is set (R101). -/
def isDirty (s : State) (line : Nat) : Bool :=
  match s.tier.tiles.get? (tileOf line) with
  | some t => bit t.dirty (line % 512)
  | none => false

/-! ## The governor's accounts (R274-R276) -/

/-- Resources: 0 stack slots, 1 crossbar slots, 2 search slots. -/
def useKey (resource quadrant activity : Nat) : Nat := resource * 64 + quadrant * 8 + activity

/-- Budget in force (objects 2360.03-2360.05). -/
def budgetOf (s : State) (resource quadrant activity : Nat) : Nat :=
  if resource = 0 then getObj s 0x236003 (quadrant + activity * 2 ^ 8)
  else if resource = 1 then getObj s 0x236004 (quadrant + activity * 2 ^ 8)
  else getObj s 0x236005 activity

/-- Use of an activity in this period. -/
def usedOf (s : State) (resource quadrant activity : Nat) : Nat := s.tm.used.getD (useKey resource quadrant activity) 0

/-- Capacity of a resource per period (10, "Governed resources"). -/
def capacityOf (resource : Nat) : Nat := if resource = 0 then 307200 else if resource = 1 then 3072000 else 21299

/-- Whether host traffic waits for a resource in a quadrant (R275): for stack slots, or for search slots. Nothing waits at a
crossbar port of the model (log entry 104). -/
def hostWaits (s : State) (resource quadrant : Nat) : Bool :=
  if resource = 0 then s.tm.stackHeld.any (fun x => decide (x.1 / 128 = quadrant))
  else if resource = 2 then !s.search.waiting.isEmpty
  else false

/-- What the activities have used of a resource in this period. -/
def activityUse (s : State) (resource quadrant : Nat) : Nat :=
  ((List.range 7).map (fun i => usedOf s resource quadrant (i + 1))).sum

/-- Whether n more units of activities leave waiting host traffic its floor (R275, object 2360.06; over the period, log entry
104). -/
def keepsFloor (s : State) (resource quadrant n : Nat) : Bool :=
  !hostWaits s resource quadrant ||
  decide (64 * (activityUse s resource quadrant + n) ≤ capacityOf resource * (64 - cfg s 0x236006))

/-- Whether an activity may still use n units in this period (R274, R275). -/
def hasBudget (s : State) (resource quadrant activity n : Nat) : Bool :=
  decide (usedOf s resource quadrant activity + n ≤ budgetOf s resource quadrant activity) && keepsFloor s resource quadrant n

/-! ## Host traffic's part (R232, R274, R275) -/

/-- Units of a resource left to host traffic in a period: what the budgets leave, at least the floor. -/
def hostCapacity (s : State) (resource quadrant : Nat) : Nat :=
  max (capacityOf resource - ((List.range 7).map (fun i => budgetOf s resource quadrant (i + 1))).sum)
    (capacityOf resource * cfg s 0x236006 / 64)

/-- Key of a composition's use of a resource as host traffic. -/
def hostUseKey (resource quadrant comp : Nat) : Nat := 2 ^ 16 * (comp + 1) + useKey resource quadrant 0

/-- A composition's share of host traffic's part, in units: objects 2A13.01 for stacks, 2A13.03 for searches. -/
def hostShare (s : State) (resource quadrant comp : Nat) : Nat :=
  getObj s (if resource = 0 then 0x2A1301 else 0x2A1303) comp * hostCapacity s resource quadrant / 1024

/-- What a composition has used as host traffic in this period. -/
def hostUsed (s : State) (resource quadrant comp : Nat) : Nat := s.tm.used.getD (hostUseKey resource quadrant comp) 0

/-- Whether a composition's host traffic may use n units now, given the other compositions with demand: within its share, or
within what other shares with demand leave (R232; log entry 24). -/
def hostAllowed (s : State) (resource quadrant comp n : Nat) (demand : List Nat) : Bool :=
  let total := usedOf s resource quadrant 0
  let reserve := ((demand.filter (fun c => decide (c ≠ comp))).map
    (fun c => hostShare s resource quadrant c - hostUsed s resource quadrant c)).sum
  decide (total + n ≤ hostCapacity s resource quadrant) &&
  (decide (hostUsed s resource quadrant comp + n ≤ hostShare s resource quadrant comp) ||
   decide (total + n + reserve ≤ hostCapacity s resource quadrant))

/-- Note a composition's use as host traffic. -/
def hostCharge (s : State) (resource quadrant comp n : Nat) : State :=
  let k := hostUseKey resource quadrant comp
  let k0 := useKey resource quadrant 0
  s.onTm (fun t => { t with used := (t.used.put k (t.used.getD k 0 + n)).put k0 (t.used.getD k0 0 + n) })

/-- Charge n units to an activity; exhausting a budget counts and posts 0x0320 at most once per activity and quadrant
per 1,024 periods. -/
def charge (s : State) (resource quadrant activity n : Nat) : State :=
  let k := useKey resource quadrant activity
  let u := usedOf s resource quadrant activity
  let b := budgetOf s resource quadrant activity
  let s1 := s.onTm (fun t => { t with used := t.used.put k (u + n) })
  if u < b ∧ b ≤ u + n then
    let s2 := if resource = 0 then addStat s1 0x236008 (quadrant + activity * 2 ^ 8) 1 else s1
    let last := s2.tm.exhausted.get? (quadrant * 8 + activity)
    let due := match last with | none => true | some p => decide (p + 1024 ≤ periodOf s.now)
    if due then
      post (s2.onTm (fun t => { t with exhausted := t.exhausted.put (quadrant * 8 + activity) (periodOf s.now) }))
        0x0320 none (pay [(1, activity), (1, quadrant), (1, resource)])
    else s2
  else s1

/-! ## Mirror records (12, "Mirror record") -/

/-- The slots of a mirror record. -/
def MRec.slots (r : MRec) : List Slot :=
  BitVec.ofNat 256 (pack [(4, r.kind), (3, r.data.length), (1, b2n r.copy), (7, r.comp), (1, 0), (48, 0), (64, r.key),
    (128, r.inline)]) :: r.data

/-- The composition that owns a line (0 when no extent holds it). -/
def lineComp (s : State) (line : Nat) : Nat := match extentAt s line with | some (_, e) => e.comp | none => 0

/-- A `LINE` record: the line as stored, with poison and dirty marks. -/
def recLine (s : State) (line : Nat) : MRec :=
  { kind := 1, comp := lineComp s line, key := line, inline := b2n (isPoisoned s line) + 2 * b2n (isDirty s line),
    data := lineSlots (BitVec.ofNat 1024 (lineNat s line)) }

/-- A `CLEAN` record: the line is no longer dirty. -/
def recClean (s : State) (line : Nat) : MRec := { kind := 2, comp := lineComp s line, key := line }

/-- A `FILTER` record: the entry, or zero for a freed one. -/
def recFilter (s : State) (line : Nat) : MRec :=
  { kind := 3, comp := lineComp s line, key := line,
    inline := match s.home.filter.get? line with | some e => e.toNat line | none => 0 }

/-- A `LEDGER` record. -/
def recLedger (s : State) (host id : Nat) : MRec :=
  match s.home.ledger.get? (ledgerKey host id) with
  | some e => { kind := 4, comp := e.comp, key := host + id * 2 ^ 32, data := natSlots (e.toNat host id) 1 }
  | none => { kind := 4, key := host + id * 2 ^ 32, data := [0] }

/-- A `FLOOR` record. -/
def recFloor (s : State) (host : Nat) : MRec :=
  { kind := 9, key := host + s.home.floors.getD host 0 * 2 ^ 32 }

/-- A `RECORD` record. -/
def recRecord (s : State) (i : Nat) : MRec :=
  { kind := 5, comp := (recOf s i).comp, key := i, data := natSlots (recOf s i).toNat 4 }

/-- An `OBJECT` record: a value of at most 128 bytes. -/
def recObject (o i bytes v comp : Nat) : MRec :=
  { kind := 7, comp := comp, key := pack [(16, o / 256), (8, o % 256), (32, i), (8, bytes)],
    data := natSlots v (ceilDiv bytes 32) }

/-- A `TILE` record: resident, zero-valued and expanded marks. -/
def recTile (s : State) (tile : Nat) : MRec :=
  let t := s.tier.tiles.get? tile
  { kind := 8, comp := lineComp s (tile * 512), key := tile,
    inline := b2n t.isSome + 2 * b2n (s.tier.zero.contains tile) +
      4 * (match t with | some x => b2n x.expanded | none => 0) }

/-! ## The journal (R309, R310) -/

/-- Pair states (object 2B01.01). -/
abbrev psUnpaired : Nat := 0
abbrev psSpare : Nat := 1
abbrev psSend : Nat := 2
abbrev psRecv : Nat := 3
abbrev psSync : Nat := 4
abbrev psHolding : Nat := 5
abbrev psAlone : Nat := 6
abbrev psDetached : Nat := 7
abbrev psQuarantined : Nat := 8

/-- Whether this ZX964 serves its pair (R315). -/
def servesHere (s : State) : Bool :=
  s.twin.pair == psSend || (s.twin.pair == psSync && s.twin.serving) || s.twin.pair == psHolding ||
  s.twin.pair == psAlone || (s.twin.pair == psUnpaired && cfg s 0x2B0002 == 0)

/-- Whether changes are sent to the twin (R309, R334). -/
def mirrorsNow (s : State) : Bool :=
  s.twin.pair == psSend || (s.twin.pair == psSync && s.twin.serving) || s.twin.pair == psHolding

/-- Whether responses wait for acknowledgements (R312, R313). -/
def holdsNow (s : State) : Bool := (s.twin.pair == psSync && s.twin.serving) || s.twin.pair == psHolding

/-- The `TW_MIRROR` message of a batch. -/
def mirrorMsg (s : State) (b : Batch) : Msg :=
  let data := (b.recs.map MRec.slots).flatten
  { opcode := opTwMirror, tc := cfg s 0x2B0006, ext := data.length, peer := agentPeer (ownPair s) (1 - s.twin.side) agentTwin,
    body := pack [(32, b.seq), (3, b.recs.length)], data := data }

/-- Slots of a batch's message. -/
def Batch.slotCount (b : Batch) : Nat := (b.recs.map (fun r => r.slots.length)).sum + 1

/-- The quadrant of a logical port: each owns sixteen optical ports (00, R1). -/
def portQuadrant (lport : Nat) : Nat := lport / 64

/-- Send a batch on the twin links that are `UP`, spread by sequence (R309), within the mirroring activity's crossbar budget
of the port's quadrant; what has no budget waits, in order, for the next period (R274). -/
def sendBatch (s : State) (b : Batch) : State :=
  let ps := upPorts s roleTwin
  match ps[b.seq % max 1 ps.length]? with
  | some p =>
    if s.twin.unsent.isEmpty && hasBudget s 1 (portQuadrant p) 3 b.slotCount then
      emit (charge s 1 (portQuadrant p) 3 b.slotCount) p (mirrorMsg s b)
    else s.onTwin (fun t => { t with unsent := t.unsent ++ [b] })
  | none => s

/-- Send every batch of the journal again, in order (R309, R313). -/
def resendJournal (s : State) : State := s.twin.journal.foldl sendBatch (s.onTwin (fun t => { t with unsent := [] }))

/-- The batches that waited for budget go on, where the journal still holds them. -/
def sendUnsent (s : State) : State :=
  (s.twin.unsent.filter (fun b => s.twin.journal.contains b)).foldl sendBatch (s.onTwin (fun t => { t with unsent := [] }))

/-- Records split so that no message passes eight slots, in order (R30; log entry 15). -/
def splitRecs (recs : List MRec) : List (List MRec) :=
  recs.foldr (fun r acc =>
    match acc with
    | [] => [[r]]
    | g :: rest =>
      if (r.slots.length + (g.map (fun x => x.slots.length)).sum ≤ 7) then (r :: g) :: rest else [r] :: g :: rest) []

/-- Number and keep a batch, and send it (R309). -/
def journalBatch (s : State) (recs : List MRec) : State :=
  let b : Batch := { seq := s.twin.seq, recs := recs }
  let s1 := s.onTwin (fun t => { t with seq := inc32 t.seq, journal := t.journal ++ [b] })
  if s.twin.pair = psHolding then s1 else sendBatch s1 b

/-- Mirror the changes of one request; the batch to wait for, when the pair holds responses (R66, R310). -/
def mirror (s : State) (recs : List MRec) : State × Option Nat :=
  if mirrorsNow s && !recs.isEmpty then
    let s1 := (splitRecs recs).foldl journalBatch s
    (s1, if holdsNow s then some ((s1.twin.seq + 2 ^ 32 - 1) % 2 ^ 32) else none)
  else (s, none)

/-- Mirror changes for which nothing waits (R66: sharer additions; R309: later changes). -/
def mirrorOnly (s : State) (recs : List MRec) : State := (mirror s recs).1

/-- Whether something must wait: for a batch, or for the end of `HOLDING` (R310, R313). -/
def mustWait (s : State) (batch : Option Nat) : Bool := s.twin.pair == psHolding || batch.isSome

/-- Keep an item until its batch is acknowledged. -/
def holdItem (s : State) (batch : Option Nat) (x : HeldItem) : State :=
  s.onTwin (fun t => { t with held := t.held ++ [(batch, x)] })

/-! ## Interrupt vectors (R235) -/

/-- Send a message towards a host: its port here, or the port its last request came from. -/
def toHost (s : State) (h : Nat) (m : Msg) : State :=
  match hostPort s h with
  | some p => emit s p m
  | none =>
    match s.tm.hostVia.get? h with
    | some p => emit s p m
    | none => s

/-- The `WR_NC` of a vector trigger to one host. -/
def vectorMsg (e comp host tag : Nat) : Msg :=
  { opcode := opWrNc, tc := vecTc e, ext := 4, peer := host, composition := comp, tag := tag, line := vecLine e,
    body := 15 * 2 ^ (4 * vecWord e), data := natSlots (vecData e * 2 ^ (32 * vecWord e)) 4 }

/-- The next tag for a vector write to a host that no outstanding write to it carries (R31). -/
def freeVecTag (s : State) (host : Nat) : Nat :=
  ((List.range (s.comps.vecs.length + 1)).map (fun i => (s.comps.vecTag + i) % 2 ^ 16)).find?
    (fun t => !s.comps.vecs.any (fun v => decide (v.host = host) && decide (v.tag = t))) |>.getD s.comps.vecTag

/-- One vector write to one host: sent, remembered until answered, counted in `deliveries`. -/
def vectorWrite (c v : Nat) (s : State) (host : Nat) : State :=
  let e := vectorOf s c v
  let tag := freeVecTag s host
  let s1 := toHost s host (vectorMsg e c host tag)
  let s2 := s1.onComps (fun k => { k with
    vecTag := (tag + 1) % 2 ^ 16
    vecs := k.vecs ++ [{ host := host, tag := tag, deadline := s.now + 1000 * cfg s 0x221001 }] })
  setObj s2 0x2A1202 (c + v * 2 ^ 8) (setBits e 96 32 (vecDeliveries e + 1))

/-- Trigger a vector towards given hosts, whatever its target bits. -/
def triggerHosts (s : State) (c v : Nat) (hosts : List Nat) : State :=
  if vecEnable (vectorOf s c v) then hosts.foldl (vectorWrite c v) s else s

/-- Trigger a vector of a composition (R235); triggers during a reset are discarded (R240). -/
def trigger (s : State) (c v : Nat) : State :=
  let e := vectorOf s c v
  if (compOf s c).state = 2 then s
  else triggerHosts s c v (if vecAll e then liveMembers s c else [vecHost e])

/-- Trigger a vector once a batch is held by the twin (R310). -/
def triggerAfter (s : State) (batch : Option Nat) (c v : Nat) : State :=
  if mustWait s batch then holdItem s batch (.vector c v) else trigger s c v

end Sys2Proof.Machine
end

