-- ==== Sys2Proof/Machine/Cores.lean ====
section
/-! DEFINITION. Compute cores as requesters: their launches, counters and the responses that reach them (R142, R184,
R246). -/

namespace Sys2Proof.Machine

/-- A compute core. -/
def coreOf (s : State) (c : Nat) : Core := s.compute.cores.getD c {}

/-- Store a compute core. -/
def setCore (s : State) (c : Nat) (k : Core) : State :=
  s.onCompute (fun x => { x with cores := x.cores.setD c {} k })

/-- A response reaches a core: it is handled when the command that brought it has done its other effects. -/
def coreRespond (s : State) (c : Nat) (m : Msg) : State := s.onCompute (fun x => { x with inbox := x.inbox ++ [(c, m)] })

/-- The launch at the head of a core's queue. -/
def headLaunch (s : State) (c : Nat) : Option Launch :=
  match (coreOf s c).queue with
  | q :: _ => s.compute.launches.get? q
  | [] => none

/-- The host that rang the doorbell of a core's launch (R246). -/
def coreHost (s : State) (c : Nat) : Nat := match headLaunch s c with | some l => l.host | none => 0

/-- Whether a core is granted to a composition (R233). -/
def coreGranted (s : State) (c core : Nat) : Bool := bit (getObj s 0x2A1304 c) core || bit (getObj s 0x2A1305 c) core

/-- Key of an event counter. -/
def counterKey (core i : Nat) : Nat := core * 32 + i

/-- An event counter (R184). -/
def counterOf (s : State) (core i : Nat) : Nat := s.compute.counters.getD (counterKey core i) 0

/-- A core leaves a leg: the next leg, or the start of a repeat's body again (R175). -/
def nextPc : List Loop → Nat → Nat × List Loop
  | [], pc => (pc, [])
  | l :: r, pc =>
    if pc = l.stop then (if l.idx < l.last then (l.start, { l with idx := l.idx + 1 } :: r) else nextPc r pc)
    else (pc, l :: r)

/-- The leg at pc has issued. Loops are kept innermost first. -/
def advance (k : Core) : Core :=
  let (pc, ls) := nextPc k.loops (k.pc + 1)
  { k with pc := pc, loops := ls }

/-- An await whose counter has reached its target passes (R185). -/
def passAwait (s : State) (core i : Nat) : State :=
  let k := coreOf s core
  match k.waiting with
  | some (_, t) =>
    if t / 2 ^ 32 = i ∧ reached (counterOf s core i) (t % 2 ^ 32) then
      setCore s core (advance { k with waiting := none })
    else s
  | none => s

/-- Add to an event counter (R184). -/
def addCounter (s : State) (core i n : Nat) : State :=
  passAwait (s.onCompute (fun x => { x with
    counters := x.counters.setD (counterKey core i) 0 ((counterOf s core i + n) % 2 ^ 32) })) core i

/-- A signal or count from outside a launch: discarded and counted where the core is not granted (R184). -/
def outsideSignal (s : State) (comp core i n : Nat) : State :=
  if coreGranted s comp core then addCounter s core i n else addErr s 0x282007 0 1

/-- Engines that work is done on are woken (R166) and note their use. -/
def useEngines (s : State) (gs : List Nat) : State :=
  let woken := gs.filter (fun g => s.compute.gated.contains g)
  let s1 := s.onCompute (fun x => { x with
    gated := x.gated.filter (fun g => !gs.contains g)
    engineUse := gs.foldl (fun m g => m.put g s.now) x.engineUse })
  if woken.isEmpty then s1 else addStat s1 0x273002 0 woken.length

end Sys2Proof.Machine
end

