-- ==== Sys2Proof/Machine/Routing.lean ====
section
/-! DEFINITION. Paths to pairs, path changes, responses on their way to requesters, and fences (R31-R44, R305). -/

namespace Sys2Proof.Machine

/-! ## Paths (R43, R341) -/

/-- Score key of an item: class × 2^16 + item. -/
def scoreKey (cls item : Nat) : Nat := cls * 2 ^ 16 + item

/-- A health score. -/
def scoreOf (s : State) (cls item : Nat) : Nat := s.health.scores.getD (scoreKey cls item) 0

/-- Physical port of a logical port (R278: four logical ports per physical port, numbered 4p to 4p + 3). -/
def physOf (lport : Nat) : Nat := lport / 4

/-- Whether a port, or its light engine, stands at or above the drain threshold (R341). -/
def drained (s : State) (p : Nat) : Bool :=
  decide (cfg s 0x2B4008 ≤ scoreOf s 1 p) || decide (cfg s 0x2B4008 ≤ scoreOf s 2 (physOf p / 4))

/-- The ports that may lead to a pair: twin links for the own pair, else trunks (log entry 16). -/
def candidates (s : State) (pair : Nat) : List Nat :=
  if pair = ownPair s then (if (upPorts s roleTwin).isEmpty then upPorts s roleTrunk else upPorts s roleTwin)
  else upPorts s roleTrunk

/-- The port chosen among candidates for a message that arrived on port `arr`: below the drain threshold where one is
(R341), not the port it came from where there is another, lowest first (log entry 16). -/
def choosePort (s : State) (pair arr : Nat) : Option Nat :=
  let cs := candidates s pair
  let away := cs.filter (fun p => decide (p ≠ arr))
  match away.filter (fun p => !drained s p), cs.filter (fun p => !drained s p), away with
  | p :: _, _, _ => some p
  | [], p :: _, _ => some p
  | [], [], p :: _ => some p
  | [], [], [] => cs.head?

/-- The current path to a pair. -/
def pathTo (s : State) (pair arr : Nat) : Option Nat :=
  match s.tm.paths.get? pair with
  | some p => some p
  | none => choosePort s pair arr

/-- Slots of a class leave a port's ingress buffer: their credits are to be returned (R291), but for those that a bandwidth
limit withholds (R264). -/
def freeSlots (s : State) (p c n : Nat) : State :=
  { s with links := s.links.upd p (fun l =>
      let kept := min n (l.withheld.getD c 0)
      { l with freed := l.freed.put c (l.freed.getD c 0 + (n - kept)), withheld := l.withheld.put c (l.withheld.getD c 0 - kept) }) }

/-- Key of a request outstanding on a path: its `peer` and `tag` (R31). -/
def sentKey (peer tag : Nat) : Nat := peer * 2 ^ 16 + tag

/-- Whether a message is a request that is answered from its destination: it names a line, or a service. -/
def Msg.isAnswered (m : Msg) : Bool := m.isAddressed || m.isService

/-- Send a message towards a pair; it has resided here since a time. What R34 keeps in order (a request, an `SNP_RESP`, a
forwarded `MILESTONE`) is held while the path changes (R43 step 1). A request is outstanding on its path from then on. -/
def sendSince (s : State) (pair : Nat) (m : Msg) (inOrder : Bool) (arr since : Nat) : State :=
  match s.tm.changes.get? pair with
  | some c =>
    if inOrder then
      s.onTm (fun t => { t with changes := t.changes.put pair { c with held := c.held ++ [(arr, m, since)] } })
    else emitSince s c.newPort m since
  | none =>
    match pathTo s pair arr with
    | some p =>
      let s1 := s.onTm (fun t => { t with
        paths := t.paths.put pair p
        sent := if m.isAnswered then t.sent.put (sentKey m.peer m.tag) (pair * 8 + m.tc) else t.sent
        hostReqs := if m.isAnswered && !peerIsAgent m.peer then updFirst t.hostReqs
          (fun r => decide (r.host = peerHost m.peer) && decide (r.tag = m.tag)) (fun r => { r with path := p }) else t.hostReqs })
      emitSince s1 p m since
    | none => s

/-- Send a message that has just arrived, or is made here, towards a pair. -/
def sendToPair (s : State) (pair : Nat) (m : Msg) (inOrder : Bool) (arr : Nat) : State :=
  sendSince s pair m inOrder arr s.now

/-- A request is answered, or has ended with `TIMEOUT`: it is not outstanding on a path any more (R43). -/
def forgetSent (s : State) (peer tag : Nat) : State :=
  s.onTm (fun t => { t with sent := t.sent.del (sentKey peer tag) })

/-- The port by which a response to an attached host leaves: its request's, or another `UP` port of the host while that one
is not (R35, R301). -/
def replyPort (s : State) (h p : Nat) : Nat := if linkUp s p then p else (hostPort s h).getD p

/-! ## Fences (R39-R41) -/

/-- The answer to a fence (R40). -/
def fenceAnswer (s : State) (f : FenceRec) : Msg :=
  let st := if f.pathLosts ≠ 0 then stPathLost else if f.timeouts ≠ 0 then stTimeout else stOk
  mkResp f.m st 0 (ownAgent s agentPorts) (f.timeouts % 2 ^ 32) 1

/-- Raise a response's `load` to this ZX964's own value (R266). -/
def raiseLoad (s : State) (m : Msg) (home : Bool) : Msg :=
  m.withLoad (max m.load (loadFor s m.peer m.tc m.composition home))

/-- Remember the load last sent to a host (object 2330.02). -/
def noteLoad (s : State) (h l : Nat) : State := setObj s 0x233002 h l

/-- A response of this ZX964's port logic to a host leaves: its load is raised and remembered (R266). -/
def emitToHost (s : State) (h p : Nat) (m : Msg) : State :=
  let a := raiseLoad s m false
  noteLoad (emit s p a) h a.load

/-- Whether a fence has nothing left to wait for. -/
def FenceRec.isDone (f : FenceRec) : Bool := f.admitted && f.covers.isEmpty

/-- Send the answers of fences that cover nothing any more (R40). -/
def completeFences (s : State) : State :=
  let done := s.tm.fences.filter FenceRec.isDone
  let s1 := s.onTm (fun t => { t with fences := t.fences.filter (fun f => !f.isDone) })
  done.foldl (fun s f => emitToHost s f.host (replyPort s f.host f.port) (fenceAnswer s f)) s1

/-- A request of an attached host is no longer outstanding: fences that cover it take note. -/
def closeHostReq (s : State) (r : HostReq) (timeout pathDown : Bool) : State :=
  completeFences (s.onTm (fun t => { t with
    hostReqs := eraseFirst t.hostReqs (fun x => decide (x.seq = r.seq))
    fences := t.fences.map (fun f =>
      if f.covers.contains r.seq then
        { f with covers := f.covers.filter (fun n => decide (n ≠ r.seq))
                 timeouts := f.timeouts + b2n timeout
                 pathLosts := f.pathLosts + b2n (timeout && pathDown) }
      else f) }))

/-! ## Responses (R31, R33, R38, R266) -/

/-- An attached host's outstanding request with this tag. -/
def hostReqOf (s : State) (h tag : Nat) : Option HostReq :=
  s.tm.hostReqs.find? (fun r => decide (r.host = h) && decide (r.tag = tag))

/-- Whether a `REPLY_DROP` drill discards a response: that of its target, once (R343). -/
def replyDropped (s : State) (m : Msg) : Bool :=
  match s.health.drill with
  | some d => decide (d.cls = 1) && decide (d.phase = 0) && decide (m.line = d.target) &&
      decide (m.tag + 2 ^ 16 * m.peer = d.back) && m.opcode == opResp && decide (m.status = stOk)
  | none => false

/-- The running drill moves to a phase. -/
def drillPhase (s : State) (n : Nat) : State :=
  s.onHealth (fun h => { h with drill := h.drill.map (fun d => { d with phase := n }) })

/-- A response reaches its requester: an own core, an agent elsewhere, an attached host (R38), or the port its request
came from. -/
def deliverResp (s0 : State) (m : Msg) (via : Option Nat) : State :=
  let s := forgetSent s0 m.peer m.tag
  if replyDropped s m then drillPhase s 1
  else if peerIsAgent m.peer then
    let pair := bits m.peer 0 6
    let agent := bits m.peer 7 5
    if pair = ownPair s ∧ bits m.peer 6 1 = s.twin.side then
      (if 1 ≤ agent ∧ agent ≤ 24 then coreRespond s (agent - 1) m else s)
    else
      match via with
      | some p => emit s p m
      | none => sendToPair s pair m false 256
  else
    let h := peerHost m.peer
    if attached s h then
      if isLost s h then s
      else
        match hostReqOf s h m.tag with
        | some r =>
          closeHostReq (emitToHost s h (replyPort s h r.port) m) r false false
        | none => addErr s 0x220104 0 1
    else
      match via with
      | some p => emit s p m
      | none =>
        match s.tm.hostVia.get? h with
        | some p => emit s p m
        | none => s

/-- Send a response now, or when its batch is held by the twin (R310, R313). -/
def respondAfter (s : State) (batch : Option Nat) (m : Msg) (via : Option Nat) : State :=
  if mustWait s batch then holdItem s batch (.resp m via) else deliverResp s m via

/-- An event record stands in its composition's ring: the vector, at most once per µs of local time (R237). -/
def ringWritten (s : State) (c : Nat) : State :=
  let k := compOf s c
  let due := match k.notifiedAt with | none => true | some t => decide (t + 1000 ≤ s.now)
  if k.notify && due then trigger (setComp s c { k with notifiedAt := some s.now }) c k.vector else s

/-- The home's answer to a request: its own agent as responder, its load, then delivery (R48, R66). The home answers its own
ring write to nobody. -/
def answerReq (s : State) (batch : Option Nat) (r : Req) (m : Msg) : State :=
  if r.ring then (if m.status = stOk then ringWritten s r.m.composition else s)
  else respondAfter s batch (raiseLoad s m true) r.port

/-- A refusal or short answer of the home to a request. -/
def refuseReq (s : State) (r : Req) (st detail : Nat) : State :=
  answerReq s none r (mkResp r.m st detail (ownAgent s agentHome) 0 r.group)

/-- An answer of port logic on the arrival port, without the request reaching an agent (R454). -/
def portAnswer (s : State) (p : Nat) (m : Msg) (st detail : Nat) : State :=
  emitToHost s (peerHost m.peer) p (mkResp m st detail (ownAgent s agentPorts) 0 1)

/-! ## Request timeout (R38) -/

/-- Whether a message is a host's request with a tag. -/
def isReqOf (h tag : Nat) (m : Msg) : Bool :=
  !peerIsAgent m.peer && decide (peerHost m.peer = h) && decide (m.tag = tag) && decide (m.opcode < 0x30)

/-- A request that is held, at admission or by a path change, is dropped: its slots are free (log entry 37). -/
def dropHeld (s : State) (h tag : Nat) : State :=
  let gone := (s.tm.held.filter (fun x => isReqOf h tag x.2.1)).map (fun x => (x.1, x.2.1)) ++
    (s.tm.changes.map (fun c => (c.2.held.filter (fun x => isReqOf h tag x.2.1)).map (fun x => (x.1, x.2.1)))).flatten
  let s1 := s.onTm (fun t => { t with
    held := t.held.filter (fun x => !isReqOf h tag x.2.1)
    changes := t.changes.mapV (fun _ c => { c with held := c.held.filter (fun x => !isReqOf h tag x.2.1) }) })
  gone.foldl (fun s x => freeSlots s x.1 x.2.tc x.2.slotCount) s1

/-- The part of an outstanding request that its answer echoes (R31, R32). -/
def HostReq.asked (r : HostReq) : Msg :=
  { opcode := if r.cas then opAtomic else 0, tc := r.tc, peer := r.host, composition := r.comp, tag := r.tag, line := r.line,
    body := if r.cas then 9 else 0 }

/-- `REQUEST_TIMEOUT`: the outstanding request of a host and tag ends with `TIMEOUT` at its deadline. -/
def requestTimeout (s : State) (peer tag : Nat) : State :=
  match hostReqOf s (peerHost peer) tag with
  | some r =>
    let s1 := dropHeld (reachTime s r.deadline) (peerHost peer) tag
    let s2 := forgetSent s1 r.host r.tag
    let a := mkResp r.asked stTimeout (if r.pathLost then dPathDown else dRequestTimeout) (ownAgent s2 agentPorts) 0 1
    closeHostReq (emitToHost s2 (peerHost peer) (replyPort s2 (peerHost peer) r.port) a) r true r.pathLost
  | none => s

/-! ## Fence admission (R39, R41) -/

/-- A `FENCE` is received from an attached host on a port: it covers what that port has received from the host before it
(R39). A fifth one covers nothing (R41). -/
def fenceReceived (s : State) (p : Nat) (m : Msg) : State :=
  let h := peerHost m.peer
  if (s.tm.fences.filter (fun f => decide (f.host = h))).length ≥ 4 then s
  else
    let cov := (s.tm.hostReqs.filter (fun r => decide (r.host = h) && decide (r.port = p) &&
      (m.scopeAll || decide (r.dest = m.fenceDest)))).map HostReq.seq
    s.onTm (fun t => { t with
      fences := t.fences ++ [{ host := h, m := m, port := p, covers := cov, admitted := false }] })

/-- Whether a fence is the one that a message asks for. -/
def isFence (p : Nat) (m : Msg) (f : FenceRec) : Bool := !f.admitted && decide (f.port = p) && decide (f.m = m)

/-- A `FENCE` is admitted: it may complete; one that was not taken at its receipt receives `RETRY` (R41). -/
def fenceEffect (s : State) (p : Nat) (m : Msg) : State :=
  if s.tm.fences.any (isFence p m) then
    completeFences (s.onTm (fun t => { t with fences := updFirst t.fences (isFence p m) (fun f => { f with admitted := true }) }))
  else portAnswer s p m stRetry 0

/-! ## Path changes (R43) -/

/-- The classes with requests outstanding to a pair on its path. -/
def classesTo (s : State) (pair : Nat) : List Nat :=
  (List.range 8).filter (fun tc => s.tm.sent.any (fun x => decide (x.2 = pair * 8 + tc)))

/-- The milestone of a class. The spec does not say which `tag` it carries: its ID modulo 2^16 (DESIGN CHOICE, log entry
103). -/
def milestoneMsg (s : State) (pair tc id : Nat) : Msg :=
  { opcode := opMilestone, tc := tc, peer := ownAgent s agentPorts, tag := id % 2 ^ 16, body := pack [(6, pair), (26, 0), (32, id)] }

/-- Release held requests on the new path, in order; their ingress slots are free (R291), and their residency goes on
(R37). -/
def releaseHeld (s : State) (pair : Nat) (held : List (Nat × Msg × Nat)) : State :=
  held.foldl (fun s x => freeSlots (sendSince s pair x.2.1 true x.1 x.2.2) x.1 x.2.1.tc x.2.1.slotCount) s

/-- The destination moves to its new path (R43 steps 4 and 5). -/
def movePath (s : State) (pair : Nat) (c : PathChange) : State :=
  let s1 := s.onTm (fun t => { t with
    changes := t.changes.del pair
    paths := t.paths.put pair c.newPort
    sent := t.sent.filter (fun x => decide (x.2 / 8 ≠ pair)) })
  releaseHeld s1 pair c.held

/-- Requests for a pair that its path change holds at admission (R256 step 9). -/
def heldFor (s : State) (pair : Nat) : List (Nat × Msg × Nat) :=
  s.tm.held.filter (fun x => s.tm.hostReqs.any (fun r => decide (r.host = x.2.1.peer) && decide (r.tag = x.2.1.tag) &&
    decide (r.dest = pair) && decide (r.path = 256)))

/-- The last milestone is answered (R43 step 4). -/
def pathChangeComplete (s : State) (pair : Nat) (c : PathChange) : State :=
  post (movePath s pair c) 0x0211 none (pay [(1, pair), (1, c.newPort), (4, c.held.length + (heldFor s pair).length)])

/-- `PATH_CHANGE_START`: stop sending, send a milestone per class, post 0x0210 (R43 steps 1 and 2). -/
def pathChangeStart (s : State) (pair newPort cause : Nat) : State :=
  match s.tm.changes.get? pair, pathTo s pair 256 with
  | none, some old =>
    if old ≠ newPort ∧ newPort ∈ candidates s pair then
      let cls := classesTo s pair
      let id0 := s.tm.milestoneId
      let ids := (List.range cls.length).map (fun i => (id0 + i) % 2 ^ 32)
      let c : PathChange :=
        { oldPort := old, newPort := newPort, cause := cause, milestones := ids,
          deadline := s.now + 1000 * cfg s 0x221003, held := [] }
      let s1 := s.onTm (fun t => { t with changes := t.changes.put pair c, milestoneId := (id0 + cls.length) % 2 ^ 32 })
      let s2 := post s1 0x0210 none (pay [(1, pair), (1, old), (1, newPort), (1, cause)])
      let s3 := (cls.zip ids).foldl (fun s x => emit s old (milestoneMsg s pair x.1 x.2)) s2
      if ids.isEmpty then pathChangeComplete s3 pair c else s3
    else s
  | _, _ => s

/-- A milestone's answer arrives (R31, R43 step 4): matched by its tag; only `OK` answers it. -/
def milestoneAnswered (s : State) (m : Msg) : State :=
  match s.tm.changes.find? (fun x => x.2.milestones.any (fun id => decide (id % 2 ^ 16 = m.tag))) with
  | some (pair, c) =>
    let c1 := { c with milestones := c.milestones.filter (fun id => decide (id % 2 ^ 16 ≠ m.tag)) }
    if m.status ≠ stOk then s
    else if c1.milestones.isEmpty then pathChangeComplete s pair c1
    else s.onTm (fun t => { t with changes := t.changes.put pair c1 })
  | none => s

/-- `MILESTONE_TIMEOUT`: the old path is lost; its outstanding requests are marked (R43 step 5). -/
def milestoneTimeout (s : State) (pair : Nat) : State :=
  match s.tm.changes.get? pair with
  | some c =>
    if c.milestones.isEmpty then s
    else
      let s1 := reachTime s c.deadline
      let hit : HostReq → Bool := fun r => decide (r.dest = pair) && decide (r.path = c.oldPort)
      let n := (s1.tm.hostReqs.filter hit).length
      let s2 := s1.onTm (fun t => { t with hostReqs := t.hostReqs.map (fun r => if hit r then { r with pathLost := true } else r) })
      let s3 := addErr s2 0x221004 0 1
      post (movePath s3 pair c) 0x0212 none (pay [(1, pair), (1, c.oldPort), (4, n)])
  | none => s

/-- `MILESTONE` received: the destination answers on the arrival port (R43 step 3). The spec does not say which of its agents
is the responder: the home agent (DESIGN CHOICE, log entry 103). -/
def milestoneEffect (s : State) (p : Nat) (m : Msg) : State :=
  if m.milestoneDest = ownPair s then
    emit s p (raiseLoad s (mkResp m stOk 0 (ownAgent s agentHome) m.milestoneId 1) true)
  else sendToPair s m.milestoneDest m true p

/-! ## Residency (R37) -/

/-- The egress queue and place of the n-th message that waits for egress, in port and class order. -/
def egressNth (e : SMap (List EItem)) (n : Nat) : Option (Nat × Nat) :=
  match e with
  | [] => none
  | (k, l) :: r => if n < l.length then some (k, n) else egressNth r (n - l.length)

/-- Messages that wait for egress. -/
def egressCount (s : State) : Nat := (s.tm.egress.map (fun x => x.2.length)).sum

/-- The place of the n-th message that a path change holds: its pair and its place there. -/
def heldNth (c : SMap PathChange) (n : Nat) : Option (Nat × Nat) :=
  match c with
  | [] => none
  | (k, x) :: r => if n < x.held.length then some (k, n) else heldNth r (n - x.held.length)

/-- A message has resided here longer than object 2210.02: local time has passed its limit, and it is counted (R37). -/
def outstayed (s : State) (since : Nat) : State :=
  addErr (reachTime s (since + 1000 * cfg s 0x221002 + 1)) 0x220103 0 1

/-- The n-th message that a path change holds is discarded; its ingress slots are free. -/
def residencyHeld (s : State) (n : Nat) : State :=
  match heldNth s.tm.changes n with
  | some (k, i) =>
    match (s.tm.changes.get? k).bind (fun c => c.held[i]?) with
    | some x =>
      let s1 := (outstayed s x.2.2).onTm (fun t => { t with
        changes := t.changes.upd k (fun c => { c with held := c.held.eraseIdx i }) })
      freeSlots s1 x.1 x.2.1.tc x.2.1.slotCount
    | none => s
  | none => s

/-- `RESIDENCY_LIMIT`: the n-th resident message has resided longer than object 2210.02; it is discarded and counted. Those
that wait for egress are numbered first, then those that a path change holds. -/
def residencyLimit (s : State) (n : Nat) : State :=
  match egressNth s.tm.egress n with
  | some (k, i) =>
    let l := s.tm.egress.getD k []
    match l[i]? with
    | some e => (outstayed s e.since).onTm (fun t => { t with egress := t.egress.put k (l.eraseIdx i) })
    | none => s
  | none => residencyHeld s (n - egressCount s)

end Sys2Proof.Machine
end

