-- ==== Sys2Proof/Machine/Scores.lean ====
section
/-! DEFINITION. Health scores (R338-R342). -/

namespace Sys2Proof.Machine

/-- Weight of an input of a class (object 2B40.04). -/
def scoreWeight (s : State) (cls input : Nat) : Nat := bits (getObj s 0x2B4004 cls) (16 * input) 16

/-- Key of an armed threshold: 0 warn, 1 drain, 2 retire. -/
def armKey (cls item th : Nat) : Nat := scoreKey cls item * 4 + th

/-- Post one threshold's event when the score rises to it, once until it has fallen below half (R340). -/
def thresholdEvent (s : State) (cls item th limit code v : Nat) : State :=
  if limit ≤ v ∧ !s.health.armed.contains (armKey cls item th) then
    let s1 := s.onHealth (fun h => { h with armed := armKey cls item th :: h.armed })
    post s1 code none (if th = 2 then pay [(1, cls), (2, item)] else pay [(1, cls), (2, item), (2, v)])
  else s

/-- Re-arm thresholds whose half the score has fallen below (R340). -/
def rearmThresholds (s : State) (cls item v : Nat) : State :=
  let keep : Nat → Nat → Bool := fun th limit => decide (limit ≤ 2 * v)
  s.onHealth (fun h => { h with armed := h.armed.filter (fun k =>
    decide (k / 4 ≠ scoreKey cls item) || keep (k % 4)
      (if k % 4 = 0 then cfg s 0x2B4007 else if k % 4 = 1 then cfg s 0x2B4008 else 65535)) })

/-- Store a score and post what it reaches (R338, R340); a saturated item is queued for retirement (R342). -/
def setScore (s : State) (cls item v : Nat) : State :=
  let old := scoreOf s cls item
  let s1 := s.onHealth (fun h => { h with scores := h.scores.setD (scoreKey cls item) 0 v })
  let s2 := if old < v then thresholdEvent s1 cls item 0 (cfg s 0x2B4007) 0x0B40 v else s1
  let s3 := if old < v then thresholdEvent s2 cls item 1 (cfg s 0x2B4008) 0x0B41 v else s2
  let s4 := if old < v then thresholdEvent s3 cls item 2 65535 0x0B42 v else s3
  let s5 := rearmThresholds s4 cls item v
  if v = 65535 ∧ old < 65535 ∧ cfg s 0x2B4009 = 1 ∧ cls ≤ 3 then
    s5.onHealth (fun h => { h with retire := h.retire ++ [scoreKey cls item] })
  else s5

/-- Add n occurrences of an input to a score, saturating at 65,535 (R338). -/
def addScore (s : State) (cls item input n : Nat) : State :=
  setScore s cls item (min 65535 (scoreOf s cls item + n * scoreWeight s cls input))

/-- A port input: it counts for the port and for its light engine (R338, classes 1 and 2). -/
def addPortScore (s : State) (lport input n : Nat) : State :=
  addScore (addScore s 1 lport input n) 2 (physOf lport / 4) input n

/-- One decay step of one score (R339). -/
def decayed (v shift : Nat) : Nat := if v = 65535 then v else v - ceilDiv v (2 ^ shift)

end Sys2Proof.Machine
end

