-- ==== Sys2Proof/Machine/Codec.lean ====
section
/-! DEFINITION. Coded blocks: headers, weight and activation decoding and coding (R129-R139). -/

namespace Sys2Proof.Machine

/-- Change the codec. -/
def State.onCodec (s : State) (f : Codec → Codec) : State := { s with codec := f s.codec }

/-- A decode-table slot. -/
def dslot (s : State) (i : Nat) : DSlot := s.codec.slots.getD i {}

/-- Store a decode-table slot. -/
def setDslot (s : State) (i : Nat) (d : DSlot) : State := s.onCodec (fun c => { c with slots := c.slots.setD i {} d })

/-! ## Block header (05, "Block header") -/

def bhKind (h : Nat) : Nat := bits h 0 4
def bhSlot (h : Nat) : Nat := bits h 8 2
def bhGen (h : Nat) : Nat := bits h 16 16
def bhPayload (h : Nat) : Nat := bits h 32 16
def bhLow (h : Nat) : Nat := bits h 64 32
def bhHigh (h : Nat) : Nat := bits h 96 32
def bhCheck (h : Nat) : Nat := bits h 64 64

/-- Lines that a header and its payload occupy. -/
def codedLines (payload : Nat) : Nat := ceilDiv (16 + payload) 128

/-- Whether `payload_bytes` lies in its range. -/
def payloadOk (h size : Nat) : Bool := decide (1 ≤ bhPayload h) && decide (bhPayload h ≤ size - 16)

/-- Whether a `WEIGHT` header passes R129. -/
def weightHeaderOk (h size : Nat) : Bool :=
  decide (bhKind h = 1) && payloadOk h size && decide (bhHigh h = crc32c (bits h 0 96) 12)

/-- The `check` of an `ACTIVATION` block (R137): 32 key bytes, 5 address bytes, 8 header bytes. -/
def actCheck (key line h : Nat) : Nat :=
  shake256 45 (bits key 0 256 + 2 ^ 256 * (line % 2 ^ 40) + 2 ^ 296 * bits h 0 64) 8 % 2 ^ 64

/-- Whether 16 bytes are the header of a coded `ACTIVATION` block (R137). -/
def actHeaderOk (key line h : Nat) : Bool := decide (bhKind h = 2) && decide (bhCheck h = actCheck key line h)

/-- Codec key of a composition. -/
def codecKey (s : State) (c : Nat) : Nat := bits (s.comps.keys.getD c 0) 512 256

/-- Install a composition's keys, and their wrapped copy in the metadata reservation; none: the keys are destroyed (R412, R414). -/
def putKeys (s : State) (c : Nat) (v : Option Nat) : State :=
  s.onComps (fun k => match v with
    | none => { k with keys := k.keys.del c, wrapped := k.wrapped.del c }
    | some x => { k with keys := k.keys.put c x, wrapped := k.wrapped.put c (keyWrap (wrapKey (cfg s 0x2B1006)) 12 x) })

/-- Memory key of a composition. -/
def memKey (s : State) (c : Nat) : BitVec 512 := BitVec.ofNat 512 (s.comps.keys.getD c 0)

/-! ## Weight blocks (R130) -/

/-- Entry of a table at a decoder state: symbol, nbits, base. -/
def tableEntry (img st : Nat) : Nat := bits img (32 * st) 32

/-- Whether a table image is valid (R133). -/
def tableOk (img : Nat) : Bool :=
  (List.range 4096).all (fun i =>
    let e := tableEntry img i
    decide (bits e 8 4 ≤ 12) && decide (bits e 24 8 = 0) && decide (bits e 12 12 + 2 ^ bits e 8 4 ≤ 4096))

/-- The interleaved decoders of R130, `n` symbols to go: states in turn, position, symbols decoded (last first). -/
def ansLoop (img p limit : Nat) : Nat → List Nat → Nat → List Nat → Option (List Nat × Nat)
  | 0, _, pos, out => some (out, pos)
  | _ + 1, [], _, _ => none
  | n + 1, st :: rest, pos, out =>
    let e := tableEntry img st
    let nb := bits e 8 4
    let pos1 := pos + nb
    if pos1 > limit then none
    else ansLoop img p limit n (rest ++ [bits e 12 12 + bits p pos nb]) pos1 (bits e 0 8 :: out)

/-- Bytes (last first) as a little-endian number. -/
def revBytes (l : List Nat) : Nat := l.foldl (fun acc b => acc * 256 + b) 0

/-- Decode a `WEIGHT` block: block bytes as a number in, expanded bytes out, or the failure's detail. -/
def decodeWeight (img block size : Nat) : Nat ⊕ Nat :=
  let h := bits block 0 128
  let p := block / 2 ^ 128
  let st := (List.range 32).map (fun j => bits p (12 * j) 12)
  match ansLoop img p (8 * bhPayload h) size st 384 [] with
  | none => .inl dStreamError
  | some (out, pos) =>
    if ceilDiv pos 8 ≠ bhPayload h then .inl dStreamError
    else
      let v := revBytes out
      if crc32c v size ≠ bhLow h then .inl dDataCheck else .inr v

/-- Decode a `WEIGHT` block under the table slots; `admNo` is the request's admission number (R134, R136). -/
def expandWeight (s : State) (admNo block size : Nat) : Nat ⊕ Nat :=
  let h := bits block 0 128
  if !weightHeaderOk h size then .inl dBadHeader
  else
    let d := dslot s (bhSlot h)
    if d.state = 0 then .inl dTableEmpty
    else if d.state = 2 ∧ d.before < admNo then .inl dTableRetired
    else if d.gen ≠ bhGen h then .inl dTableGeneration
    else decodeWeight d.image block size

/-! ## Activation blocks (R137) -/

/-- Undo the run coding of a bitmap of n coded bytes (R137). A last byte 0x00 without its count stands for one zero byte
(DESIGN CHOICE, log entry 113: no coder writes it, and the rule does not say how it is read). -/
def unrun : Nat → Nat → List Nat → List Nat
  | 0, _, acc => acc.reverse
  | n + 1, v, acc =>
    if v % 256 = 0 then
      match n with
      | 0 => (0 :: acc).reverse
      | m + 1 => unrun m (v / 65536) (List.replicate (bits v 8 8 + 1) 0 ++ acc)
    else unrun n (v / 256) (v % 256 :: acc)

/-- Spread the nonzero elements: bitmap bits, element width, values, result so far and its bit position. -/
def spread : List Bool → Nat → Nat → Nat → Nat → Nat × Nat
  | [], _, _, acc, used => (acc, used)
  | b :: r, w, vals, acc, used =>
    let (rest, u) := spread r w (if b then vals / 2 ^ w else vals) acc (if b then used + w else used)
    ((if b then vals % 2 ^ w else 0) + 2 ^ w * rest, u)

/-- Decode a coded `ACTIVATION` block of elements of width w, counted from the block's start; where w does not divide the
block, the bits left over are its last element (DESIGN CHOICE, log entry 115: a coded block then expands to itself). -/
def decodeActivation (block size w : Nat) : Nat ⊕ Nat :=
  let h := bits block 0 128
  let p := block / 2 ^ 128
  let n := ceilDiv (size * 8) (max 1 w)
  let bm := unrun (bhGen h) p []
  if bm.length ≠ ceilDiv n 8 then .inl dStreamError
  else
    let flags := (List.range n).map (fun i => bit (bm.getD (i / 8) 0) (i % 8))
    let (v, used) := spread flags w (p / 2 ^ (8 * bhGen h)) 0 0
    if bhGen h + ceilDiv used 8 ≠ bhPayload h then .inl dStreamError else .inr (v % 2 ^ (8 * size))

/-- Run-code a bitmap: a zero byte and a count for each run of up to 256 zero bytes. -/
def runCode : List Nat → Nat → List Nat → List Nat
  | [], 0, acc => acc.reverse
  | [], z + 1, acc => (z :: 0 :: acc).reverse
  | b :: r, z, acc =>
    if b = 0 then (if z = 256 then runCode r 1 (255 :: 0 :: acc) else runCode r (z + 1) acc)
    else if z = 0 then runCode r 0 (b :: acc) else runCode r 0 (b :: (z - 1) :: 0 :: acc)

/-- Code an `ACTIVATION` block (R137): the coded block with its line count, or none when it is stored raw. -/
def codeActivation (key line raw size w : Nat) : Option (Nat × Nat) :=
  let n := ceilDiv (size * 8) (max 1 w)
  let elems := (List.range n).map (fun i => bits (raw % 2 ^ (8 * size)) (w * i) w)
  let bm := (List.range (ceilDiv n 8)).map (fun i =>
    pack ((List.range 8).map (fun k => (1, b2n (decide (elems.getD (8 * i + k) 0 ≠ 0))))))
  let rc := runCode bm 0 []
  let vals := elems.filter (fun e => decide (e ≠ 0))
  let vbytes := ceilDiv (vals.length * w) 8
  let payload := rc.length + vbytes
  if codedLines payload < size / 128 ∧ 1 ≤ payload then
    let h0 := pack [(4, 2), (4, 0), (8, 0), (16, rc.length), (16, payload), (16, 0)]
    let h := h0 + 2 ^ 64 * actCheck key line h0
    some (h + 2 ^ 128 * (pack (rc.map (fun b => (8, b))) + 2 ^ (8 * rc.length) * pack (vals.map (fun e => (w, e)))),
      codedLines payload)
  else none

/-! ## Reading coded tiles (R123, R129, R136, R137) -/

/-- The bytes of the block that starts at a line: the last block of a data area that is no whole number of blocks ends with
the area, for the scale area is never coded (R27; DESIGN CHOICE, log entry 115). -/
def blockSize (d : TileDesc) (first : Nat) : Nat := min d.blockBytes (d.dataBytes - first % 512 * 128)

/-- The first line of the block that holds a line of the data area, and the block's size in bytes. -/
def blockOf (d : TileDesc) (line : Nat) : Nat × Nat :=
  let per := d.blockBytes / 128
  let k := line % 512
  let first := line - k + per * (k / per)
  (first, blockSize d first)

/-- Whether a line lies in the data area of a coded tile. -/
def codedAt (d : TileDesc) (line : Nat) : Bool :=
  decide (d.codec ≠ 0) && decide ((line % 512) * 128 < d.dataBytes)

/-- The stored bytes of n lines from a line. -/
def linesNat (s : State) (line n : Nat) : Nat := Memory.readNat s.tier.mem (line * 128) (128 * n)

/-- Whether any of n lines from a line is poisoned. -/
def anyPoison (s : State) (line n : Nat) : Bool := (List.range n).any (fun i => isPoisoned s (line + i))

/-- What a read of a line of a coded tile delivers: poison, a decode failure, or the decoded 128 bytes. -/
inductive Decoded where
  | data (d : LineBits)
  | poison
  | fail (detail : Nat)
  deriving DecidableEq, Repr

/-- Expand the block that starts at a line: its bytes, as the codec of the descriptor gives them. -/
def expandBlock (s : State) (d : TileDesc) (comp admNo first size : Nat) : Decoded ⊕ Nat :=
  let h := linesNat s first 1 % 2 ^ 128
  if isPoisoned s first then .inl .poison
  else if d.codec = 1 then
    let n := if payloadOk h size then codedLines (bhPayload h) else 1
    if anyPoison s first n then .inl .poison
    else
      match expandWeight s admNo (linesNat s first n) size with
      | .inl e => .inl (.fail e)
      | .inr v => .inr v
  else if actHeaderOk (codecKey s comp) first h then
    let n := if payloadOk h size then codedLines (bhPayload h) else 1
    if anyPoison s first n then .inl .poison
    else
      match decodeActivation (linesNat s first n) size (formatBits d.format) with
      | .inl e => .inl (.fail e)
      | .inr v => .inr v
  else if anyPoison s first (size / 128) then .inl .poison
  else .inr (linesNat s first (size / 128))

/-- A line as a request under a descriptor reads it. -/
def readCoded (s : State) (d : TileDesc) (comp admNo line : Nat) : Decoded :=
  if codedAt d line then
    let (first, size) := blockOf d line
    match expandBlock s d comp admNo first size with
    | .inl x => x
    | .inr v => .data (BitVec.ofNat 1024 (bits v (1024 * (line - first)) 1024))
  else if isPoisoned s line then .poison
  else .data (readLine s line)

/-- Count and post a decode failure (R136). -/
def decodeFailed (s : State) (comp line detail : Nat) : State :=
  let s1 := addErr s 0x260102 0 1
  let p := pay [(5, line), (1, detail)]
  if postedThisPeriod s1 0x0610 comp then s1 else postBoth (markPosted s1 0x0610 comp) comp 0x0610 p

/-- Object 2602.04: uncompressed bytes ÷ stored bytes of the last blocks coded, in 1/256 (R139). -/
def actRatio (s : State) : Nat :=
  let raw := (s.codec.recent.map Prod.fst).sum
  let st := (s.codec.recent.map Prod.snd).sum * 128
  if st = 0 then 256 else min 65535 (raw * 256 / st)

/-- Count a coded (or raw) block of R137 in the statistics. -/
def countBlock (s : State) (size lines : Nat) (isRaw : Bool) : State :=
  let s1 := s.onCodec (fun c => { c with recent := ((size, lines) :: c.recent).take 65536 })
  let s2 := addStat (addStat s1 0x260201 0 size) 0x260202 0 (128 * lines)
  let s3 := if isRaw then addStat s2 0x260203 0 1 else s2
  setObj s3 0x260204 0 (actRatio s3)

end Sys2Proof.Machine
end

