-- ==== Sys2Proof/Machine/Tier.lean ====
section
/-! DEFINITION. The tier engine: slots, fills, eviction, dirty marks, zero-valued tiles, windows and tray requests
(R89-R112). -/

namespace Sys2Proof.Machine

/-- A tile's map entry. -/
def tileAt (s : State) (tile : Nat) : Option Tile := s.tier.tiles.get? tile

/-- Store a tile's map entry. -/
def putTile (s : State) (tile : Nat) (t : Tile) : State := s.onTier (fun x => { x with tiles := x.tiles.put tile t })

/-- Change a tile's map entry, if it has one. -/
def updTile (s : State) (tile : Nat) (f : Tile → Tile) : State := s.onTier (fun x => { x with tiles := x.tiles.upd tile f })

/-- Forget every byte and poison mark of a tile. -/
def clearTile (s : State) (tile : Nat) : State :=
  s.onTier (fun x => { x with
    mem := Memory.clear x.mem (tile * 65536) 65536
    poison := x.poison.filter (fun p => decide (p.1 / 512 ≠ tile)) })

/-- Release a tile's slot without write-back. -/
def dropSlot (s : State) (tile : Nat) : State :=
  (clearTile s tile).onTier (fun x => { x with
    tiles := x.tiles.del tile
    reqs := x.reqs.filter (fun r => decide (r.line / 512 ≠ tile) || decide (r.kind = .poison))
    reissue := x.reissue.filter (fun l => decide (l / 512 ≠ tile)) })

/-- Slots a composition holds from its quota (object 2510.07). -/
def residentTiles (s : State) (c : Nat) : Nat :=
  (s.tier.tiles.filter (fun p => decide (p.2.comp = c) && decide (p.2.state ≠ .fast))).length

/-- Cache quota (object 2510.02). -/
def quotaOf (s : State) (c : Nat) : Nat := getObj s 0x251002 c

/-- Tiles of bound `FAST` extents (R92). -/
def fastTiles (s : State) : Nat :=
  ((s.home.exts.filter (fun p => decide (p.2.state ≠ 0) && p.2.isFast)).map (fun p => p.2.length)).sum

/-- All cache quotas (R92). -/
def quotaSum (s : State) : Nat := ((listed s 0x251002).map Prod.snd).sum

/-- Slots of the fast tier (R92). -/
abbrev tierSlots : Nat := 18350080

/-! ## Windows (R107-R112) -/

/-- The layers of a window's held set from a cursor, in prefetch order (R109). -/
def heldLayers (v cursor : Nat) : List Nat :=
  (List.range (min (winDepth v + 1) (winLayers v))).filterMap (fun i =>
    let l := cursor + i
    if l < winLayers v then some l else if winCyclic v then some (l % winLayers v) else none)

/-- The layer entry of a layer of a window. -/
def winLayer (s : State) (c v l : Nat) : Nat := layerOf s c (winBase v + l)

/-- Whether a layer entry covers a tile. -/
def layerCovers (e tile : Nat) : Bool := decide (layerFirst e ≤ tile) && decide (tile < layerFirst e + layerTiles e)

/-- Whether an enabled window of a composition holds a tile (R108). -/
def windowHolds (s : State) (c tile : Nat) : Bool :=
  (List.range 16).any (fun w =>
    let v := windowOf s c w
    winEnable v && (heldLayers v (winCursor v)).any (fun l => layerCovers (winLayer s c v l) tile))

/-- The first enabled window that expands a tile at load, as its layer entry's tile descriptor (R130, R131). -/
def expandDesc (s : State) (c tile : Nat) : Option Nat :=
  (List.range 16).findSome? (fun w =>
    let v := windowOf s c w
    if winEnable v && winExpand v then
      (heldLayers v (winCursor v)).findSome? (fun l =>
        let e := winLayer s c v l
        if layerCovers e tile then some (layerDesc e) else none)
    else none)

/-! ## Layers (R109) -/

/-- Whether a tile counts as resident: every line in the fast tier, or a zero-valued or `FAST` tile. -/
def tileResident (s : State) (tile : Nat) : Bool :=
  s.tier.zero.contains tile ||
  (match extentAt s (tile * 512) with | some (_, e) => e.isFast | none => false) ||
  (match tileAt s tile with | some t => decide (t.state ≠ .filling) | none => false)

/-- The tiles of a layer entry. -/
def layerTileList (e : Nat) : List Nat := (List.range (layerTiles e)).map (fun i => layerFirst e + i)

/-- Key of a layer of a window. -/
def layerKey (c w l : Nat) : Nat := (c * 16 + w) * 4096 + l

/-- Post 0x0530 for each layer of a composition's held sets whose tiles are all resident, once while it is held (R109). -/
def layerEvents (s : State) (c : Nat) : State :=
  (List.range 16).foldl (fun s w =>
    let v := windowOf s c w
    if !winEnable v then s
    else
      let held := heldLayers v (winCursor v)
      let s1 := s.onTier (fun t => { t with layerSeen := t.layerSeen.filter (fun k =>
        decide (k / 4096 ≠ c * 16 + w) || held.contains (k % 4096)) })
      held.foldl (fun s l =>
        if !s.tier.layerSeen.contains (layerKey c w l) && (layerTileList (winLayer s c v l)).all (tileResident s) then
          post (s.onTier (fun t => { t with layerSeen := t.layerSeen ++ [layerKey c w l] })) 0x0530 (some c)
            (pay [(1, w), (2, l)])
        else s) s1) s

/-! ## Trays (R95-R99) -/

/-- The extent's stripe set and the member that holds a line of a `POOL` tile. -/
def memberOfLine (s : State) (line : Nat) : Nat × Nat :=
  match extentAt s line with
  | some (_, e) => (e.stripeSet, (trayLocation s e.stripeSet line).1)
  | none => (0, 0)

/-- Whether a line's tray copy lies on a `LOST` member (R99), or on a `REFILLING` one: until the poison fill has ended its
lines go on reading as poisoned, and the dirty lines it holds back are not written (R100). -/
def lineLost (s : State) (line : Nat) : Bool :=
  let (set, j) := memberOfLine s line
  memberState s set j == 2 || memberState s set j == 3

/-- The tweak of a line (R124). -/
def tweakOf (line : Nat) : BitVec 128 := BitVec.ofNat 128 (line % 2 ^ 40)

/-- A line of the span as its stack stores it (R123, R124): State holds the line itself, and this is its stored form. -/
def stackLine (s : State) (line : Nat) (d : LineBits) (poison : Bool) : Nat :=
  storedLine (memKey s (lineComp s line)) (tweakOf line) d poison

/-- The line that stored bytes hold, read at a line's address (R123, R124). -/
def unstackLine (s : State) (line : Nat) (cipher : LineBits) : LineBits :=
  (loadedLine (memKey s (lineComp s line)) (tweakOf line) cipher.toNat).1

/-- Send one tray request for a line (R97): a read, or a write of `data` with the encrypted bytes and the poison mark that the
stack stores (R124, R127). -/
def trayRequest (s : State) (kind : TrayKind) (line : Nat) (retried : Bool) (data : LineBits) (poison : Bool) : State :=
  match extentAt s line with
  | none => s
  | some (_, e) =>
    let (j, tl) := trayLocation s e.stripeSet line
    let p := memberPort (stripeMember s e.stripeSet j)
    let tag := s.tier.trayTag
    let tc := cfg s 0x252007
    let isRead := decide (kind = .fill) || decide (kind = .refetch)
    let m : Msg :=
      if isRead then { opcode := opRdNc, tc := tc, composition := e.comp, tag := tag, line := tl }
      else
        let v := stackLine s line data poison
        { opcode := opWrNc, tc := tc, poison := bit v 1024, ext := 4, composition := e.comp, tag := tag, line := tl,
          body := 2 ^ 128 - 1, data := lineSlots (BitVec.ofNat 1024 v) }
    (emit s p m).onTier (fun t => { t with
      trayTag := (tag + 1) % 2 ^ 16
      reqs := t.reqs ++ [{ port := p, tag := tag, kind := kind, line := line,
                           deadline := s.now + 1000 * cfg s 0x252008, retried := retried,
                           data := data, poison := poison }] })

/-- The tile descriptor under which hosts use a tile: the extent's default (05, "Coded blocks"), as its number. -/
def hostDescNat (s : State) (line : Nat) : Nat :=
  match extentAt s line with
  | some (_, e) => getObj s 0x211203 (e.comp + e.tileDesc * 2 ^ 8)
  | none => 0

/-- The same, by its fields. -/
def hostDesc (s : State) (line : Nat) : TileDesc := TileDesc.ofNat (hostDescNat s line)

/-- The tile descriptor under which a tile is filled: that of the window that expands it at load, else the extent's
(R130, R131). -/
def fillDesc (s : State) (line : Nat) : TileDesc :=
  let c := lineComp s line
  match expandDesc s c (tileOf line) with
  | some i => tileDescOf s c i
  | none => hostDesc s line

/-- The first lines of the coded blocks of a tile under a descriptor. -/
def blockFirsts (d : TileDesc) (tile : Nat) : List Nat :=
  let per := d.blockBytes / 128
  ((List.range 512).filter (fun k => codedAt d k && decide (k % per = 0))).map (fun k => tile * 512 + k)

/-- Expand a filled tile at load (R131): every block at its place, or the tile stays in stored form with 0x0611. A poisoned
block counts as one that fails to decode, with the detail 0; a tile with a line written during its fill stays in stored form
without count or event, for its tray copy is not its content (DESIGN CHOICE, log entry 112: the rule names neither). -/
def expandTile (s : State) (tile : Nat) (t : Tile) : State :=
  match expandDesc s t.comp tile with
  | none => s
  | some i =>
    let d := tileDescOf s t.comp i
    if d.codec ≠ 1 ∨ t.dirty ≠ 0 then s
    else
      let outs := (blockFirsts d tile).map (fun l => (l, expandBlock s d t.comp t.since l (blockSize d l)))
      let bad := outs.findSome? (fun x => match x.2 with
        | .inl (.fail e) => some e
        | .inl _ => some 0
        | .inr _ => none)
      match bad with
      | some e => post (addErr s 0x260103 0 1) 0x0611 (some t.comp) (pay [(4, tile), (1, e)])
      | none =>
        let s1 := outs.foldl (fun s x => match x.2 with
          | .inr v => (List.range (blockSize d x.1 / 128)).foldl
              (fun s k => storeLine s (x.1 + k) (BitVec.ofNat 1024 (bits v (1024 * k) 1024))) s
          | .inl _ => s) s
        addStat (updTile s1 tile (fun t => { t with expanded := true })) 0x260101 0 outs.length

/-- The last line of a fill is stored (R93). -/
def tileFilled (s : State) (tile : Nat) : State :=
  match tileAt s tile with
  | some t =>
    if t.state = .filling ∧ t.missing = 0 then
      let s1 := expandTile (updTile s tile (fun t => { t with state := .resident })) tile t
      let s2 := mirrorOnly (addStat s1 0x250101 0 1) [recTile s1 tile]
      layerEvents s2 t.comp
    else s
  | none => s

/-- A line of a fill is not needed or never comes. -/
def notMissing (s : State) (line : Nat) : State :=
  updTile s (line / 512) (fun t => { t with missing := setBits t.missing (line % 512) 1 0 })

/-- Read a line of a fill from its tray, or mark it poisoned when its copy is lost (R93, R99, R455). -/
def readTrayLine (s : State) (line : Nat) : State :=
  if lineLost s line then
    let s1 := notMissing s line
    if (compOf s (lineComp s line)).state = 3 then s1 else setPoison s1 line dPoolLost
  else trayRequest s .fill line false 0 false

/-- Remember a line that is to be read again, at the next access to it or under the migration budget (R98). -/
def readLater (s : State) (line : Nat) : State :=
  s.onTier (fun t => { t with reissue := if t.reissue.contains line then t.reissue else t.reissue ++ [line] })

/-- Whether the migration budget has room for `n` stack slots and the crossbar slots of a line's read and answer (R106). -/
def mayMigrate (s : State) (q n : Nat) : Bool := hasBudget s 0 q 1 n && hasBudget s 1 q 1 6

/-- Charge the read of a line to the migration budget with `n` stack slots (R106). -/
def chargeMigrate (s : State) (q n : Nat) : State := charge (charge s 0 q 1 n) 1 q 1 6

/-- Ask for a line of a fill: one that a request needs at once; one of a prefetch while the migration budget lasts, else
later (R106). -/
def askLine (s : State) (line : Nat) : State :=
  match tileAt s (line / 512) with
  | some t =>
    if t.prefetch = 0 then readTrayLine s line
    else if mayMigrate s t.quadrant (2 - t.prefetch) then readTrayLine (chargeMigrate s t.quadrant (2 - t.prefetch)) line
    else readLater s line
  | none => s

/-- The first line of a coded block is here: read the lines its header names, and drop the rest (R131). -/
def blockArrived (s : State) (line : Nat) : State :=
  let d := fillDesc s line
  let per := blockSize d line / 128
  if codedAt d line && decide (line % 512 % (d.blockBytes / 128) = 0) then
    let h := linesNat s line 1 % 2 ^ 128
    let coded := decide (d.codec = 1) || actHeaderOk (codecKey s (lineComp s line)) line h
    let n := if isPoisoned s line then 1 else if !coded then per
      else if payloadOk h (blockSize d line) then codedLines (bhPayload h) else 1
    let waiting : Nat → Bool := fun l => s.tier.reqs.any (fun r => decide (r.kind = .fill) && decide (r.line = l))
    (List.range per).foldl (fun s i =>
      if i = 0 ∨ waiting (line + i) then s
      else if i < n then
        (match tileAt s (line / 512) with
         | some t => if bit t.missing ((line + i) % 512) then askLine s (line + i) else s
         | none => s)
      else notMissing s (line + i)) s
  else s

/-- Read a line of a fill (R93, R99): a lost line needs no answer, so that its block and its tile may be complete. -/
def fillLine (s : State) (line : Nat) : State :=
  let s1 := readTrayLine s line
  if lineLost s line then tileFilled (blockArrived s1 line) (line / 512) else s1

/-- Write a line back to its tray (R93, R104, R105). -/
def writeBack (s : State) (line : Nat) : State :=
  let s1 := updTile s (line / 512) (fun t => { t with
    writing := setBits t.writing (line % 512) 1 1
    rewritten := setBits t.rewritten (line % 512) 1 0 })
  trayRequest s1 .writeback line false (BitVec.ofNat 1024 (lineNat s line)) (isPoisoned s line)

/-- The lines that a fill of a tile asks for first (R131): the first line of each coded block and every line outside
coded blocks; all lines of an uncoded tile. -/
def firstLines (d : TileDesc) : List Nat :=
  (List.range 512).filter (fun k => !codedAt d k || decide (k % (d.blockBytes / 128) = 0))

/-- A fill's order (R97): the stripe unit of the demanded line, then the rest. -/
def fillOrder (unit demand : Nat) (ks : List Nat) : List Nat :=
  ks.filter (fun k => decide (k / unit = demand / unit)) ++ ks.filter (fun k => decide (k / unit ≠ demand / unit))

/-- The poisoned lines of a tile that has now taken a slot are stored there: arrived, and dirty (R101). -/
def settleOwed (s : State) (tile : Nat) : State :=
  let ls := s.tier.owed.filter (fun l => decide (l / 512 = tile))
  let s1 := ls.foldl (fun s l => updTile s tile (fun t => { t with
    missing := setBits t.missing (l % 512) 1 0
    dirty := setBits t.dirty (l % 512) 1 1
    dirtiedAt := if t.dirty = 0 then s.now else t.dirtiedAt })) s
  s1.onTier (fun t => { t with owed := t.owed.filter (fun l => decide (l / 512 ≠ tile)) })

/-- Open a slot for a tile and read it from the trays (R93 first row, R97); `skip` is a line that needs no read, and
`prefetch` says that the migration budget bears the fill (R106). -/
def startFill (s : State) (c line : Nat) (skip : Option Nat) (prefetch : Nat) : State :=
  let tile := line / 512
  let d := fillDesc s line
  let per := d.blockBytes / 128
  let inSkip : Nat → Bool := fun k => match skip with
    | some l => codedAt d l && decide (k / per = l % 512 / per)
    | none => false
  let ks := (List.range 512).filter (fun k => ((firstLines d).contains k || inSkip k) && decide (some (tile * 512 + k) ≠ skip))
  let mask := (List.range 512).foldl (fun n k => if some (tile * 512 + k) = skip then n else n + 2 ^ k) 0
  let owed := s.tier.owed
  let s1 := settleOwed (putTile s tile {
    state := .filling, comp := c, quadrant := quadrantOf s c tile, missing := mask,
    since := s.home.admits, prefetch := prefetch, access := s.now }) tile
  let set := (memberOfLine s line).1
  let u := stripeUnit (stripeHeader s set)
  let s2 := (fillOrder u (line % 512) (ks.filter (fun k => !owed.contains (tile * 512 + k)))).foldl
    (fun s k => tileFilled (let s' := askLine s (tile * 512 + k)
      if lineLost s (tile * 512 + k) then blockArrived s' (tile * 512 + k) else s') tile) s1
  (owed.filter (fun l => decide (l / 512 = tile))).foldl (fun s l => tileFilled (blockArrived s l) tile) s2

/-- Whether a tile holds a dirty line whose member is lost: never evicted (R99). -/
def dirtyLost (s : State) (tile : Nat) (t : Tile) : Bool :=
  (setBitList t.dirty 512).any (fun k => lineLost s (tile * 512 + k))

/-- Whether a line of a tile is blocked (R68). -/
def tileBlocked (s : State) (tile : Nat) : Bool := s.home.txns.any (fun p => decide (p.1 / 512 = tile))

/-- Whether a tile's extent is `ACTIVE`: the write-back of a tile of another extent is not started (R23). -/
def tileActive (s : State) (tile : Nat) : Bool :=
  match extentAt s (tile * 512) with | some (_, e) => decide (e.state = 1) | none => false

/-- Whether R94 may evict a tile: no window holds it, none of its lines is blocked, and its dirty lines can be written
back (R23, R99). -/
def evictable (s : State) (c tile : Nat) (t : Tile) : Bool :=
  decide (t.state = .resident) && decide (t.comp = c) && decide (t.zeroLeft = 0) && !windowHolds s c tile &&
  !tileBlocked s tile && !dirtyLost s tile t && (decide (t.dirty = 0) || t.expanded || tileActive s tile)

/-- Whether tile a is a better victim than tile b: accessed in an earlier period, or in the same one and without dirty
lines where b has some, else accessed earlier (R94). -/
def betterVictim (a b : Tile) : Bool :=
  if periodOf a.access = periodOf b.access then
    (if decide (a.dirty = 0) = decide (b.dirty = 0) then decide (a.access < b.access) else decide (a.dirty = 0))
  else decide (a.access < b.access)

/-- The tile that R94 evicts next. -/
def victim (s : State) (c : Nat) : Option (Nat × Tile) :=
  (s.tier.tiles.filter (fun p => evictable s c p.1 p.2)).foldl
    (fun best p => match best with
      | none => some p
      | some b => if betterVictim p.2 b.2 then some p else best) none

/-- Count an eviction and release the slot. -/
def evicted (s : State) (tile : Nat) : State :=
  let s1 := addStat (dropSlot s tile) 0x250103 0 1
  mirrorOnly s1 [recTile s1 tile]

/-- Evict a tile (R93): release it, or write back first its dirty lines that no write-back carries yet. An expanded tile
is never written back (R131). -/
def evict (s : State) (tile : Nat) (t : Tile) : State :=
  if t.dirty = 0 ∨ t.expanded then evicted s tile
  else
    let s1 := updTile s tile (fun t => { t with state := .evicting, failed := false })
    ((setBitList t.dirty 512).filter (fun k => !bit t.writing k)).foldl (fun s k => writeBack s (tile * 512 + k)) s1

/-- The first write to a zero-valued tile: its copy reads all zero from now on. A `POOL` tile opens a slot without tray
reads and owes the trays a write of every line (R93); a `FAST` tile, which has its slot, leaves the zero map. -/
def openZero (s : State) (c tile : Nat) (fast : Bool) : State :=
  let s1 := (clearTile s tile).onTier (fun x => { x with marked := x.marked.filter (fun t => decide (t ≠ tile)) })
  if fast then s1.onTier (fun x => { x with zero := x.zero.filter (fun t => decide (t ≠ tile)) })
  else
    let s2 := putTile s1 tile { state := .resident, comp := c, quadrant := quadrantOf s c tile, zeroLeft := 2 ^ 512 - 1,
                                access := s.now }
    settleOwed ((s.tier.owed.filter (fun l => decide (l / 512 = tile))).foldl
      (fun x l => setPoison x l (s.tier.poison.getD l 0)) s2) tile

/-- A tile that takes a slot is read from the trays, or opens all zero (R93). -/
def openTile (s : State) (c line : Nat) (skip : Option Nat) (prefetch : Nat) : State :=
  if s.tier.zero.contains (line / 512) then openZero s c (line / 512) false else startFill s c line skip prefetch

/-- The requests of some work. -/
def Work.reqs : Work → List Req
  | .ops rs => rs
  | _ => []

/-- The line whose bytes serve a request: for a face, the same line of the current extent (R114). -/
def servedLine (s : State) (line : Nat) : Nat :=
  match faceAt s line with
  | some (_, v) => (extOf s (regCurrent v)).base * 512 + (line - regFace v * 512)
  | none => line

/-- The line whose tier access some work makes: for a face read, that of the extent which is current now (R114, R116). -/
def accessLine (s : State) (line : Nat) (w : Work) : Nat :=
  match w with
  | .ops (r :: _) => if r.m.isRead then servedLine s line else line
  | _ => line

/-- Whether some work stores to its line: a line that a snoop returned, or a request that does not only read. -/
def storesLine (t : Txn) : Bool :=
  t.returned.isSome || t.work.reqs.any (fun r => !r.m.isRead)

/-- Whether an access needs a slot that its tile does not hold: a tile that reads as zeros needs one at its first write
only (R93). -/
def needsSlot (s : State) (line : Nat) (write : Bool) : Bool :=
  (tileAt s (tileOf line)).isNone && (write || !s.tier.zero.contains (tileOf line))

/-- The absent `POOL` tiles of a composition that its line transactions and poisoned lines need (R93, R101). -/
def wantedTiles (s : State) (c : Nat) : List Nat :=
  let mine : Nat → Bool := fun l => match extentAt s l with
    | some (_, e) => !e.isFast && decide (e.comp = c)
    | none => false
  (s.home.txns.filterMap (fun p =>
    let l := accessLine s p.1 p.2.work
    if (p.2.returned.isSome || !p.2.work.reqs.isEmpty) && mine l && needsSlot s l (storesLine p.2) then
      some (tileOf l) else none) ++ (s.tier.owed.filter mine).map tileOf).dedup

/-- Whether the slots that a composition's evictions are freeing serve every absent tile it needs, `tile` among them: then
no further victim is chosen (R93, R94). -/
def evictionsSuffice (s : State) (c tile : Nat) : Bool :=
  let freeing := (s.tier.tiles.filter (fun p => decide (p.2.comp = c) && decide (p.2.state = .evicting))).length
  decide ((tile :: (wantedTiles s c).filter (fun t => decide (t ≠ tile))).length ≤ freeing)

/-- Take a slot for a `POOL` tile (R93): within the quota, else after evicting a clean tile; a dirty victim starts its
write-backs and the access waits. -/
def takeSlot (s : State) (c line : Nat) (skip : Option Nat) (prefetch : Nat) : State :=
  if residentTiles s c < quotaOf s c then openTile s c line skip prefetch
  else if evictionsSuffice s c (tileOf line) then s
  else
    match victim s c with
    | some (v, t) =>
      let s1 := evict s v t
      if residentTiles s1 c < quotaOf s1 c then openTile s1 c line skip prefetch else s1
    | none => s

/-- Whether a line can be accessed now (R93): it is in the fast tier, or its tile is zero-valued. -/
def lineReady (s : State) (line : Nat) : Bool :=
  match extentAt s line with
  | some (_, e) =>
    e.isFast || (match tileAt s (tileOf line) with
      | some t => !bit t.missing (line % 512)
      | none => s.tier.zero.contains (tileOf line))
  | none => true

/-- A demand access to a line: an absent `POOL` tile takes a slot, a zero-valued one at its first write; a line whose read
failed, or that a prefetch has not asked for, is read (R93, R98); a write to an expanded tile first releases it (R131).
`unread` marks a poisoning, which never reads its line from the tray (R101); the tray copy of a line that a write has
stored is discarded when it arrives (R93). -/
def demand (s : State) (line : Nat) (isWrite unread : Bool) : State :=
  match extentAt s line with
  | none => s
  | some (_, e) =>
    if e.isFast then s
    else
      let tile := tileOf line
      match tileAt s tile with
      | some t =>
        if isWrite && t.expanded && decide (t.state = .resident) then
          takeSlot (dropSlot s tile) e.comp line (if unread then some line else none) 0
        else
          let s1 := updTile s tile (fun t => { t with access := s.now })
          if s.tier.reissue.contains line then
            (let s2 := s1.onTier (fun x => { x with reissue := x.reissue.filter (fun l => decide (l ≠ line)) })
             if unread then s2 else fillLine s2 line)
          else s1
      | none =>
        if needsSlot s line isWrite then takeSlot s e.comp line (if unread then some line else none) 0 else s

/-- A line of the fast tier changes: open a zero tile, arrive the line, and set its dirty bit (R101). -/
def dirtyLine (s : State) (line : Nat) : State :=
  match extentAt s line with
  | none => s
  | some (_, e) =>
    let tile := tileOf line
    let s1 := if s.tier.zero.contains tile && (tileAt s tile).isNone then openZero s e.comp tile e.isFast else s
    let k := line % 512
    match tileAt s1 tile with
    | some t =>
      putTile s1 tile { t with
        missing := setBits t.missing k 1 0
        dirty := setBits t.dirty k 1 1
        rewritten := if bit t.writing k then setBits t.rewritten k 1 1 else t.rewritten
        dirtiedAt := if t.dirty = 0 then s.now else t.dirtiedAt
        access := s.now }
    | none =>
      if e.isFast then
        putTile s1 tile { state := .fast, comp := e.comp, quadrant := quadrantOf s e.comp tile, dirty := 2 ^ k,
                          access := s.now, dirtiedAt := s.now }
      else s1

/-- Whether storing a line would exceed a dirty limit (R103): a clean `POOL` line of a composition at the limit. -/
def dirtyHeld (s : State) (line limit : Nat) : Bool :=
  match extentAt s line with
  | some (_, e) => !e.isFast && !isDirty s line && decide (limit ≤ dirtyLines s e.comp)
  | none => false

/-- Store a whole line: data, poison mark cleared, dirty bit set. -/
def writeLine (s : State) (line : Nat) (d : LineBits) : State :=
  clearPoison (storeLine (dirtyLine s line) line d) line

/-- Poison a line: dirty bit set, data kept under the mark, reads carry `detail` (R28, R101). -/
def poisonLine (s : State) (line detail : Nat) : State := setPoison (dirtyLine s line) line detail

/-- Whether a line's tile holds a slot: every tile of a `FAST` extent does (R91). -/
def slotHeld (s : State) (line : Nat) : Bool :=
  (tileAt s (tileOf line)).isSome || (match extentAt s line with | some (_, e) => e.isFast | none => true)

/-- Poison a line whose tile may hold no slot (R101): it takes a slot as a full write does, at once or, where the quota is
full, as soon as it gets one; until then the mark stands alone. -/
def poisonAnywhere (s : State) (line detail : Nat) : State :=
  let s1 := demand s line true true
  if slotHeld s1 line then poisonLine s1 line detail
  else (setPoison s1 line detail).onTier (fun t => { t with owed := if t.owed.contains line then t.owed else t.owed ++ [line] })

/-- A line that was poisoned without a slot takes one (R101), as soon as its composition's quota gives one. -/
def owedSlots (s : State) : State :=
  s.tier.owed.foldl (fun s l => if slotHeld s l then s else demand s l true true) s

/-! ## Marking tiles zero-valued (R21, R93, R106) -/

/-- Mark one tile zero-valued: cancel reads, drop the slot, clear poison and dirty state, set the zero map bit. A layer
whose last tile it was is now resident (R109). -/
def markZero (s : State) (tile : Nat) : State :=
  let s1 := (s.onTier (fun x => { x with
    tiles := x.tiles.del tile
    poison := x.poison.filter (fun p => decide (p.1 / 512 ≠ tile))
    owed := x.owed.filter (fun l => decide (l / 512 ≠ tile))
    reqs := x.reqs.filter (fun r => decide (r.line / 512 ≠ tile))
    reissue := x.reissue.filter (fun l => decide (l / 512 ≠ tile))
    zero := if x.zero.contains tile then x.zero else tile :: x.zero
    marked := if x.marked.contains tile then x.marked else tile :: x.marked }))
  layerEvents (mirrorOnly s1 [recTile s1 tile]) (lineComp s1 (tile * 512))

/-- `MARKED_TILE_OVERWRITE`: the physical copy of one marked tile is overwritten, under the scrub budget (R21, R106). -/
def markedTileOverwrite (s : State) : State :=
  match s.tier.marked with
  | tile :: rest =>
    let q := quadrantOf s (lineComp s (tile * 512)) tile
    if hasBudget s 0 q 2 512 then
      let s1 := charge s 0 q 2 512
      (if (tileAt s1 tile).isNone then clearTile s1 tile else s1).onTier (fun x => { x with marked := rest })
    else s
  | [] => s

end Sys2Proof.Machine
end

