-- ==== Sys2Proof/Machine/Ledger.lean ====
section
/-! DEFINITION. The atomic operations (R51), the atomic ledger (R52-R56), and publishing by a `CAS` (R115). -/

namespace Sys2Proof.Machine

/-! ## IEEE 754 binary32 addition, exact then rounded (R51, R148) -/

/-- Decode a binary32: sign, and magnitude as m × 2^(e - 149) for finite values. -/
def f32Parts (x : Nat) : Bool × Nat × Nat :=
  let e := bits x 23 8
  let f := bits x 0 23
  (bit x 31, if e = 0 then f else f + 2 ^ 23, if e = 0 then 0 else e - 1)

/-- Whether a binary32 is a NaN, an infinity, a zero. -/
def f32IsNan (x : Nat) : Bool := decide (bits x 23 8 = 255) && decide (bits x 0 23 ≠ 0)
def f32IsInf (x : Nat) : Bool := decide (bits x 23 8 = 255) && decide (bits x 0 23 = 0)
def f32IsZero (x : Nat) : Bool := decide (bits x 0 31 = 0)
/-- The NaN that arithmetic produces (R51). -/
abbrev f32Nan : Nat := 0x7FC00000

/-- Round the magnitude n / 2^k × 2^-149 to a binary32 magnitude, nearest, ties to even; subnormals kept; an overflow
gives infinity. -/
def f32Round (n k : Nat) : Nat :=
  let len := n.log2 + 1
  -- bits dropped: at least k (the unit is 2^-149) and enough to leave 24 bits
  let drop := max k (len - 24)
  let q := n >>> drop
  let r := n % 2 ^ drop
  let half := 2 ^ drop / 2
  let q1 := if drop = 0 then q else if r > half ∨ (r = half ∧ q % 2 = 1) then q + 1 else q
  -- value is q1 × 2^(drop - k) units
  let sh := drop - k
  let v := if q1 < 2 ^ 23 ∧ sh = 0 then q1
    else
      let (q2, s2) := if q1 = 2 ^ 24 then (2 ^ 23, sh + 1) else (q1, sh)
      (s2 + 1) * 2 ^ 23 + (q2 - 2 ^ 23)
  if n = 0 then 0 else if v ≥ 255 * 2 ^ 23 then 255 * 2 ^ 23 else v

/-- A signed exact value i / 2^k × 2^-149 as a binary32; `negZero` gives the sign of a zero result. -/
def f32OfInt (i : Int) (k : Nat) (negZero : Bool) : Nat :=
  let m := f32Round i.natAbs k
  (if i < 0 ∨ (i = 0 ∧ negZero) then 2 ^ 31 else 0) + m

/-- The exact value of a finite binary32, in units of 2^-149. -/
def f32ToInt (x : Nat) : Int :=
  let (sg, m, e) := f32Parts x
  let v : Int := (m * 2 ^ e : Nat)
  if sg then -v else v

/-- Binary32 addition, round to nearest even, subnormals kept; every NaN result is 0x7FC0_0000 (R51, R148). -/
def f32Add (a b : Nat) : Nat :=
  if f32IsNan a || f32IsNan b then f32Nan
  else if f32IsInf a then (if f32IsInf b && decide (bit a 31 ≠ bit b 31) then f32Nan else a)
  else if f32IsInf b then b
  else f32OfInt (f32ToInt a + f32ToInt b) 0 (bit a 31 && bit b 31)

/-- One lane of `FADD_F32` (R51): an operand of -0.0 leaves the lane unchanged. -/
def faddLane (a op : Nat) : Nat := if op = 2 ^ 31 then a else f32Add a op

/-! ## Atomic operations (R51) -/

/-- The word after an atomic, and whether a `CAS` stored. -/
def atomicApply (aop word operand compare : Nat) : Nat × Bool :=
  match aop with
  | 0 => ((word + operand) % 2 ^ 64, false)
  | 1 => (faddLane (bits word 0 32) (bits operand 0 32) + 2 ^ 32 * faddLane (bits word 32 32) (bits operand 32 32), false)
  | 2 => (if sint word 64 ≤ sint operand 64 then word else operand, false)
  | 3 => (if sint word 64 ≥ sint operand 64 then word else operand, false)
  | 4 => (min word operand, false)
  | 5 => (max word operand, false)
  | 6 => (word &&& operand, false)
  | 7 => (word ||| operand, false)
  | 8 => (operand, false)
  | _ => if word = compare then (operand, true) else (word, false)

/-! ## The ledger -/

/-- The requester number under which the ledger keeps an atomic: the host, or 1,024 + the agent for a compute core. -/
def ledgerHost (m : Msg) : Nat := if peerIsAgent m.peer then 1024 + bits m.peer 0 12 else peerHost m.peer

/-- A ledger entry. -/
def ledgerFind (s : State) (host id : Nat) : Option LEntry := s.home.ledger.get? (ledgerKey host id)

/-- A host's ledger entries: ID and entry. -/
def hostEntries (s : State) (host : Nat) : List (Nat × LEntry) :=
  (s.home.ledger.filter (fun p => decide (p.1 / 2 ^ 32 = host))).map (fun p => (p.1 % 2 ^ 32, p.2))

/-- Store a ledger entry. -/
def putLedger (s : State) (host id : Nat) (e : LEntry) : State :=
  s.onHome (fun h => { h with ledger := h.ledger.put (ledgerKey host id) e })

/-- Remove a ledger entry without touching the floor. -/
def delLedger (s : State) (host id : Nat) : State :=
  s.onHome (fun h => { h with ledger := h.ledger.del (ledgerKey host id) })

/-- The floor moves to an ID that is ahead of it, or is set for the first time (R53). -/
def raiseFloor (s : State) (host id : Nat) : State :=
  let ahead := match s.home.floors.get? host with
    | none => true
    | some f => decide (f ≠ id) && reached id f
  if ahead then s.onHome (fun h => { h with floors := h.floors.put host id }) else s

/-- An entry ends (R52, R53). -/
def endEntry (s : State) (host id : Nat) : State := raiseFloor (delLedger s host id) host id

/-- The entry of a host that a new one evicts: DONE or TOMBSTONE, oldest `recorded_at`, then oldest ID (R52). -/
def ledgerVictim (s : State) (host : Nat) : Option (Nat × LEntry) :=
  ((hostEntries s host).filter (fun p => decide (p.2.state ≠ 0))).foldl
    (fun best p => match best with
      | none => some p
      | some b =>
        if p.2.stamp / 1000 < b.2.stamp / 1000 then some p
        else if p.2.stamp / 1000 = b.2.stamp / 1000 ∧ p.1 ≠ b.1 ∧ reached b.1 p.1 then some p else best) none

/-- Make room for a new entry of a host: none when 256 entries are PENDING (R52). -/
def ledgerRoom (s : State) (host : Nat) : Option (State × List MRec) :=
  if (hostEntries s host).length < 256 then some (s, [])
  else
    match ledgerVictim s host with
    | some (id, _) =>
      let s1 := endEntry s host id
      some (s1, [recLedger s1 host id, recFloor s1 host])
    | none => none

/-- What the ledger says of an atomic before it is applied (R54): an answer, or that it is now PENDING. -/
inductive Ledgered where
  | answer (st detail result : Nat) (cas : Bool)
  | pending
  deriving DecidableEq, Repr

/-- A blank entry for an atomic. -/
def ledgerEntry (s : State) (m : Msg) (state : Nat) : LEntry :=
  { state := state, comp := m.composition, line := m.line, word := m.word, aop := m.aop, status := 0, cas := false,
    result := 0, stamp := s.now }

/-- The ledger part of `atomic_at_home` (R54), before the operation: the outcome, the state, and what changed. -/
def ledgerCheck (s : State) (m : Msg) : Ledgered × State × List MRec :=
  let h := ledgerHost m
  let id := m.ledgerId
  match ledgerFind s h id with
  | some e =>
    if (e.line, e.word, e.aop) ≠ (m.line, m.word, m.aop) then (.answer stDenied dLedgerMismatch 0 false, s, [])
    else if e.state = 0 then (.answer stRetry dLedgerPending 0 false, s, [])
    else if e.state = 2 then (.answer stAtomicUnknown dTombstone 0 false, addErr s 0x248003 0 1, [])
    else (.answer e.status 0 e.result e.cas, s, [])
  | none =>
    let behind := match s.home.floors.get? h with | some f => reached f id | none => false
    if behind then (.answer stAtomicUnknown dBehindFloor 0 false, addErr s 0x248003 0 1, [])
    else if m.retry then
      match ledgerRoom s h with
      | some (s1, rs) =>
        let s2 := putLedger s1 h id (ledgerEntry s m 2)
        (.answer stAtomicUnknown dNotInLedger 0 false, addErr s2 0x248003 0 1, rs ++ [recLedger s2 h id])
      | none =>
        let s1 := s.onHome (fun x => { x with floors := x.floors.put h id })
        (.answer stAtomicUnknown dNotInLedger 0 false, addErr s1 0x248003 0 1, [recFloor s1 h])
    else
      match ledgerRoom s h with
      | some (s1, rs) => (.pending, putLedger s1 h id (ledgerEntry s m 0), rs)
      | none =>
        (.answer stRetry dLedgerFull 0 false,
          postOnce (addErr s 0x248004 0 1) 0x0450 h (some m.composition) (pay [(2, h)]), [])

/-- The PENDING entry of an applied atomic becomes DONE with its status and result; no detail is recorded (R51 table,
R54). One that has been discarded meanwhile does not come back (R56). -/
def ledgerDone (s : State) (m : Msg) (st result : Nat) (cas : Bool) : State :=
  match ledgerFind s (ledgerHost m) m.ledgerId with
  | some e =>
    if e.state = 0 then
      putLedger s (ledgerHost m) m.ledgerId { ledgerEntry s m 1 with status := st, result := result, cas := cas }
    else s
  | none => s

/-- `LEDGER_ENTRY_EXPIRY`: a DONE or TOMBSTONE entry ends 2,000 µs after `recorded_at` (R52, R53). -/
def ledgerExpiry (s : State) (host id : Nat) : State :=
  match ledgerFind s host id with
  | some e =>
    if e.state = 0 then s
    else
      let s1 := endEntry (reachTime s (e.stamp + 1000 * cfg s 0x248001)) host id
      mirrorOnly s1 [recLedger s1 host id, recFloor s1 host]
  | none => s

/-- Discard ledger entries that satisfy p, floors kept (R56). -/
def dropEntries (s : State) (p : Nat → LEntry → Bool) : State :=
  let gone := s.home.ledger.filter (fun x => p (x.1 / 2 ^ 32) x.2)
  let s1 := s.onHome (fun h => { h with ledger := h.ledger.filter (fun x => !p (x.1 / 2 ^ 32) x.2) })
  mirrorOnly s1 (gone.map (fun x => recLedger s1 (x.1 / 2 ^ 32) (x.1 % 2 ^ 32)))

/-! ## Publishing (R115-R117) -/

/-- The requester's lowest slot whose staging extent is not current. Slots name hosts: a compute core has none. -/
def publisherSlot (v peer : Nat) : Option Nat :=
  if peerIsAgent peer then none
  else
    (List.range 8).findSome? (fun i =>
      let x := regSlot v i
      if slotValid x && decide (slotHost x = peerHost peer) && decide (slotExtent x ≠ regCurrent v) then some (slotExtent x)
      else none)

/-- A publish (R115): status, detail, result, stored, and the state after it. -/
def publish (s : State) (r v : Nat) (m : Msg) : (Nat × Nat × Nat × Bool) × State :=
  let ver := regVersion v
  let host := peerHost m.peer
  let conflict := fun (d : Nat) =>
    let s1 := addErr (post s 0x0541 (some (regComp v)) (pay [(2, r), (8, ver), (2, host), (1, d)])) 0x256006 0 1
    ((stConflict, d, ver, false), s1)
  match publisherSlot v m.peer with
  | none => ((stDenied, dNotPublisher, ver, false), s)
  | some ext =>
    if ver = m.operand then ((stOk, dSameVersion, ver, false), s)
    else if ver = 2 ^ 64 - 1 then conflict dVersionExhausted
    else if ver ≠ m.compareVal then conflict dVersionStale
    else if m.operand < ver then conflict dVersionNotGreater
    else
      let old := regCurrent v
      let s1 := setObj s 0x256002 r (setBits (setBits v 144 64 m.operand) 72 16 ext)
      let s2 := s1.onTier (fun t => { t with
        publisher := t.publisher.put r host
        locked := t.locked ++ [(r, old, s.home.admits)] })
      ((stOk, 0, ver, true),
        post (addStat s2 0x256005 0 1) 0x0540 (some (regComp v)) (pay [(2, r), (8, m.operand), (2, host)]))

end Sys2Proof.Machine
end

