-- ==== Sys2Proof/Machine/Float.lean ====
section
/-! DEFINITION. Element formats as exact values, conversions, rounding and dice, and binary32 arithmetic of the vector
unit (R145-R152). -/

namespace Sys2Proof.Machine

/-- An exact value: NaN, an infinity with its sign, or an integer count of 2^-149 with the sign of a zero. -/
inductive FVal where
  | nan
  | inf (neg : Bool)
  | fin (i : Int) (neg : Bool)
  deriving DecidableEq, Repr

/-- The exact value of a binary32. -/
def f32Val (x : Nat) : FVal :=
  if f32IsNan x then .nan else if f32IsInf x then .inf (bit x 31) else .fin (f32ToInt x) (bit x 31)

/-- An exact value i / 2^k × 2^-149 as a binary32, rounded to nearest even. -/
def valF32 (v : FVal) (k : Nat) : Nat :=
  match v with
  | .nan => f32Nan
  | .inf n => (if n then 2 ^ 31 else 0) + 255 * 2 ^ 23
  | .fin i n => f32OfInt i k n

/-! ## Formats (R148) -/

/-- Exponent bits, mantissa bits, and the unit of subnormals as a power above 2^-149, of a floating format. -/
def floatShape (f : Nat) : Nat × Nat × Nat :=
  match f with
  | 1 => (8, 7, 16) | 2 => (5, 10, 125) | 3 => (4, 3, 140) | 4 => (5, 2, 133) | 5 => (4, 3, 140) | 6 => (5, 2, 133)
  | 7 => (3, 2, 145) | 8 => (2, 3, 146) | 9 => (2, 1, 148) | _ => (8, 23, 0)

/-- Whether a format keeps infinities and NaNs in its largest exponent. So does an MXFP8 E5M2 element (DESIGN CHOICE, log entry
116: the format table gives MX elements no infinity and NaN through the scale, and no value to exponent 31). -/
def ieeeTop (f : Nat) : Bool := f == 0 || f == 1 || f == 2 || f == 4 || f == 6

/-- The exact value of an element; `scale` is its block's E8M0 scale for an MX format. -/
def elemVal (f x scale : Nat) : FVal :=
  let up := if formatMx f then scale else 127
  if formatMx f && decide (scale = 255) then .nan
  else if f = 11 then .fin (sint x 8 * 2 ^ 149) (bit x 7)
  else if f = 12 then .fin (sint x 32 * 2 ^ 149) (bit x 31)
  else if f = 10 then .fin (sint x 8 * 2 ^ (143 + up) / 2 ^ 127) (bit x 7)
  else
    let (eb, mb, sh) := floatShape f
    let e := bits x mb eb
    let m := bits x 0 mb
    let neg := bit x (mb + eb)
    if ieeeTop f && decide (e = 2 ^ eb - 1) then (if m = 0 then .inf neg else .nan)
    else if (f = 3 ∨ f = 5) ∧ e = 15 ∧ m = 7 then .nan
    else
      let n : Nat := (if e = 0 then m else (2 ^ mb + m) * 2 ^ (e - 1)) * 2 ^ (sh + up) / 2 ^ 127
      .fin (if neg then -(n : Int) else n) neg

/-- An element as a binary32 (R148). A value that binary32 cannot hold is a free value. -/
def elemF32 (f x scale : Nat) : Nat :=
  if f = 0 then (if f32IsNan x then f32Nan else x)
  else
    let v := elemVal f x scale
    let y := valF32 v 0
    if f32Val y = v ∨ v = .nan then y
    else if f = 12 then Config.int32ToF32 x else Config.mxToF32 x f scale

/-! ## Rounding (R149, R151) -/

/-- A lane's first state (R151). -/
def seedLane (seed g l : Nat) : Nat :=
  let s := (seed % 2 ^ 32) ^^^ (0x9E3779B9 * (64 * g + l + 1) % 2 ^ 32)
  if s = 0 then 1 else s

/-- One draw of a lane (R151). -/
def diceNext (s : Nat) : Nat :=
  let a := s ^^^ (s * 2 ^ 13 % 2 ^ 32)
  let b := a ^^^ (a / 2 ^ 17)
  b ^^^ (b * 2 ^ 5 % 2 ^ 32)

/-- Round away the low `drop` bits of n × 2^e: to nearest even, or stochastically with a draw (R151). Of the dropped bits,
those below n's own last place are not part of the value. -/
def roundBits (n e drop : Nat) (draw : Option Nat) : Nat :=
  if drop ≤ e then n * 2 ^ (e - drop)
  else
    let d := drop - e
    let q := n / 2 ^ d
    let r := n % 2 ^ d
    match draw with
    | some x =>
      let m := min d 32
      if r / 2 ^ (d - m) + x % 2 ^ m ≥ 2 ^ m then q + 1 else q
    | none =>
      let half := 2 ^ (d - 1)
      if r > half ∨ (r = half ∧ q % 2 = 1) then q + 1 else q

/-- Magnitude code of n × 2^e / 2^k units of 2^-149 in a floating format with mb mantissa bits and subnormal unit 2^sh. -/
def roundMini (n e k mb sh : Nat) (draw : Option Nat) : Nat :=
  let drop := max (k + sh) (n.log2 + e - mb)
  (drop - k - sh) * 2 ^ mb + roundBits n e drop draw

/-- The largest finite magnitude code of a floating format. -/
def largestCode (f : Nat) : Nat :=
  match f with
  | 1 => 0x7F7F | 2 => 0x7BFF | 3 => 0x7E | 4 => 0x7B | 5 => 0x7E | 6 => 0x7B | 7 => 0x1F | 8 => 0x1F | 9 => 7
  | _ => 0x7F7FFFFF

/-- The NaN code of a format that has one. -/
def nanCode (f : Nat) : Nat :=
  match f with | 1 => 0x7FC0 | 2 => 0x7E00 | 3 => 0x7F | 4 => 0x7E | _ => f32Nan

/-- Clamp an integer into [lo, hi]. -/
def clampInt (i lo hi : Int) : Int := if i < lo then lo else if hi < i then hi else i

/-- A signed magnitude rounded to an integer of `unit` × 2^-149, clamped. -/
def toInteger (x k unit : Nat) (lo hi : Int) (draw : Option Nat) : Int :=
  let (neg, m, e) := f32Parts x
  let q : Int := roundBits m e (k + unit) draw
  clampInt (if neg then -q else q) lo hi

/-- A binary32 converted to a format (R149), divided by 2^(k - 127) first for an MX element with scale k. -/
def convElem (f x scale : Nat) (sat : Bool) (draw : Option Nat) : Nat :=
  let neg := bit x 31
  if f = 0 then (if f32IsNan x then f32Nan else x)
  else if f = 11 ∨ f = 12 ∨ f = 10 then
    let lo : Int := if f = 11 then -128 else if f = 10 then -127 else -(2 ^ 31 : Int)
    let hi : Int := if f = 11 ∨ f = 10 then 127 else 2 ^ 31 - 1
    let w := if f = 12 then 32 else 8
    if f32IsNan x then 0
    else if f32IsInf x then ofInt (if neg then lo else hi) w
    else if f = 10 then
      let (sg, m, e) := f32Parts x
      let q : Int := roundBits m (e + 127) (scale + 143) draw
      ofInt (clampInt (if sg then -q else q) lo hi) 8
    else ofInt (toInteger x 0 149 lo hi draw) w
  else
    let (eb, mb, sh) := floatShape f
    let top := if neg then 2 ^ (eb + mb) else 0
    let past := if sat || !(ieeeTop f && !formatMx f) then largestCode f else largestCode f + 1
    if f32IsNan x then nanCode f
    else if f32IsInf x then top + past
    else
      let (_, m, e) := f32Parts x
      if m = 0 then top
      else
        let code := if formatMx f then roundMini m (e + 127) scale mb sh draw else roundMini m e 0 mb sh draw
        top + (if largestCode f < code then past else code)

/-- emax of an MX format (R150). -/
def mxEmax (f : Nat) : Int := match f with | 5 => 8 | 6 => 15 | 7 => 4 | 8 => 2 | 9 => 2 | _ => 0

/-- The scale of an MX output block (R149, R150). -/
def mxScale (f : Nat) (xs : List Nat) : Nat :=
  if xs.any f32IsNan then 255
  else
    let amax := (xs.map (fun x => bits x 0 31)).foldl max 0
    if amax = 0 then 0
    else
      let (_, m, e) := f32Parts amax
      let lg : Int := if f32IsInf amax then 128 else ((m.log2 + e : Nat) : Int) - 149
      (clampInt (lg - mxEmax f) (-127) 127 + 127).toNat

/-! ## Vector arithmetic (R152) -/

/-- Multiplication. -/
def f32Mul (a b : Nat) : Nat :=
  let neg := bit a 31 != bit b 31
  if f32IsNan a || f32IsNan b then f32Nan
  else if f32IsInf a || f32IsInf b then
    (if f32IsZero a || f32IsZero b then f32Nan else valF32 (.inf neg) 0)
  else f32OfInt (f32ToInt a * f32ToInt b) 149 neg

/-- Fused multiply-add a × b + c. -/
def f32Fma (a b c : Nat) : Nat :=
  let neg := bit a 31 != bit b 31
  if f32IsNan a || f32IsNan b || f32IsNan c then f32Nan
  else if f32IsInf a || f32IsInf b then
    (if f32IsZero a || f32IsZero b then f32Nan
     else if f32IsInf c && decide (bit c 31 ≠ neg) then f32Nan else valF32 (.inf neg) 0)
  else if f32IsInf c then c
  else f32OfInt (f32ToInt a * f32ToInt b + f32ToInt c * 2 ^ 149) 149
    (bit c 31 && neg)

/-- Subtraction. -/
def f32Sub (a b : Nat) : Nat := if f32IsNan b then f32Nan else f32Add a (b ^^^ 2 ^ 31)

/-- A total order of the numbers, -0.0 below +0.0. -/
def f32Order (x : Nat) : Int := if bit x 31 then -((bits x 0 31 : Nat) : Int) - 1 else (bits x 0 31 : Nat)

/-- Minimum and maximum: -0.0 below +0.0, the other operand of a NaN (R152). -/
def f32Min (a b : Nat) : Nat :=
  if f32IsNan a then (if f32IsNan b then f32Nan else b) else if f32IsNan b then a
  else if f32Order b < f32Order a then b else a
def f32Max (a b : Nat) : Nat :=
  if f32IsNan a then (if f32IsNan b then f32Nan else b) else if f32IsNan b then a
  else if f32Order a < f32Order b then b else a

/-- The number that an ordering compares: the two zeros are equal. -/
def f32Key (x : Nat) : Int := if bit x 31 then -((bits x 0 31 : Nat) : Int) else (bits x 0 31 : Nat)

/-- A compare: 0 LT, 1 LE, 2 EQ, 3 NE, 4 GE, 5 GT; a NaN is unordered. -/
def f32Cmp (op a b : Nat) : Bool :=
  if f32IsNan a || f32IsNan b then op == 3
  else
    let x := f32Key a
    let y := f32Key b
    match op with
    | 0 => decide (x < y) | 1 => decide (x ≤ y) | 2 => decide (x = y) | 3 => decide (x ≠ y)
    | 4 => decide (y ≤ x) | _ => decide (y < x)

/-- Absolute value. -/
def f32Abs (a : Nat) : Nat := if f32IsNan a then f32Nan else bits a 0 31

/-! ## Array arithmetic (R145, R146) -/

/-- A product of two exact values, in units of 2^-298. -/
def valMul (a b : FVal) : FVal :=
  match a, b with
  | .fin i m, .fin j n => .fin (i * j) (m != n)
  | .inf m, .inf n => .inf (m != n)
  | .inf m, .fin j n => if j = 0 then .nan else .inf (m != n)
  | .fin i m, .inf n => if i = 0 then .nan else .inf (m != n)
  | _, _ => .nan

/-- An exact sum. -/
def valAdd (a b : FVal) : FVal :=
  match a, b with
  | .fin i _, .fin j _ => .fin (i + j) false
  | .inf m, .inf n => if m = n then .inf m else .nan
  | .inf m, .fin _ _ => .inf m
  | .fin _ _, .inf n => .inf n
  | _, _ => .nan

/-- One chunk of 64 products summed exactly, then added to an accumulator with one rounding (R146). -/
def chunkAdd (acc : Nat) (ps : List FVal) : Nat :=
  let sum := ps.foldl valAdd (.fin 0 false)
  match f32Val acc with
  | .fin i _ => valF32 (valAdd (.fin (i * 2 ^ 149) false) sum) 149
  | x => valF32 (valAdd x sum) 149

/-! ## `EXP2` (R152) -/

/-- The square root of n rounded down, by bits from bit k of the root down. -/
def rootBits (n : Nat) : Nat → Nat → Nat
  | 0, r => r
  | k + 1, r => rootBits n k (if (r + 2 ^ k) * (r + 2 ^ k) ≤ n then r + 2 ^ k else r)

/-- 2^f for a fraction f of n bits, to 200 fractional bits: each bit from the top multiplies by the next root of two. -/
def fracPow : Nat → Nat → Nat → Nat → Nat
  | 0, _, _, acc => acc
  | n + 1, f, root, acc =>
    let r := rootBits (root * 2 ^ 200) 202 0
    fracPow n f r (if bit f n then acc * r / 2 ^ 200 else acc)

/-- The largest binary32 at or below 2^a, for a finite a. -/
def exp2Floor (a : Nat) : Nat :=
  let x := f32ToInt a
  let i := x / 2 ^ 149
  let m := fracPow 149 (x % 2 ^ 149).toNat (2 * 2 ^ 200) (2 ^ 200)
  if 128 ≤ i then 0x7F7FFFFF
  else if -126 ≤ i then (i + 126).toNat * 2 ^ 23 + m / 2 ^ 177
  else if -149 ≤ i then m / 2 ^ (51 - i).toNat
  else 0

/-- 2^a with an error of at most 2 ulp: which of the values within that bound it is, the device fixes. -/
@[irreducible] def f32Exp2 (a : Nat) : Nat :=
  if f32IsNan a then f32Nan
  else if f32IsInf a then (if bit a 31 then 0 else 0x7F800000)
  else if 128 ≤ f32ToInt a / 2 ^ 149 then 0x7F800000
  else min 0x7F800000 (exp2Floor a + (Config.exp2Place (BitVec.ofNat 32 a)).val - 1)

end Sys2Proof.Machine
end

