-- ==== Sys2Proof/Machine/Reduce.lean ====
section
/-! DEFINITION. Reduce slots: contributions, results and rounds (R155-R162). -/

namespace Sys2Proof.Machine

/-! ## Descriptor (objects 2710.02, 2710.04, 2710.07) -/

def slotDesc (s : State) (i : Nat) : Nat := getObj s 0x271002 i
def rsAperture (v : Nat) : Nat := bits v 0 31
def rsLines (v : Nat) : Nat := bits v 32 12 + 1
def rsComp (v : Nat) : Nat := bits v 48 7
def rsMembers (v : Nat) : Nat := bits v 56 8 + 1
def rsOp (v : Nat) : Nat := bits v 64 3
def rsFormat (v : Nat) : Nat := bits v 67 5
def rsOutF32 (v : Nat) : Bool := bit v 72
def rsStochastic (v : Nat) : Bool := bit v 73
def rsSaturate (v : Nat) : Bool := bit v 74
def rsStash (v : Nat) : Bool := bit v 75
def rsVector (v : Nat) : Nat := bits v 76 4
def rsNotify (v : Nat) : Bool := bit v 80
def rsCores (v : Nat) : Nat := bits v 88 24
def rsResult (v : Nat) : Nat := bits v 128 31
def rsSeed (v : Nat) : Nat := bits v 160 32
def rsRound (v : Nat) : Nat := bits v 192 32
def rsCounter (v : Nat) : Nat := bits v 224 5
def rsSignalCore (v : Nat) : Nat := bits v 229 5
def rsSignal (v : Nat) : Bool := bit v 234

/-- State of a slot (object 2710.07): 0 FREE, 1 ARMED, 2 BROKEN. -/
def slotState (s : State) (i : Nat) : Nat := getObj s 0x271007 i

/-- Member entry k of a slot. -/
def slotMember (s : State) (i k : Nat) : Nat := getObj s 0x271004 (i + k * 2 ^ 8)

/-- The members of a slot. -/
def slotMembers (s : State) (i : Nat) : List Nat := (List.range (rsMembers (slotDesc s i))).map (slotMember s i)

/-- Result lines per aperture line (R155). -/
def rsExpand (v : Nat) : Nat :=
  if rsOutF32 v && decide (rsFormat v ≠ 0) then (if rsFormat v ≤ 2 then 2 else 4) else 1

/-- The slots that are not `FREE`. -/
def usedSlots (s : State) : List Nat := (listed s 0x271007).map Prod.fst

/-- The slot, not `FREE`, whose aperture holds a line, and the aperture line (R157). -/
def apertureAt (s : State) (line : Nat) : Option (Nat × Nat) :=
  (usedSlots s).findSome? (fun i =>
    let v := slotDesc s i
    let lo := rsAperture v * 512
    if lo ≤ line ∧ line < lo + rsLines v then some (i, line - lo) else none)

def rslot (s : State) (i : Nat) : RSlot := s.compute.slots.getD i {}
def setRslot (s : State) (i : Nat) (r : RSlot) : State :=
  s.onCompute (fun x => { x with slots := x.slots.setD i {} r })
def rline (r : RSlot) (i : Nat) : RLine := r.lines.getD i {}
def setRline (r : RSlot) (i : Nat) (l : RLine) : RSlot := { r with lines := r.lines.setD i {} l }

/-- Store a slot's state, mirrored. -/
def setSlotState (s : State) (i v : Nat) : State :=
  let s1 := setObj s 0x271007 i v
  mirrorOnly s1 [recObject 0x271007 i 1 v (rsComp (slotDesc s1 i))]

/-- Store a slot's descriptor, mirrored. -/
def setSlotDesc (s : State) (i v : Nat) : State :=
  mirrorOnly (setObj s 0x271002 i v) [recObject 0x271002 i 32 v (rsComp v)]

/-! ## Contributions (R157) -/

/-- The engine that accumulates and converts an aperture line: one of the core that R156 gives the line. -/
def lineEngine (s : State) (i k : Nat) : Nat :=
  let cs := setBitList (rsCores (slotDesc s i)) 24
  8 * cs.getD (k % max 1 cs.length) 0 + (Config.reduceEngine i k).val

/-- The elements of a line in a format. -/
def lineElems (f : Nat) (d : LineBits) : List Nat :=
  let w := formatBits f
  (List.range (1024 / max 1 w)).map (fun i => bits d.toNat (w * i) w)

/-- Combine one element (R152, R157): the first contribution is taken as it is (log entry 23). -/
def combine (op a b : Nat) : Nat :=
  match op with | 0 => f32Add a b | 1 => f32Min a b | _ => f32Max a b

/-- The accumulators after a contribution. -/
def accumulate (op f : Nat) (acc : List Nat) (d : LineBits) : List Nat :=
  let xs := (lineElems f d).map (fun x => elemF32 f x 127)
  if acc.isEmpty then xs else (acc.zip xs).map (fun p => combine op p.1 p.2)

/-- A `peer` value without its reserved bits (R30). -/
def peerName (p : Nat) : Nat := if peerIsAgent p then 0x8000 + p % 2 ^ 12 else p % 2 ^ 10

/-! ## Results (R158, R159) -/

/-- Offer a stored result line to a host member; no filter entry is made (R159). -/
def offerResult (line comp : Nat) (s : State) (h : Nat) : State :=
  let tag := s.home.snoopTag
  let m : Msg :=
    { opcode := opStashFill, tc := cfg s 0x241003, poison := isPoisoned s line, ext := 4, peer := h, composition := comp,
      tag := tag, line := line, data := lineSlots (readLine s line) }
  let s1 := addStat ((toHost s h m).onHome (fun x => { x with snoopTag := (tag + 1) % 2 ^ 16 })) 0x243002 0 1
  s1.onCompute (fun x => { x with offers := x.offers ++ [(line, h, tag)] })

/-- The result lines of an aperture line. -/
def resultLines (v i : Nat) : List Nat :=
  (List.range (rsExpand v)).map (fun j => rsResult v * 512 + rsExpand v * i + j)

/-- A stored result line is mirrored: it is offered to the host members that are not lost, and its arrival bits clear
(R158). -/
def resultMirrored (s : State) (i k : Nat) : State :=
  let v := slotDesc s i
  let r := rslot s i
  let r1 := { r with unmirrored := r.unmirrored.filter (fun x => decide (x ≠ k)) }
  let s1 := setRslot s i (if (rline r1 k).shut.isEmpty then r1 else setRline r1 k { rline r1 k with shut := [] })
  if rsStash v ∧ slotState s i ≠ 0 then
    let hs := (slotMembers s1 i).filter (fun p => !peerIsAgent p && !isLost s1 p)
    (resultLines v k).foldl (fun s l => hs.foldl (offerResult l (rsComp v)) s) s1
  else s1

/-- The result of an aperture line as the lines it is stored in, converted on engine g (R149, R151, R158). -/
def resultData (v g : Nat) (acc : List Nat) : List LineBits :=
  let out := if rsOutF32 v then 0 else rsFormat v
  let w := formatBits out
  let seed := rsSeed v ^^^ rsRound v
  let draws := acc.zipIdx.map (fun p =>
    if rsStochastic v then some ((List.range (p.2 / 64 + 1)).foldl (fun st _ => diceNext st) (seedLane seed g (p.2 % 64)))
    else none)
  let xs := (acc.zip draws).map (fun p => (w, convElem out p.1 127 (rsSaturate v) p.2))
  let n := pack xs
  (List.range (rsExpand v)).map (fun j => BitVec.ofNat 1024 (bits n (1024 * j) 1024))

/-- Store the result of an aperture line's round: its lines are written, or poisoned with a detail, and mirrored (R158,
R160). Its accumulators are free for the next round; its arrival bits stand until the mirror has the result. -/
def storeResult (s : State) (i k : Nat) (poison : Option Nat) : State :=
  let v := slotDesc s i
  let r := rslot s i
  let l := rline r k
  let ls := resultLines v k
  let s1 := match poison with
    | some d => ls.foldl (fun s x => poisonLine s x d) s
    | none => (ls.zip (resultData v (lineEngine s i k) l.acc)).foldl (fun s x => writeLine s x.1 x.2) s
  let r1 := setRline r k { stored := true, shut := l.arrived }
  let (s2, b) := mirror s1 (ls.map (recLine s1))
  let s3 := setRslot s2 i { r1 with unmirrored := r.unmirrored ++ [k] }
  if mustWait s3 b then holdItem s3 b (.reduced i k) else resultMirrored s3 i k

/-- Whether every member has contributed to a line's open round. -/
def lineFull (s : State) (i : Nat) (l : RLine) : Bool := decide (rsMembers (slotDesc s i) ≤ l.arrived.length)

/-- A full line of the current round is stored; one of the next round is held (R158). -/
def lineMaybeDone (s : State) (i k : Nat) : State :=
  let l := rline (rslot s i) k
  if lineFull s i l && !l.stored then storeResult s i k (if l.poison then some 0 else none) else s

/-- A contribution of member k of a slot to an aperture line is admitted (R157 step 6); it wakes the line's engine (R167). -/
def contribute (s : State) (i line k : Nat) (m : Msg) : State :=
  let s := useEngines s [lineEngine s i line]
  let v := slotDesc s i
  let r := rslot s i
  let l := rline r line
  let l1 := { l with arrived := l.arrived ++ [k], acc := accumulate (rsOp v) (rsFormat v) l.acc m.lineData,
                     poison := l.poison || m.poison }
  let due := s.now + 1000 * cfg s 0x271008
  let r1 := if l.stored then { r with openedNext := some (r.openedNext.getD due) }
    else { r with opened := some (r.opened.getD due) }
  setRslot s i (setRline r1 line l1)

/-- A request to an aperture line that has passed R20 (R157 steps 2 to 6). -/
def apertureServe (s : State) (x : Nat × Nat) (r : Req) : State :=
  let (i, line) := x
  if !(decide (r.m.opcode = opWrNc) && r.m.fullMask) then refuseReq s r stDenied dNotContribution
  else if slotState s i = 2 then refuseReq s r stRetry dSlotBroken
  else
    match (slotMembers s i).findIdx? (fun p => decide (p = peerName r.m.peer)) with
    | none => refuseReq s r stDenied dNotMember
    | some k =>
      let l := rline (rslot s i) line
      if l.arrived.contains k || l.shut.contains k then refuseReq s r stRetry dReduceAhead
      else lineMaybeDone (refuseReq (contribute s i line k r.m) r stOk 0) i line

/-! ## Rounds (R156, R158, R160) -/

/-- `REDUCE_ROUND_COMPLETE`: every line of the round is stored and mirrored (R156): the round number rises, the vector and
the counter are given, and lines of the next round that are full are stored (R158). -/
def roundComplete (s : State) (i : Nat) : State :=
  let v := slotDesc s i
  let r := rslot s i
  if slotState s i = 1 ∧ (List.range (rsLines v)).all (fun k => (rline r k).stored) ∧ r.unmirrored.isEmpty then
    let v1 := setBits v 192 32 (inc32 (rsRound v))
    let s1 := addStat (setObj s 0x271002 i v1) 0x272002 0 1
    let (s2, b) := mirror s1 [recObject 0x271002 i 32 v1 (rsComp v)]
    let s3 := if rsNotify v then triggerAfter s2 b (rsComp v) (rsVector v) else s2
    let s4 := if rsSignal v then outsideSignal s3 (rsComp v) (rsSignalCore v) (rsCounter v) 1 else s3
    let r1 := rslot s4 i
    let s5 := setRslot s4 i { r1 with
      lines := r1.lines.mapV (fun _ l => { l with stored := false })
      opened := r1.openedNext, openedNext := none }
    (List.range (rsLines v)).foldl (fun s k => lineMaybeDone s i k) s5
  else s

/-- `REDUCE_ROUND_TIMEOUT`: the lines of the round that lack contributions complete poisoned (R160). -/
def roundTimeout (s : State) (i : Nat) : State :=
  let r := rslot s i
  match slotState s i, r.opened with
  | 1, some d =>
    let s1 := reachTime s d
    let v := slotDesc s i
    let open_ := (List.range (rsLines v)).filter (fun k => !(rline r k).stored)
    let gone := (List.range (rsMembers v)).filter (fun k => open_.any (fun l => !(rline r l).arrived.contains k))
    let s2 := addErr s1 0x272003 0 1
    let s3 := post s2 0x0710 none (pay [(1, i), (4, rsRound v), (4, gone.length), (2, slotMember s i (gone.headD 0))])
    let s4 := setRslot s3 i { rslot s3 i with opened := none }
    open_.foldl (fun s k => storeResult s i k (some dRoundTimeout)) s4
  | _, _ => s

/-- An `ARMED` slot breaks (R156). Cause: 0 member lost or left, 1 core reset, 2 twin takeover. -/
def breakSlot (cause : Nat) (s : State) (i : Nat) : State :=
  if slotState s i = 1 then
    let s1 := setSlotState (setRslot s i { unmirrored := (rslot s i).unmirrored }) i 2
    post s1 0x0711 none (pay [(1, i), (4, rsRound (slotDesc s i)), (1, cause)])
  else s

/-- The slots of a composition with a host as member break (R156, R231). -/
def breakForHost (s : State) (c h : Nat) : State :=
  ((usedSlots s).filter (fun i => decide (rsComp (slotDesc s i) = c) && (slotMembers s i).contains h)).foldl (breakSlot 0) s

/-- The slots that use a core break (R238). -/
def breakForCore (s : State) (c : Nat) : State :=
  ((usedSlots s).filter (fun i => bit (rsCores (slotDesc s i)) c)).foldl (breakSlot 1) s

/-- A slot becomes `FREE`: its reservation is released (R156). -/
def freeSlot (s : State) (i : Nat) : State := setRslot (setSlotState s i 0) i {}

/-- A composition reset releases a composition's slots and clears the descriptors that name it, those of `FREE` slots too
(R156, R239). -/
def resetSlots (s : State) (c : Nat) : State :=
  ((((listed s 0x271002).map Prod.fst ++ usedSlots s).dedup).filter (fun i => decide (rsComp (slotDesc s i) = c))).foldl
    (fun s i => setSlotDesc (freeSlot s i) i 0) s

/-- Whether some slot has an open round (R168). -/
def openRound (s : State) (i : Nat) : Bool :=
  (rslot s i).lines.any (fun p => p.2.stored || !p.2.arrived.isEmpty)

/-- An answer to a result offer (R159): a decline is counted. -/
def resultAnswered (s : State) (line host tag result : Nat) : State :=
  if s.compute.offers.contains (line, host, tag) then
    let s1 := s.onCompute (fun x => { x with offers := eraseFirst x.offers (fun o => decide (o = (line, host, tag))) })
    if result = 4 then s1 else addStat s1 0x243003 0 1
  else s

end Sys2Proof.Machine
end

