-- ==== Sys2Proof/Machine/Home.lean ====
section
/-! DEFINITION. The home agent: checks at admission (R20, R87, R246), and the transaction of a line (R57-R75). -/

namespace Sys2Proof.Machine

/-! ## Who asks, and what for -/

/-- The host that a request counts as: the requester, or the host that rang the doorbell of a core's launch (R246). -/
def reqHost (s : State) (r : Req) : Nat := match r.core with | some c => coreHost s c | none => peerHost r.m.peer

/-- Whether a request comes from a compute core. -/
def fromCore (r : Req) : Bool := peerIsAgent r.m.peer

/-- Whether the operation writes the line. -/
def Msg.isWrite (m : Msg) : Bool := m.opcode == opWrNc || m.opcode == opWrStash

/-- R20 step 4: whether the extent is granted to the requester. -/
def granted (s : State) (r : Req) (e : Extent) : Bool :=
  decide (r.m.composition = e.comp) &&
  (fromCore r || (e.shared && isMember s e.comp (peerHost r.m.peer)) || (!e.shared && decide (peerHost r.m.peer = e.owner)))

/-- R20 step 5: whether the rights hold what the operation needs. -/
def hasRight (r : Req) (e : Extent) : Bool :=
  (!fromCore r || e.canCompute) &&
  (if r.m.opcode = opAtomic then e.canAtomic
   else if r.m.isWrite then e.canWrite
   else if r.m.opcode = opRdOwn then e.canRead && (e.canWrite || e.canAtomic)
   else e.canRead)

/-- R20 steps 1 and 2; an atomic retry with a ledger entry passes a DRAINING extent (R24). -/
def checkExtent (s : State) (r : Req) (x : Option (Nat × Extent)) : Option (Nat × Nat) :=
  match x with
  | none => some (stDenied, 0)
  | some (_, e) =>
    if e.state = 2 then
      (if r.m.opcode = opAtomic && r.m.retry && (ledgerFind s (ledgerHost r.m) r.m.ledgerId).isSome then none
       else some (stRevoked, 0))
    else if e.state = 3 ∨ e.state = 4 then some (stRevoked, 0)
    else none

/-- R20 steps 3 to 5. -/
def checkGrant (s : State) (r : Req) (e : Extent) : Option (Nat × Nat) :=
  if e.state = 5 then some (stRetry, 0)
  else if !granted s r e then some (stDenied, 0)
  else if !hasRight r e then some (stDenied, 0)
  else none

/-- R87, R81 and R231 step 1: refusals that come before R20. -/
def checkRequester (s : State) (r : Req) : Option (Nat × Nat) :=
  let k := compOf s r.m.composition
  if k.state = 3 then some (stFatal, dCompositionFatal)
  else if !fromCore r && isLost s (peerHost r.m.peer) then some (stDenied, dHostLost)
  else if !fromCore r && k.departed.contains (peerHost r.m.peer) then some (stDenied, dNotMember)
  else none

/-- Whether the extent is the arena of its composition (R245). -/
def isArena (s : State) (id : Nat) (e : Extent) : Bool :=
  let k := compOf s e.comp
  k.arenaValid && decide (k.arena = id)

/-- The record, not `FREE`, that owns an arena tile (R244). -/
def arenaOwner (s : State) (c tile : Nat) : Option Rec :=
  (s.comps.recs.find? (fun p => decide (p.2.state ≠ 0) && decide (p.2.comp = c) && decide (p.2.firstTile ≤ tile) &&
    decide (tile < p.2.firstTile + p.2.tiles))).map Prod.snd

/-- The guard of R246: whether the record of the tile grants the request. -/
def guardOk (s : State) (r : Req) (c : Nat) : Bool :=
  match arenaOwner s c (tileOf r.m.line) with
  | none => false
  | some k =>
    let h := reqHost s r
    let known := !fromCore r || r.core.isSome
    known && (
      (decide (k.state = 1) && decide (h = k.producer)) ||
      ((decide (k.state = 2) || decide (k.state = 3)) && decide (h = k.producer) && r.m.isRead) ||
      (decide (k.state = 4) && decide (h = k.consumer)))

/-- Checks that follow R20: arena guard (R246), coded tiles (R140), version lines (R115), staged extents (R117). -/
def checkPlace (s : State) (r : Req) (id : Nat) (e : Extent) : Option (Nat × Nat) :=
  let op := r.m.opcode
  if isArena s id e && (op == opRdOwn || op == opAtomic || op == opWrStash || !guardOk s r e.comp) then
    some (stDenied, dHandoffGuard)
  else if !fromCore r && (tileDescOf s e.comp e.tileDesc).codec ≠ 0 && (op == opRdOwn || op == opAtomic || op == opWrStash) then
    some (stDenied, dCodedTile)
  else if (versionAt s r.m.line).isSome && !(op == opRdNc || (op == opAtomic && r.m.aop == 9 && r.m.word == 0)) then
    some (stDenied, dVersionLine)
  else if (r.m.isWrite || op == opAtomic) && (regions s).any (fun p => decide (regCurrent p.2 = id)) then
    some (stDenied, dStageLocked)
  else none

/-- Whether `RD_SHARED` is served as `RD_NC` here: arena (R246), coded tile (R140), no right to change the line (R58). -/
def servedNc (s : State) (r : Req) (id : Nat) (e : Extent) : Bool :=
  isArena s id e || decide ((TileDesc.ofNat r.desc).codec ≠ 0) || !(e.canWrite || e.canAtomic)

/-- The operation that a request performs on its line. -/
def effOp (s : State) (r : Req) : Nat :=
  if r.m.opcode = opRdShared then
    (match extentAt s r.m.line with
     | some (id, e) => if servedNc s r id e then opRdNc else opRdShared
     | none => opRdNc)
  else r.m.opcode

/-! ## Snoop filter (R57-R61) -/

/-- Set of a line (R57). -/
def filterSet (line : Nat) : Nat := (line % 2 ^ 20) ^^^ (line / 2 ^ 20 % 2 ^ 20)

/-- Whether some work needs a filter way that its line does not have (R58, R61). -/
def needsWay (s : State) (line : Nat) (w : Work) : Bool :=
  match w with
  | .ops (r :: _) =>
    let op := effOp s r
    (op == opRdShared || op == opRdOwn) && (s.home.filter.get? line).isNone
  | _ => false

/-- Whether a transaction runs that will allocate a way for its line: the way is its own from its start on (R61). -/
def owesWay (s : State) (line : Nat) (t : Txn) : Bool :=
  (decide (t.state = .dwellWait) || decide (t.state = .snooping) || decide (t.state = .serving)) && needsWay s line t.work

/-- Ways of a set in use: entries, reserved ways, and ways that running transactions will allocate. -/
def setUse (s : State) (line : Nat) : Nat :=
  let same : Nat → Bool := fun l => decide (filterSet l = filterSet line)
  (s.home.filter.filter (fun p => same p.1)).length +
  (s.home.reserved.filter (fun l => same l && !s.home.filter.has l)).length +
  (s.home.txns.filter (fun p => same p.1 && !s.home.reserved.contains p.1 && owesWay s p.1 p.2)).length

/-- Store or free a filter entry. -/
def setEntry (s : State) (line : Nat) (e : Option FEntry) : State :=
  s.onHome (fun h => { h with filter := match e with | some x => h.filter.put line x | none => h.filter.del line })

/-- Hosts that an entry says may hold the line (R60 for `WIDE`). -/
def holders (s : State) (e : FEntry) : List Nat := if e.mode = 2 then liveMembers s e.comp else e.ptrs

/-- Record sharers in an entry as one change (R59). -/
def addSharers (s : State) (line comp : Nat) (hs : List Nat) : State :=
  let old := s.home.filter.get? line
  let base := match old with | some e => e.ptrs | none => []
  let wide := match old with | some e => decide (e.mode = 2) | none => false
  let ptrs := hs.foldl (fun l h => if l.contains h then l else l ++ [h]) base
  let seq := match old with | some e => e.seq | none => s.home.allocSeq
  let s1 := if old.isNone then s.onHome (fun h => { h with allocSeq := inc32 h.allocSeq }) else s
  if wide then s1
  else if ptrs.length ≤ 4 then setEntry s1 line (some { mode := 1, ptrs := ptrs, comp := comp, seq := seq })
  else addStat (setEntry s1 line (some { mode := 2, ptrs := [], comp := comp, seq := seq })) 0x240005 0 1

/-- Make a host the owner of a line (R59). -/
def grantOwner (s : State) (line comp host : Nat) : State :=
  let old := s.home.filter.get? line
  let seq := match old with | some e => e.seq | none => s.home.allocSeq
  let s1 := if old.isNone then s.onHome (fun h => { h with allocSeq := inc32 h.allocSeq }) else s
  setEntry s1 line (some { mode := 0, ptrs := [host], comp := comp, seq := seq })

/-- Remove a host's pointer; an entry left with none is freed (R67, R81). -/
def dropPointer (s : State) (line host : Nat) : State :=
  match s.home.filter.get? line with
  | some e =>
    if e.mode = 2 ∨ !e.ptrs.contains host then s
    else
      let ps := e.ptrs.filter (fun h => decide (h ≠ host))
      setEntry s line (if ps.isEmpty then none else some { e with ptrs := ps })
  | none => s

/-- The victim of a back-invalidation (R61): oldest `alloc_seq` by modular difference, line not blocked, way not
reserved. -/
def backVictim (s : State) (line : Nat) : Option Nat :=
  ((s.home.filter.filter (fun p => decide (filterSet p.1 = filterSet line) && !s.home.txns.has p.1 &&
      !s.home.reserved.contains p.1)).foldl
    (fun best p => match best with
      | none => some p
      | some b => if p.2.seq ≠ b.2.seq && reached b.2.seq p.2.seq then some p else best) none).map Prod.fst

/-! ## Snoops -/

/-- Send snoops of one opcode for a line to hosts (R63); their tags are the home's. -/
def sendSnoops (s : State) (line comp op : Nat) (hosts : List Nat) : State × List Snoop :=
  hosts.foldl (fun acc h =>
    let tag := acc.1.home.snoopTag
    let m : Msg := { opcode := op, tc := cfg s 0x241003, peer := h, composition := comp, tag := tag, line := line }
    ((toHost acc.1 h m).onHome (fun x => { x with snoopTag := (tag + 1) % 2 ^ 16 }),
      acc.2 ++ [{ host := h, tag := tag, opcode := op }])) (s, [])

/-- Store a line's transaction. -/
def putTxn (s : State) (line : Nat) (t : Txn) : State := s.onHome (fun h => { h with txns := h.txns.put line t })

/-- Unconfirmed members that must be snooped before a line is owned or changed (R329). -/
def unconfirmedFor (s : State) (e : Extent) : List Nat :=
  if e.canWrite || e.canAtomic then
    (s.home.unconfirmed.filter (fun p => decide (p.1 = e.comp) && !isLost s p.2)).map Prod.snd
  else []

/-- Which snoop a transaction sends, and to whom (R59, R60, R69, R73, R329). -/
def snoopPlan (s : State) (line : Nat) (w : Work) : Nat × List Nat :=
  let e := s.home.filter.get? line
  match w with
  | .inval => (opSnpInv, match e with | some x => holders s x | none => [])
  | .depart h =>
    (opSnpInv, match e with
      | some x => if decide (x.mode = 2) || x.ptrs.contains h then [h] else []
      | none => [])
  | .ops rs =>
    match rs with
    | [] => (opSnpInv, [])
    | r :: _ =>
      let op := effOp s r
      let owned := match e with | some x => decide (x.mode = 0) | none => false
      let hs := match e with | some x => holders s x | none => []
      if op = opWbDirty then (opSnpInv, [])
      else if op = opRdNc then (opSnpShare, if owned then hs else [])
      else if op = opRdShared then
        (opSnpShare, if owned && rs.any (fun q => !hs.contains (peerHost q.m.peer)) then hs else [])
      else
        let extra := if owned then [] else
          (match extentAt s line with | some (_, x) => unconfirmedFor s x | none => [])
        let all := hs ++ extra.filter (fun h => !hs.contains h)
        (opSnpInv, if op = opRdOwn then all.filter (fun h => decide (h ≠ peerHost r.m.peer)) else all)

/-- Whether the owner that would be snooped is within its dwell (R70). -/
def dwellEnd (s : State) (line : Nat) (w : Work) (targets : List Nat) : Option Nat :=
  match s.home.dwells.get? line with
  | some (owner, tEnd) =>
    if decide (s.now < tEnd) && targets.contains owner &&
        !(w.reqs.any (fun r => !fromCore r && decide (peerHost r.m.peer = owner))) then some tEnd
    else none
  | none => none

/-- Snoops are decided: send them, or defer them for a dwell; with none to send the tier access runs (R69). -/
def snoopPhase (s : State) (line : Nat) (w : Work) (txn : Txn) : State :=
  let (op, targets) := snoopPlan s line w
  if targets.isEmpty then putTxn s line { txn with state := .serving, targets := [] }
  else
    match dwellEnd s line w targets with
    | some tEnd => putTxn s line { txn with state := .dwellWait, targets := targets, snpOp := op, deadline := some tEnd }
    | none =>
      let (s1, sn) := sendSnoops s line (lineComp s line) op targets
      putTxn s1 line { txn with state := .snooping, targets := targets, snpOp := op, snoops := sn,
                                deadline := some (s.now + 1000 * cfg s 0x241002) }

/-- The demand that a transaction makes on the tier (R93): its operation's, and that of a line which a snoop returned. -/
def demandFor (s : State) (line : Nat) (t : Txn) : State :=
  if (versionAt s line).isSome then s
  else
    let s1 := if t.returned.isSome then demand s line true false else s
    match t.work with
    | .ops (_ :: _) =>
      let a := accessLine s line t.work
      if t.returned.isSome && decide (a = line) then s1 else demand s1 a (storesLine t) false
    | _ => s1

/-- Free a line's entry, and send the change to the twin (R66). -/
def freeEntry (s : State) (line : Nat) : State :=
  if s.home.filter.has line then
    let s1 := setEntry s line none
    mirrorOnly s1 [recFilter s1 line]
  else s

/-- Begin a back-invalidation of a victim line (R61); an entry that no live host can hold is freed at once. -/
def startBack (s : State) (v : Nat) : State :=
  let s1 := addStat s 0x240004 0 1
  if (snoopPlan s1 v .inval).2.isEmpty then freeEntry s1 v
  else snoopPhase s1 v .inval { state := .serving, work := .inval }

/-- Begin to free a way of a line's set, where a victim is left (R61). -/
def freeWay (s : State) (line : Nat) : State :=
  match backVictim s line with
  | some v => startBack s v
  | none => s

/-- A transaction that has its filter way, or needs none, goes on: tier demand and snoops (R69 rows `OPEN`). -/
def runTxn (s : State) (line : Nat) (t : Txn) : State :=
  snoopPhase (demandFor s line t) line t.work { t with state := .serving }

/-- Begin a line's transaction (R69 rows `OPEN`): block it, free a filter way first where it needs one (R61). -/
def beginTxn (s : State) (line : Nat) (w : Work) : State :=
  let txn : Txn := { state := .serving, work := w }
  if needsWay s line w && decide (16 ≤ setUse s line) then
    let s1 := freeWay (putTxn s line { txn with state := .wayWait }) line
    if setUse s1 line < 16 then runTxn s1 line txn else s1
  else runTxn s line txn

/-- The transactions of a line's set that are in a state, by line. -/
def setTxns (s : State) (line : Nat) (p : Txn → Bool) : List (Nat × Txn) :=
  s.home.txns.filter (fun x => decide (filterSet x.1 = filterSet line) && p x.2)

/-- A way of a line's set may be free: a request that waits for one resumes, or the home begins to free one where fewer
invalidations run than requests wait (R61). Which of several waiting requests resumes first the spec does not say; the
lowest line address does (DESIGN CHOICE, log entry 100). -/
def resumeWay (s : State) (line : Nat) : State :=
  match setTxns s line (fun t => decide (t.state = .wayWait)) with
  | (l, t) :: more =>
    if setUse s l < 16 then runTxn s l t
    else if (setTxns s line (fun t => decide (t.work = .inval))).length < more.length + 1 then
      let s1 := freeWay s l
      if setUse s1 l < 16 then runTxn s1 l t else s1
    else s
  | [] => s

/-- Whether a `WB_DIRTY` comes from the owner that its line's entry names, under the entry's composition (R67). -/
def ownsLine (s : State) (r : Req) : Bool :=
  match s.home.filter.get? r.m.line with
  | some e => decide (e.mode = 0) && decide (e.ptrs = [peerHost r.m.peer]) && decide (e.comp = r.m.composition)
  | none => false

/-- `EVICT_CLEAN` takes effect: its sender leaves the entry; answered `OK` in every case (R67). -/
def evictEffect (s : State) (r : Req) : State :=
  let line := r.m.line
  let s1 := dropPointer s line (peerHost r.m.peer)
  refuseReq (if s1.home.filter.get? line = s.home.filter.get? line then s1
    else resumeWay (mirrorOnly s1 [recFilter s1 line]) line) r stOk 0

/-- Work has its turn on a line that is not blocked (R68, R69). A write-back whose entry is gone is refused and a clean
eviction takes effect (R67); an invalidation that finds nobody to snoop frees what entry there is; all else begins a
transaction. -/
def beginWork (s : State) (line : Nat) (w : Work) : State :=
  match w with
  | .ops rs =>
    match rs with
    | [] => s
    | r :: _ =>
      if r.m.opcode = opEvictClean then evictEffect s r
      else if r.m.opcode = opWbDirty ∧ !ownsLine s r then refuseReq s r stDenied dNotOwner
      else beginTxn s line w
  | .inval => if (snoopPlan s line w).2.isEmpty then resumeWay (freeEntry s line) line else beginTxn s line w
  | .depart _ => if (snoopPlan s line w).2.isEmpty then s else beginTxn s line w

/-- Requests of some work on an aperture line are answered by R157, without a transaction. -/
def serveAperture (s : State) (x : Nat × Nat) (w : Work) : State := w.reqs.foldl (fun s r => apertureServe s x r) s

/-- Admit work to a line: begin it, or let it wait in admission order (R68, R157). -/
def enqueue (s : State) (line : Nat) (w : Work) : State :=
  if s.home.txns.has line then s.onHome (fun h => { h with waiters := h.waiters ++ [(line, w)] })
  else
    match apertureAt s line, w with
    | some x, .ops _ => serveAperture s x w
    | _, _ => beginWork s line w

/-- Requests that waited on an aperture line have their turn (R157). -/
def apertureWaiters (s : State) (line : Nat) : State :=
  match apertureAt s line with
  | some x =>
    let mine : Nat × Work → Bool := fun p => decide (p.1 = line) && !p.2.reqs.isEmpty
    let ws := s.home.waiters.filter mine
    ws.foldl (fun s p => serveAperture s x p.2) (s.onHome (fun h => { h with waiters := h.waiters.filter (fun p => !mine p) }))
  | none => s

/-- The event of a departure that has walked and whose snoops are all answered (R78, R231 step 7). -/
def departureEvent (s : State) (d : Departure) : State :=
  postBoth s d.comp 0x0A06 (pay [(2, d.host), (4, d.poisoned)])

/-- Whether a departure still has snoops outstanding. -/
def departBusy (s : State) (d : Departure) : Bool :=
  let hit : Work → Nat → Bool := fun w l => decide (w = .depart d.host) && decide (lineComp s l = d.comp)
  s.home.txns.any (fun p => hit p.2.work p.1) || s.home.waiters.any (fun p => hit p.2 p.1)

/-- Post the departures that are done. -/
def settleDepartures (s : State) : State :=
  let done := s.home.departures.filter (fun d => d.walked && !departBusy s d)
  done.foldl departureEvent (s.onHome (fun h => { h with departures := h.departures.filter (fun d => !done.contains d) }))

/-- The work that waits on a line has its turn, in admission order, until a transaction blocks the line again (R68); at
most n pieces. -/
def nextWork : Nat → Nat → State → State
  | 0, _, s => s
  | n + 1, line, s =>
    if s.home.txns.has line then s
    else
      match s.home.waiters.find? (fun p => decide (p.1 = line)) with
      | some (_, w) =>
        nextWork n line
          (beginWork (s.onHome (fun h => { h with waiters := eraseFirst h.waiters (fun p => decide (p.1 = line)) })) line w)
      | none => s

/-- The line is unblocked: what waits on it has its turn (R68, R69 last row), and so has a request that waits for a way of
its set. -/
def unblock (s : State) (line : Nat) : State :=
  let s1 := s.onHome (fun h => { h with txns := h.txns.del line })
  let s2 := apertureWaiters (resumeWay s1 line) line
  settleDepartures (nextWork s2.home.waiters.length line s2)

/-! ## Responses and the end of a transaction -/

/-- Send a stash offer in the way it reserved (R74). -/
def offerStash (s : State) (line : Nat) (t : Txn) (host : Nat) : State :=
  let tag := s.home.snoopTag
  let m : Msg :=
    { opcode := opStashFill, tc := cfg s 0x241003, ext := 4, peer := host, composition := lineComp s line, tag := tag,
      line := line, data := lineSlots (readLine s line) }
  let s1 := addStat ((toHost s host m).onHome (fun h => { h with
    snoopTag := (tag + 1) % 2 ^ 16
    reserved := h.reserved ++ [line] })) 0x243002 0 1
  putTxn s1 line { t with
    state := .stashing, work := .ops [], resps := [], offer := none, targets := [host],
    snoops := [{ host := host, tag := tag, opcode := opStashFill }], deadline := some (s.now + 1000 * cfg s 0x241002) }

/-- Whether a stash offer may be made after the write (R74 step 3). -/
def stashAllowed (s : State) (line host : Nat) : Bool :=
  match extentAt s line with
  | some (_, e) =>
    decide (cfg s 0x243001 = 1) && isMember s e.comp host && !isLost s host && e.canRead && decide (e.state = 1) &&
    (e.shared || decide (e.owner = host)) && !isPoisoned s line && (s.home.filter.get? line).isNone &&
    decide (setUse s line < 16)
  | none => false

/-- The changes are held, or need not be: send the responses, start the dwell, make the stash offer, or unblock the line
(R69 rows `SERVING` and `MIRRORING`). -/
def complete (s : State) (line : Nat) (t : Txn) : State :=
  let s1 := t.resps.foldl (fun s x => answerReq s none x.1 x.2) s
  let s2 := match t.grant with
    | some h => s1.onHome (fun x => { x with dwells := x.dwells.put line (h, s.now + cfg s 0x241001) })
    | none => s1
  match t.offer with
  | some h => if stashAllowed s2 line h then offerStash s2 line t h else unblock (addStat s2 0x243004 0 1) line
  | none => unblock s2 line

/-- Count the served members of a group that joined it (objects 2201.01, 2201.02). -/
def countMerged (s : State) (rs : List Req) : State :=
  let joined := rs.filter (fun r => r.follows && r.refusal.isNone)
  match joined with
  | r :: _ =>
    if r.m.isRead then addStat s 0x220101 0 joined.length
    else if r.m.opcode = opAtomic then addStat s 0x220102 0 joined.length else s
  | [] => s

/-! ## Applying operations -/

/-- What one request leaves: the state, the records to mirror, its response, an owner granted, a stash host. -/
structure Applied where
  s : State
  recs : List MRec
  resp : Msg

/-- The home's answer to a request without data. -/
def homeResp (s : State) (r : Req) (st detail result : Nat) : Msg :=
  mkResp r.m st detail (ownAgent s agentHome) result r.group

/-- The home's answer with a line. -/
def homeData (s : State) (r : Req) (d : LineBits) : Msg := mkRespData r.m (ownAgent s agentHome) 0 r.group d

/-- The answer to a request on a poisoned line (R28): the transaction's own detail, else the line's. -/
def poisonResp (s : State) (t : Txn) (r : Req) (line : Nat) : Msg :=
  homeResp s r stPoison ((t.poisonDetail).getD (s.tier.poison.getD line 0)) 0

/-- Mask of 128 bits spread to the 1,024 bits of a line. -/
def spreadMask (mask : Nat) : Nat → Nat
  | 0 => 0
  | n + 1 => (if mask % 2 = 1 then 255 else 0) + 256 * spreadMask (mask / 2) n

/-- A line with the masked bytes replaced. -/
def mergeMask (old new : LineBits) (mask : Nat) : LineBits :=
  let mk := BitVec.ofNat 1024 (spreadMask mask 128)
  (new &&& mk) ||| (old &&& ~~~mk)

/-- Expand a coded `ACTIVATION` block in place before a write to one of its lines (R138): the state, and every line written.
Poison in the coded lines poisons every line of the block (R28). A block that does not decode stays coded, and the write is
applied to it as it stands (DESIGN CHOICE, log entry 101). -/
def unpackActivation (s : State) (d : TileDesc) (line : Nat) (admNo : Nat) : State × List MRec :=
  let c := lineComp s line
  if d.codec = 2 ∧ codedAt d line then
    let (first, size) := blockOf d line
    if actHeaderOk (codecKey s c) first (linesNat s first 1 % 2 ^ 128) then
      let ls := (List.range (size / 128)).map (fun i => first + i)
      match expandBlock s d c admNo first size with
      | .inr v =>
        let s1 := ls.foldl
          (fun s l => storeLine (dirtyLine s l) l (BitVec.ofNat 1024 (bits v (1024 * (l - first)) 1024))) s
        (s1, ls.map (recLine s1))
      | .inl .poison =>
        let s1 := ls.foldl (fun s l => poisonLine s l 0) s
        (s1, ls.map (recLine s1))
      | .inl _ => (s, [])
    else (s, [])
  else (s, [])

/-- The tile descriptor that a read uses: that of its check (R5), or that of the extent which a publish made current since
then (R116). -/
def readDesc (s : State) (r : Req) (line : Nat) : TileDesc :=
  TileDesc.ofNat (if line = r.served then r.desc else hostDescNat s line)

/-- The data of a read (R28, R114-R116, R123, R136): the response, and the state with a decode failure counted. Before any
successful publish, word 1 of the version line reads 0 (DESIGN CHOICE, log entry 102). -/
def readReq (s : State) (t : Txn) (r : Req) : Applied :=
  let line := servedLine s r.m.line
  match versionAt s r.m.line with
  | some (n, v) =>
    { s := s, recs := [], resp := homeData s r (BitVec.ofNat 1024 (pack [(64, regVersion v), (64, s.tier.publisher.getD n 0)])) }
  | none =>
    let d := readDesc s r line
    if t.poisonDetail.isSome then { s := s, recs := [], resp := poisonResp s t r line }
    else if decide (d.codec = 0) || fromCore r || (match tileAt s (tileOf line) with | some x => x.expanded | none => false) then
      (if isPoisoned s line then { s := s, recs := [], resp := poisonResp s t r line }
       else { s := s, recs := [], resp := homeData s r (readLine s line) })
    else
      match readCoded s d (lineComp s line) r.admNo line with
      | .data x => { s := if d.codec = 1 && codedAt d line then addStat s 0x260101 0 1 else s, recs := [], resp := homeData s r x }
      | .poison => { s := s, recs := [], resp := poisonResp s t r line }
      | .fail e => { s := decodeFailed s (lineComp s line) line e, recs := [], resp := homeResp s r stDecodeError e 0 }

/-- A write (R28, R73). -/
def writeReq (s : State) (t : Txn) (r : Req) (line : Nat) : Applied :=
  let (s1, rs) := if r.coded then (s, []) else unpackActivation s (TileDesc.ofNat r.desc) line r.admNo
  if r.m.poison then
    let s2 := poisonLine s1 line 0
    { s := s2, recs := rs ++ [recLine s2 line], resp := homeResp s2 r stOk 0 0 }
  else if r.m.fullMask then
    let s2 := writeLine s1 line r.m.lineData
    { s := s2, recs := rs ++ [recLine s2 line], resp := homeResp s2 r stOk 0 0 }
  else if isPoisoned s1 line then { s := s1, recs := rs, resp := poisonResp s1 t r line }
  else
    let s2 := storeLine (dirtyLine s1 line) line (mergeMask (readLine s1 line) r.m.lineData r.m.mask)
    { s := s2, recs := rs ++ [recLine s2 line], resp := homeResp s2 r stOk 0 0 }

/-- The response of an atomic, with its `cas_stored` slot for a `CAS` (R32). -/
def atomicResp (s : State) (r : Req) (st detail result : Nat) (cas : Bool) : Msg :=
  let m := homeResp s r st detail result
  if r.m.isCas then m.withCas cas else m

/-- An atomic whose ledger entry is PENDING (R28, R51, R54, R115). -/
def atomicApplied (s : State) (t : Txn) (r : Req) (line : Nat) : Applied :=
  match versionAt s line with
  | some (n, v) =>
    let ((st, d, res, cas), s1) := publish s n v r.m
    let s2 := if st = stOk then ledgerDone s1 r.m st res cas else delLedger s1 (ledgerHost r.m) r.m.ledgerId
    { s := s2, recs := [recObject 0x256002 n 64 (regionOf s2 n) (regComp v), recLedger s2 (ledgerHost r.m) r.m.ledgerId],
      resp := atomicResp s2 r st d res cas }
  | none =>
    if isPoisoned s line then
      let p := poisonResp s t r line
      let s1 := ledgerDone s r.m stPoison 0 false
      { s := s1, recs := [recLedger s1 (ledgerHost r.m) r.m.ledgerId], resp := atomicResp s1 r stPoison p.detail 0 false }
    else
      let old := (readLine s line).toNat
      let w := bits old (64 * r.m.word) 64
      let (w1, cas) := atomicApply r.m.aop w r.m.operand r.m.compareVal
      let changes := decide (r.m.aop ≠ 9) || cas
      let s1 := if changes then storeLine (dirtyLine s line) line (BitVec.ofNat 1024 (setBits old (64 * r.m.word) 64 w1)) else s
      let s2 := ledgerDone s1 r.m stOk w cas
      { s := s2, recs := (if changes then [recLine s2 line] else []) ++ [recLedger s2 (ledgerHost r.m) r.m.ledgerId],
        resp := atomicResp s2 r stOk 0 w cas }

/-- Whether a requester's ledger entries have been discarded since its request was admitted: it is lost, or has left the
composition (R56). Its atomic is then applied without an entry. -/
def ledgerGone (s : State) (r : Req) : Bool :=
  !fromCore r && (isLost s (peerHost r.m.peer) || (compOf s r.m.composition).departed.contains (peerHost r.m.peer))

/-- An atomic of a transaction. A later member of a combined group has its ledger lookup now, after the members before it
have theirs (R50). -/
def atomicReq (s : State) (t : Txn) (r : Req) (line : Nat) : Applied :=
  if r.late && !ledgerGone s r then
    match ledgerCheck s r.m with
    | (.answer st d res cas, s1, recs) => { s := s1, recs := recs, resp := atomicResp s1 r st d res cas }
    | (.pending, s1, recs) =>
      match r.refusal with
      | some (st, d) =>
        let s2 := delLedger s1 (ledgerHost r.m) r.m.ledgerId
        { s := s2, recs := recs, resp := homeResp s2 r st d 0 }
      | none =>
        let a := atomicApplied s1 t r line
        { a with recs := recs ++ a.recs }
  else
    match r.refusal with
    | some (st, d) => { s := s, recs := [], resp := homeResp s r st d 0 }
    | none => atomicApplied s t r line

/-- A write-back on an open line (R67): the line is written and the entry freed. -/
def wbReq (s : State) (r : Req) (line : Nat) : Applied :=
  let s1 := if r.m.poison then poisonLine s line 0 else writeLine s line r.m.lineData
  let s2 := setEntry s1 line none
  { s := s2, recs := [recLine s2 line, recFilter s2 line], resp := homeResp s2 r stOk 0 0 }

/-- Apply one request to its line. -/
def applyReq (s : State) (t : Txn) (line : Nat) (r : Req) : Applied :=
  if r.m.isRead then readReq s t r
  else if r.m.opcode = opAtomic then atomicReq s t r line
  else if r.m.opcode = opWbDirty then wbReq s r line
  else writeReq s t r line

/-- Apply a transaction's requests in order: state, records, responses. -/
def applyAll (s : State) (t : Txn) (line : Nat) (rs : List Req) : State × List MRec × List (Req × Msg) :=
  rs.foldl (fun acc r =>
    let a := applyReq acc.1 t line r
    (a.s, acc.2.1 ++ a.recs, acc.2.2 ++ [(r, a.resp)])) (s, [], [])

/-- The filter after a transaction's operation (R59, R73): sharers recorded, an owner granted, or the entry of an
invalidated line freed. -/
def settleEntry (s : State) (t : Txn) (line : Nat) (resps : List (Req × Msg)) : State × Option Nat :=
  let comp := lineComp s line
  let invalid := decide (t.snpOp = opSnpInv) && !t.targets.isEmpty
  match t.work with
  | .inval => (setEntry s line none, none)
  | .depart h => (dropPointer s line h, none)
  | .ops [] => (s, none)
  | .ops (r :: _) =>
    let op := effOp s r
    let okHosts := (resps.filter (fun x => decide (x.2.status = stOk))).map (fun x => peerHost x.1.m.peer)
    if op = opRdShared then
      let s1 := if decide (t.snpOp = opSnpShare) && !t.targets.isEmpty then
          (match s.home.filter.get? line with
           | some e => setEntry s line (some { e with mode := 1 })
           | none => s) else s
      ((if okHosts.isEmpty then s1 else addSharers s1 line comp okHosts), none)
    else if op = opRdNc then
      (match s.home.filter.get? line with
       | some e => (if e.mode = 0 then setEntry s line (some { e with mode := 1 }) else s, none)
       | none => (s, none))
    else if op = opRdOwn then
      (match okHosts with
       | h :: _ => (grantOwner s line comp h, if isLost s h then none else some h)
       | [] => ((if invalid then setEntry s line none else s), none))
    else if op = opWbDirty then (s, none)
    else (setEntry s line none, none)

/-- Write the modified line that a snoop returned, or poison it (R28, R69). -/
def writeReturned (s : State) (t : Txn) (line : Nat) : State × List MRec :=
  match t.returned with
  | some (d, p) =>
    let s0 := s.onTier (fun x => { x with recover := x.recover.del line })
    let s1 := if p then poisonLine s0 line 0 else writeLine s0 line d
    (s1, [recLine s1 line])
  | none => (s, [])

/-- An entry that a request admitted before a revocation or a departure has just made or changed: the home acts on it as
the walk would (R78). `hs` are the hosts that it has just recorded. -/
def lateEntries (s : State) (line : Nat) (hs : List Nat) : State :=
  match s.home.filter.get? line, extentAt s line with
  | some e, some (_, x) =>
    let gone := hs.filter (fun h => (compOf s e.comp).departed.contains h)
    let ws : List (Nat × Work) := (if x.state = 2 then [(line, .inval)] else []) ++ gone.map (fun h => (line, .depart h))
    s.onHome (fun h => { h with waiters := ws ++ h.waiters })
  | _, _ => s

/-- An entry that a request of a lost host, admitted before its loss, has just made: the home acts on it as the walk would
(R78, R81): an owned line is poisoned and freed, a pointer removed. -/
def lateLoss (s : State) (line : Nat) : State :=
  match s.home.filter.get? line with
  | some e =>
    match e.ptrs.find? (isLost s) with
    | none => s
    | some h =>
      if e.mode = 0 then
        (addErr (setEntry (poisonAnywhere s line 0) line none) 0x242006 0 1).onHome
          (fun x => { x with walkPoisoned := x.walkPoisoned.upd h (fun n => n + 1) })
      else
        let ps := e.ptrs.filter (fun q => !isLost s q)
        setEntry s line (if ps.isEmpty then none else some { e with ptrs := ps })
  | none => s

/-- The hosts that a transaction's responses let hold its line. -/
def newHolders (t : Txn) (resps : List (Req × Msg)) : List Nat :=
  (resps.filter (fun x => decide (x.2.status = stOk) && (decide (x.1.m.opcode = opRdShared) || decide (x.1.m.opcode = opRdOwn)))).map
    (fun x => peerHost x.1.m.peer)

/-- The access is done and the snoops are answered: write returned data, apply the operation, change the filter, mirror
the changes, and respond once R66 lets it. A response waits for a changed or poisoned line, an owner entry, or an entry
change that goes with returned data; other entry changes are mirrored without waiting. -/
def finish (s : State) (line : Nat) (t : Txn) : State :=
  let (s1, r1) := writeReturned s t line
  let before := s1.home.filter.get? line
  let (s2, r2, resps) := applyAll s1 t line t.work.reqs
  let (s3, grant) := settleEntry s2 t line resps
  let s4 := countMerged s3 t.work.reqs
  let fchange := t.entryChanged || decide (s4.home.filter.get? line ≠ before)
  let s4 := if fchange && !t.work.reqs.isEmpty then lateEntries (lateLoss s4 line) line (newHolders t resps) else s4
  let lost := decide (isPoisoned s4 line ≠ isPoisoned s3 line)
  let frec := if fchange then [recFilter s4 line] else []
  let hard := r1 ++ r2
  let mustHold := !hard.isEmpty || grant.isSome || t.poisonDetail.isSome
  let recs := hard ++ (if lost || (t.poisonDetail.isSome && hard.isEmpty) then [recLine s4 line] else []) ++ frec
  let (s5, batch) := mirror s4 recs
  let offer := match t.work with
    | .ops [r] => if r.m.opcode = opWrStash then some r.m.stashHost else none
    | _ => none
  let t1 : Txn := { t with state := .mirroring, resps := t.resps ++ resps, grant := grant, offer := offer, returned := none,
                           snoops := [], deadline := none, entryChanged := false }
  match batch with
  | some b =>
    if mustHold then holdItem (putTxn s5 line t1) (some b) (.txn line)
    else complete s5 line t1
  | none => complete s5 line t1

/-- Whether a transaction first stores the whole line: a write with all 128 mask bits, a write-back, or a line that a snoop
returned (R69, R93). -/
def storesWhole (t : Txn) : Bool :=
  t.returned.isSome || (match t.work with
    | .ops (r :: _) => decide (r.m.opcode = opWbDirty) || (r.m.isWrite && r.m.fullMask)
    | _ => false)

/-- Whether the stored lines by which the block of a coded line is read have arrived (R129, R137): its first line, and the
lines that its header names; all of a raw block. -/
def blockReady (s : State) (d : TileDesc) (line : Nat) : Bool :=
  if codedAt d line && !(match tileAt s (tileOf line) with | some x => x.expanded | none => false) then
    let (first, size) := blockOf d line
    let h := linesNat s first 1 % 2 ^ 128
    let n :=
      if d.codec = 1 then (if payloadOk h size then codedLines (bhPayload h) else 1)
      else if actHeaderOk (codecKey s (lineComp s line)) first h && payloadOk h size then codedLines (bhPayload h)
      else size / 128
    lineReady s first && (List.range n).all (fun i => lineReady s (first + i))
  else true

/-- Whether a transaction's tier access to line `a` can be made now (R93): it is in reach, or a slot holds its tile and the
transaction stores the whole of it, so that it need not have arrived. What stores needs a slot, also where the tile reads
as zeros; a version line is no stored line (R115). A read or write that involves a coded block needs the lines that the
block is read by (R129, R138). -/
def accessReady (s : State) (a line : Nat) (t : Txn) : Bool :=
  (versionAt s line).isSome ||
  (lineReady s a || (storesWhole t && decide (a = line) && (tileAt s (tileOf a)).isSome)) &&
  (!storesLine t || slotHeld s line) &&
  (match t.work with
   | .ops (r :: _) =>
     if r.m.isRead then fromCore r || blockReady s (readDesc s r a) a
     else r.coded || !r.m.isWrite || (TileDesc.ofNat r.desc).codec ≠ 2 || blockReady s (TileDesc.ofNat r.desc) a
   | _ => true)

/-! ## Stack reads (R125, R126) -/

/-- Stack (0-15) and channel item (stack × 16 + channel) of a line (R90). -/
def stackOf (s : State) (line : Nat) : Nat :=
  let q := match tileAt s (tileOf line) with | some t => t.quadrant | none => quadrantOf s (lineComp s line) (tileOf line)
  q * 4 + line % 512 % 4

def channelOf (s : State) (line : Nat) : Nat := stackOf s line * 16 + line % 512 / 4 % 16

/-- Count an uncorrectable line with its outcome (R126): 0 twin copy, 1 tray copy, 2 poisoned. -/
def uncorrectable (s : State) (line outcome : Nat) : State :=
  let s1 := addErr s 0x260302 0 1
  let s2 := if outcome < 2 then addErr s1 0x260304 0 1 else s1
  let st := stackOf s2 line
  let ch := channelOf s2 line
  let s3 := addScore (addScore s2 4 st 1 1) 5 ch 1 1
  post s3 0x0620 none (pay [(1, st), (1, ch % 16), (5, line), (1, outcome)])

/-- Count a corrected line; it is rewritten to the stack under the scrub budget (R125). -/
def corrected (s : State) (line : Nat) : State :=
  let q := stackOf s line / 4
  let s1 := if hasBudget s 0 q 2 1 then charge s 0 q 2 1 else s
  addScore (addScore (addErr s1 0x260301 0 1) 4 (stackOf s line) 0 1) 5 (channelOf s line) 0 1

/-- A stack read found `errs` erroneous symbols (R125, R126): the state, and whether the read delivers the line now.
A recovery from the twin or the tray is started where a source exists; else the line is poisoned. More than 11 symbols
may go undetected (log entry 7): the line then reads as a free value. The detail is that of a line poisoned now. -/
def stackRead (s : State) (line errs : Nat) : State × Bool × Option Nat :=
  if errs = 0 then (s, true, none)
  else if errs ≤ 4 then (corrected s line, true, none)
  else
  let (n, s) := if errs ≤ 11 then (0, s) else drawFree s
  if errs ≤ 11 ∨ Config.detectsBeyond11 n then
    let inSync := decide (s.twin.pair = psSync)
    if isDirty s line && inSync then (s.onTier (fun t => { t with recover := t.recover.put line 0 }), false, none)
    else
      match extentAt s line with
      | some (_, e) =>
        if !e.isFast && !isDirty s line && !lineLost s line then
          (trayRequest (s.onTier (fun t => { t with recover := t.recover.put line 1 })) .refetch line false 0 false, false, none)
        else
          let s1 := uncorrectable (poisonLine s line 0) line 2
          (mirrorOnly s1 [recLine s1 line], true, some dUncorrectable)
      | none => (s, true, none)
  else
    (storeLine s line (Config.freeLine n), true, none)

/-- Whether an operation reads the stack: reads, atomics and partial writes do. -/
def readsStack (w : Work) : Bool :=
  match w with
  | .ops (r :: _) => r.m.isRead || decide (r.m.opcode = opAtomic) || (r.m.isWrite && !r.m.fullMask && !r.m.poison)
  | _ => false

/-- Whether an operation would change its line (R28, R51, R115): not a refused one, nor one that poison stops, nor a `CAS`
that stores nothing. -/
def wouldStore (s : State) (line : Nat) (r : Req) : Bool :=
  if r.m.isWrite then r.m.poison || r.m.fullMask || !isPoisoned s line
  else
    decide (r.m.opcode = opAtomic) && r.refusal.isNone && (versionAt s line).isNone && !isPoisoned s line &&
    (decide (r.m.aop ≠ 9) || decide (bits (readLine s line).toNat (64 * r.m.word) 64 = r.m.compareVal))

/-- Whether some work would make a clean `POOL` line dirty at its composition's limit (R103). -/
def limitHolds (s : State) (line : Nat) (w : Work) : Bool :=
  w.reqs.any (fun r => wouldStore s line r && dirtyHeld s line r.limit)

/-- Whether a request is a face read of a region that the home admitted before a publish (R117). -/
def oldFaceRead (s : State) (region admNo : Nat) (q : Req) : Bool :=
  decide (q.admNo < admNo) && (match faceAt s q.m.line with | some (n, _) => decide (n = region) | none => false)

/-- Whether a write waits for face reads admitted before a publish (R117). -/
def lockHolds (s : State) (line : Nat) (w : Work) : Bool :=
  match w, extentAt s line with
  | .ops (r :: _), some (id, _) =>
    (r.m.isWrite || decide (r.m.opcode = opAtomic)) && s.tier.locked.any (fun p => decide (p.2.1 = id) &&
      (s.home.txns.any (fun x => x.2.work.reqs.any (oldFaceRead s p.1 p.2.2)) ||
       s.home.waiters.any (fun x => x.2.reqs.any (oldFaceRead s p.1 p.2.2))))
  | _, _ => false

/-- Whether the end of a transaction is held: by the dirty limit or a recovery, which do not matter to a line that a snoop
returned whole, or by a publish (R103, R117, R126). -/
def endHeld (s : State) (line : Nat) (t : Txn) : Bool :=
  (t.returned.isNone && (limitHolds s line t.work || s.tier.recover.has (accessLine s line t.work))) || lockHolds s line t.work

/-- The dirty limit holds a transaction's access: noted for the load, 0x0510 once per period (R103). -/
def noteLimit (s : State) (line : Nat) (t : Txn) : State :=
  let c := lineComp s line
  let s1 := putTxn s line { t with atLimit := true }
  if postedThisPeriod s1 0x0510 c then s1
  else postBoth (markPosted s1 0x0510 c) c 0x0510 (pay [(4, dirtyLines s1 c)])

/-- The last snoop is answered: finish where nothing is left to wait for, else wait for the tier access in `SERVING` (R69,
R93). An invalidation that returned no line needs no access. -/
def finishOrServe (s : State) (line : Nat) (t : Txn) : State :=
  let s1 := demandFor s line t
  let idle := t.work.reqs.isEmpty && t.returned.isNone
  if idle || ((t.returned.isSome || t.tierDone) && accessReady s1 (accessLine s1 line t.work) line t && !endHeld s1 line t) then
    finish s1 line t
  else
    let t1 := { t with state := .serving, snoops := [], deadline := none }
    if t.tierDone && t.returned.isNone && limitHolds s1 line t.work then noteLimit s1 line t1 else putTxn s1 line t1

/-- Whether a transaction's access costs its composition a stack slot as host traffic: a host's read or store that is not yet
made, of a tile that the stacks hold (R232, R274). A compute core's is charged to the itineraries (R197). -/
def slotDue (s : State) (a : Nat) (t : Txn) : Bool :=
  !t.tierDone && t.returned.isNone && !(s.tier.zero.contains (tileOf a)) &&
  (match t.work with | .ops (r :: _) => !fromCore r && (versionAt s r.m.line).isNone | _ => false)

/-- The compositions whose transactions want stack slots of a quadrant. -/
def stackDemand (s : State) (q : Nat) : List Nat :=
  ((s.home.txns.filter (fun p => decide (p.2.state = .serving) && slotDue s (accessLine s p.1 p.2.work) p.2 &&
    decide (stackOf s (accessLine s p.1 p.2.work) / 4 = q))).map (fun p => lineComp s p.1)).dedup

/-- Whether a stack slot of a line's quadrant is left for its composition (R232, R274). -/
def slotFree (s : State) (line a : Nat) : Bool :=
  hostAllowed s 0 (stackOf s a / 4) (lineComp s line) 1 (stackDemand s (stackOf s a / 4))

/-- A transaction waits for a stack slot until the next period; its composition's load takes note (R232, R266). -/
def slotWait (s : State) (line a : Nat) : State :=
  let c := lineComp s line
  let k := stackOf s a / 4 * 128 + c
  s.onTm (fun t => { t with
    stackHeld := if t.stackHeld.has k then t.stackHeld else t.stackHeld.put k s.now
    stackWait := if t.stackWait.has c then t.stackWait else t.stackWait.put c (8192 * (periodOf s.now + 1) - s.now) })

/-- `TIER_ACCESS_DONE`: the stack access of a line's transaction is done, with `errs` erroneous symbols in what it read
(R69, R93, R103, R125, R126). It waits while the line is not in reach, its composition has no stack slot left in the period
(R232), a recovery runs, or the dirty limit or a publish holds its end. -/
def tierAccessDone (s : State) (line errs : Nat) : State :=
  match s.home.txns.get? line with
  | none => s
  | some t =>
    let s0 := demandFor s line t
    let a := accessLine s0 line t.work
    if !accessReady s0 a line t || (t.returned.isNone && s0.tier.recover.has a) || (t.state ≠ .serving ∧ t.state ≠ .snooping) then s0
    else if slotDue s0 a t && !slotFree s0 line a then slotWait s0 line a
    else
      let s0 := if slotDue s0 a t then hostCharge s0 0 (stackOf s0 a / 4) (lineComp s0 line) 1 else s0
      let fromStack := readsStack t.work && t.returned.isNone && !t.tierDone && !(s0.tier.zero.contains (tileOf a)) &&
        (versionAt s0 line).isNone
      let (s1, ok, d) := if fromStack then stackRead s0 a errs else (s0, true, none)
      let t1 := if ok then { t with tierDone := true, poisonDetail := if d.isSome then d else t.poisonDetail } else t
      if t.state = .snooping ∨ !ok then putTxn s1 line t1
      else if t.returned.isNone && limitHolds s1 line t.work then noteLimit s1 line t1
      else if endHeld s1 line t then putTxn s1 line t1
      else finish s1 line t1

end Sys2Proof.Machine
end

