-- ==== Sys2Proof/Machine/Coherence.lean ====
section
/-! DEFINITION. Snoop answers, home timers, write-backs, merging, and admission at the home (R45-R50, R64-R75, R237). -/

namespace Sys2Proof.Machine

/-! ## Answers and timers of a transaction -/

/-- A snooped host has answered: the last answer ends the snoop phase (R69). -/
def snoopsDone (s : State) (line : Nat) (t : Txn) : State :=
  if !t.snoops.isEmpty then putTxn s line t
  else
    finishOrServe s line t

/-- A snoop of a host ends; `data` is the modified line it returned, with its poison mark. A returned line takes the place of
what a stack read found. -/
def snoopAnswered (s : State) (line host : Nat) (t : Txn) (data : Option (LineBits × Bool)) : State :=
  snoopsDone s line { t with
    snoops := t.snoops.filter (fun x => decide (x.host ≠ host))
    poisonDetail := if data.isSome then none else t.poisonDetail
    returned := if data.isSome then data else t.returned }

/-- A stash offer ends: accepted (or its timer expired) records the sharer in the reserved way, declined releases it
(R75). -/
def stashAnswered (s : State) (line host : Nat) (accepted : Bool) : State :=
  let s1 := s.onHome (fun h => { h with reserved := eraseFirst h.reserved (fun l => decide (l = line)) })
  if accepted then
    let s2 := lateEntries (lateLoss (addSharers s1 line (lineComp s line) [host]) line) line [host]
    unblock (mirrorOnly s2 [recFilter s2 line]) line
  else unblock s1 line

/-- Whether a `HOME_TIMEOUT` drill ignores the snoop answers of a line (R343). -/
def answersIgnored (s : State) (line : Nat) : Bool :=
  match s.health.drill with
  | some d => decide (d.cls = 5) && decide (d.target = line)
  | none => false

/-- `SNP_RESP` at the home (R64, R69, R72, R75). An answer 0-3 to a stash offer, of which the spec says nothing, counts as a
decline (DESIGN CHOICE, log entry 105). -/
def snpRespAtHome (s : State) (m : Msg) : State :=
  let host := peerHost m.peer
  let line := m.line
  let key := (line, host, m.tag)
  if answersIgnored s line then s
  else if s.home.timedOut.contains key then
    let s1 := s.onHome (fun h => { h with timedOut := eraseFirst h.timedOut (fun k => decide (k = key)) })
    post (addErr s1 0x241005 0 1) 0x0430 none (pay [(5, line), (2, host), (1, m.snpResult)])
  else
    match s.home.txns.get? line with
    | some t =>
      if t.snoops.any (fun x => decide (x.host = host) && decide (x.tag = m.tag)) then
        (if t.state = .stashing then
           (if m.snpResult = 4 then stashAnswered s line host true
            else stashAnswered (addStat s 0x243003 0 1) line host false)
         else
           let data := if m.snpResult = 2 then some (m.lineData, m.poison)
             else if m.poison then some (0, true) else none
           snoopAnswered s line host t data)
      else resultAnswered s line host m.tag m.snpResult
    | none => resultAnswered s line host m.tag m.snpResult

/-- `DWELL_EXPIRY`: a deferred transaction snoops the holders that the entry still names (R69, R70). -/
def dwellExpiry (s : State) (line : Nat) : State :=
  match s.home.dwells.get? line with
  | none => s
  | some (_, tEnd) =>
    let s1 := (reachTime s tEnd).onHome (fun h => { h with dwells := h.dwells.del line })
    match s1.home.txns.get? line with
    | some t =>
      if t.state = .dwellWait then
        let t1 := { t with deadline := none }
        match t.work with
        | .ops _ => snoopPhase s1 line t.work t1
        | _ => if (snoopPlan s1 line t.work).2.isEmpty then finishOrServe s1 line t1 else snoopPhase s1 line t.work t1
      else s1
    | none => s1

/-- The events of a home timeout, one for each silent host (R71 step 4). -/
def timeoutEvents (s : State) (line : Nat) (t : Txn) : State :=
  let c := lineComp s line
  t.snoops.foldl (fun s x => postBoth s c 0x0401 (pay [(5, line), (2, x.host), (1, x.opcode)])) s

/-- `HOME_TIMEOUT`: the first unanswered snoop of a transaction times out (R71). -/
def homeTimeout (s : State) (line : Nat) : State :=
  match s.home.txns.get? line with
  | some t =>
    (match t.state, t.deadline with
     | .snooping, some d =>
       let s1 := reachTime s d
       let (s2, _) := writeReturned s1 t line
       let s3 := setEntry (poisonAnywhere s2 line 0) line none
       let s3 := mirrorOnly s3 [recLine s3 line, recFilter s3 line]
       let s4 := if answersIgnored s line then s3 else timeoutEvents (addErr s3 0x241004 0 1) line t
       let s5 := s4.onHome (fun h => { h with
         timedOut := h.timedOut ++ t.snoops.map (fun x => (line, x.host, x.tag))
         departures := match t.work with
           | .depart host => h.departures.map (fun p =>
               if p.host = host ∧ p.comp = lineComp s line then { p with poisoned := p.poisoned + 1 } else p)
           | _ => h.departures })
       finishOrServe s5 line { t with
         snoops := [], returned := none, deadline := none, poisonDetail := some dHomeTimeout, tierDone := true, entryChanged := true }
     | _, _ => s)
  | none => s

/-- `STASH_OFFER_TIMEOUT`: the home timer of a stash offer expires: the host is recorded as a sharer (R75). -/
def stashOfferTimeout (s : State) (line : Nat) : State :=
  match s.home.txns.get? line with
  | some t =>
    (match t.state, t.deadline, t.targets with
     | .stashing, some d, h :: _ =>
       let s1 := (reachTime s d).onHome (fun x => { x with
         timedOut := x.timedOut ++ t.snoops.map (fun q => (line, q.host, q.tag)) })
       stashAnswered s1 line h true
     | _, _, _ => s)
  | none => s

/-! ## `WB_DIRTY` and `EVICT_CLEAN` (R67) -/

/-- `WB_DIRTY` of a host that its line's transaction snoops takes part in that transaction: its data are the line as
returned, and it is acknowledged with the transaction's responses. -/
def wbSnooped (s : State) (t : Txn) (r : Req) : State :=
  if ownsLine s r then
    let s1 := setEntry s r.m.line none
    putTxn s1 r.m.line { t with
      returned := some (r.m.lineData, r.m.poison), poisonDetail := none, entryChanged := true
      resps := t.resps ++ [(r, homeResp s1 r stOk 0 0)] }
  else refuseReq s r stDenied dNotOwner

/-- `WB_DIRTY` or `EVICT_CLEAN` at the home, once the group that was open for its line has gone ahead (R47). A line whose
transaction snoops the sender admits it at once; behind any other transaction it waits its turn (R36, R68). -/
def hostLineAtHome (s : State) (r : Req) : State :=
  match checkRequester s r with
  | some (st, d) => refuseReq s r st d
  | none =>
    if (versionAt s r.m.line).isSome then refuseReq s r stDenied dVersionLine
    else
      match s.home.txns.get? r.m.line with
      | some t =>
        if t.targets.contains (peerHost r.m.peer) then
          (if r.m.opcode = opWbDirty then wbSnooped s t r else evictEffect s r)
        else enqueue s r.m.line (.ops [r])
      | none => beginWork s r.m.line (.ops [r])

/-! ## Admission at the home -/

/-- A retry of the atomic whose reply a drill dropped has come (R343, R347). -/
def retrySeen (s : State) (m : Msg) : State :=
  match s.health.drill with
  | some d => if d.cls = 1 ∧ d.phase = 1 ∧ m.retry ∧ m.line = d.target ∧ m.peer = d.back / 2 ^ 16 then drillPhase s 2 else s
  | none => s

/-- The answer to an atomic that the ledger decides (R54), held while the twin still lacks what it reports (R310). -/
def answerLedger (s : State) (r : Req) (recs : List MRec) (st d res : Nat) (cas : Bool) : State :=
  let (s1, b) := mirror s recs
  let last := if holdsNow s1 && !s1.twin.journal.isEmpty then some ((s1.twin.seq + 2 ^ 32 - 1) % 2 ^ 32) else b
  answerReq s1 last r (atomicResp s1 r st d res cas)

/-- One atomic at the home: ledger first, then R20 steps 3-5 and the place checks (R54). Some request is to be applied;
none when it was answered. -/
def atomicAdmit (s0 : State) (r : Req) : State × Option Req :=
  let s := retrySeen s0 r.m
  match extentAt s r.m.line with
  | none => (refuseReq s r stDenied 0, none)
  | some (id, e) =>
    let (v, s1, recs) := ledgerCheck s r.m
    match v with
    | .answer st d res cas => (answerLedger s1 r recs st d res cas, none)
    | .pending =>
      let s2 := mirrorOnly s1 recs
      match checkGrant s2 r e with
      | some (st, d) => (refuseReq (delLedger s2 (ledgerHost r.m) r.m.ledgerId) r st d, none)
      | none =>
        match checkPlace s2 r id e with
        | some (st, d) => (refuseReq (delLedger s2 (ledgerHost r.m) r.m.ledgerId) r st d, none)
        | none => (s2, some r)

/-- One request checked on its own (R48): refused with its own status, or to be served. -/
def checkOne (s : State) (r : Req) : State × Option Req :=
  let r := { r with limit := dirtyLimit s r.m.composition }
  match checkRequester s r with
  | some (st, d) => (refuseReq s r st d, none)
  | none =>
    let x := extentAt s r.m.line
    match checkExtent s r x with
    | some (st, d) => (refuseReq s r st d, none)
    | none =>
      match x with
      | none => (s, none)
      | some (id, e) =>
        if (apertureAt s r.m.line).isSome then
          (match checkGrant s r e with
           | some (st, d) => (refuseReq s r st d, none)
           | none => (s, some r))
        else if r.m.opcode = opAtomic then atomicAdmit s r
        else
          match checkGrant s r e with
          | some (st, d) => (refuseReq s r st d, none)
          | none =>
            match checkPlace s r id e with
            | some (st, d) => (refuseReq s r st d, none)
            | none =>
              let n := if r.m.isRead then servedLine s r.m.line else r.m.line
              (s, some { r with served := n, desc := hostDescNat s n })

/-- A later member of a combined atomic group: R20 steps 1 and 2 now; its ledger lookup, and what steps 3-5 say after it,
when its turn comes in the group (R50, R54). -/
def checkLate (s : State) (r : Req) : State × Option Req :=
  match checkRequester s r with
  | some (st, d) => (refuseReq s r st d, none)
  | none =>
    let x := extentAt s r.m.line
    match checkExtent s r x with
    | some (st, d) => (refuseReq s r st d, none)
    | none =>
      match x with
      | none => (s, none)
      | some (id, e) =>
        (s, some { r with
          late := true, limit := dirtyLimit s r.m.composition
          refusal := match checkGrant s r e with | some x => some x | none => checkPlace s r id e })

/-- A group goes to the home (R47-R50): each member is checked, and those that pass are one transaction. -/
def groupToHome (s : State) (rs : List Req) : State :=
  match rs with
  | [] => s
  | r0 :: more =>
    let n := rs.length
    let all := { r0 with group := n } :: more.map (fun r => { r with group := n, follows := true })
    let (s1, ok) := all.foldl (fun acc r =>
      let (s', o) := if r.m.opcode = opAtomic ∧ !acc.2.isEmpty ∧ (apertureAt acc.1 r.m.line).isNone then checkLate acc.1 r
        else checkOne acc.1 r
      (s', acc.2 ++ o.toList)) (s, [])
    if ok.isEmpty then s1 else enqueue s1 r0.m.line (.ops ok)

/-- Send an open group of a line to the home. -/
def closeGroup (s : State) (g : MGroup) : State :=
  groupToHome (s.onHome (fun h => { h with groups := eraseFirst h.groups (fun x => decide (x = g)) })) g.reqs

/-- Whether a request joins an open group (R45, R46): its lookup comes while the group is open, less than the group's hold
after the lookup that opened it (R47; a crossbar cycle is 0.625 ns). -/
def joins (s : State) (g : MGroup) (m : Msg) : Bool :=
  decide (8 * (s.now - g.opened) < 5 * g.hold) && decide (g.line = m.line) && decide (g.comp = m.composition) && decide (g.opcode = m.opcode) &&
  decide (g.reqs.length < cfg s 0x220003) &&
  (m.opcode == opRdShared || m.opcode == opRdNc ||
    (m.opcode == opAtomic && decide (g.word = m.word) && decide (g.aop = m.aop) && decide (m.aop ≤ 7) && !m.retry))

/-- Whether a request may open a group (R45, R46, object 2200.02). -/
def mayOpen (s : State) (m : Msg) (q : Nat) : Bool :=
  let room := decide ((s.home.groups.filter (fun g => decide (g.quadrant = q))).length < 256)
  room && (((m.opcode == opRdShared || m.opcode == opRdNc) && bit (cfg s 0x220002) 0) ||
    (m.opcode == opAtomic && decide (m.aop ≤ 7) && !m.retry && bit (cfg s 0x220002) 1))

/-- Length of a group's hold in ns: crossbar cycles of 0.625 ns, rounded up, after the two cycles to the lookup (R47). -/
def holdNs (s : State) : Nat := ceilDiv (5 * (cfg s 0x220001 + 2)) 8

/-- A request opens a group, or goes to the home alone (R45-R47). -/
def openGroup (s : State) (r : Req) : State :=
  let q := quadrantOf s r.m.composition (tileOf r.m.line)
  if mayOpen s r.m q then s.onHome (fun h => { h with groups := h.groups ++
    [{ line := r.m.line, opcode := r.m.opcode, comp := r.m.composition, word := r.m.word, aop := r.m.aop, reqs := [r],
       opened := s.now, hold := cfg s 0x220001, closeAt := s.now + holdNs s, quadrant := q }] })
  else groupToHome s [r]

/-- A request that joins no group closes the open group of its line, which goes to the home ahead of it (R47). -/
def closeLine (s : State) (line : Nat) : State :=
  match s.home.groups.find? (fun g => decide (g.line = line)) with
  | some g => closeGroup s g
  | none => s

/-- A request meets the merge table (R45-R47): it joins its line's open group, or closes that group ahead of itself, and
opens its own or goes to the home alone. -/
def mergeLookup (s : State) (r : Req) : State :=
  match s.home.groups.find? (fun g => decide (g.line = r.m.line)) with
  | some g =>
    if joins s g r.m then
      let g1 := { g with reqs := g.reqs ++ [r] }
      if cfg s 0x220003 ≤ g1.reqs.length then
        groupToHome (s.onHome (fun h => { h with groups := eraseFirst h.groups (fun x => decide (x = g)) })) g1.reqs
      else s.onHome (fun h => { h with groups := updFirst h.groups (fun x => decide (x = g)) (fun _ => g1) })
    else openGroup (closeGroup s g) r
  | none => openGroup s r

/-- `MERGE_HOLD_EXPIRY`: the open group of a line has been held long enough (R47). -/
def mergeHoldExpiry (s : State) (line : Nat) : State :=
  match s.home.groups.find? (fun g => decide (g.line = line)) with
  | some g => closeGroup (reachTime s g.closeAt) g
  | none => s

/-- Admit a request at the home (R36, R47, R67): it takes its admission number. -/
def admitAtHome (s : State) (r0 : Req) : State :=
  let r := { r0 with admNo := s.home.admits, served := r0.m.line }
  let s1 := s.onHome (fun h => { h with admits := h.admits + 1 })
  if (r.m.opcode = opWbDirty ∨ r.m.opcode = opEvictClean) ∧ (apertureAt s1 r.m.line).isSome then groupToHome s1 [r]
  else if r.m.opcode = opWbDirty ∨ r.m.opcode = opEvictClean then hostLineAtHome (closeLine s1 r.m.line) r
  else mergeLookup s1 r

/-! ## Limits of the home (R68) -/

/-- Requests that wait on blocked lines. -/
def waitingReqs (s : State) : Nat := (s.home.waiters.map (fun w => w.2.reqs.length)).sum

/-- Whether the home can admit no further request to a line: 32,768 lines are blocked, or 8,192 of its quadrant, or 65,536
requests wait (R68). -/
def homeFull (s : State) (line : Nat) : Bool :=
  decide (65536 ≤ waitingReqs s) ||
  (!s.home.txns.has line && (decide (32768 ≤ s.home.txns.length) ||
    decide (8192 ≤ (s.home.txns.filter (fun p => decide (quadrantOf s (lineComp s p.1) (tileOf p.1) =
      quadrantOf s (lineComp s line) (tileOf line)))).length)))

/-! ## Event-ring records (R237) -/

/-- The line of a composition's ring that a sequence number is written to. -/
def ringSlot (k : Comp) (seq : Nat) : Nat := k.ringLine + seq / 4 % 2 ^ k.ringLog2

/-- The home's `WR_NC` of one event record, with a 32-byte mask (R237). -/
def ringReq (s : State) (k : Comp) (c : Nat) (e : EventRec) : Req :=
  let line := ringSlot k e.seq
  let m : Msg :=
    { opcode := opWrNc, tc := cfg s 0x241003, ext := 4, peer := ownAgent s agentHome, composition := c, line := line,
      body := (2 ^ 32 - 1) * 2 ^ (32 * (e.seq % 4)), data := natSlots (e.toNat * 2 ^ (256 * (e.seq % 4))) 4 }
  { m := m, admNo := s.home.admits, served := line, desc := hostDescNat s line, limit := dirtyLimit s c, ring := true }

/-- Write one event record to a composition's ring: a write of the home like any other (R68, R73, R237). A record that the
reset of its composition posted waits until the ring's extent is `ACTIVE` again (R22; DEDUCED, log entry 106). -/
def writeRing (s : State) (x : Nat × EventRec) : State :=
  let k := compOf s x.1
  if ringReady s x.1 k then
    let r := ringReq s k x.1 x.2
    let s1 := s.onHome (fun h => { h with admits := h.admits + 1 })
    enqueue (closeLine s1 r.m.line) r.m.line (.ops [r])
  else if k.state = 2 then s.onHome (fun h => { h with ringQ := h.ringQ ++ [x] })
  else addErr s 0x2A3106 0 1

/-- Write every queued ring record, oldest first. -/
def flushRings (s : State) : State :=
  s.home.ringQ.foldl writeRing (s.onHome (fun h => { h with ringQ := [] }))

end Sys2Proof.Machine
end

