-- ==== Sys2Proof/Machine/Walks.lean ====
section
/-! DEFINITION. Extent lifecycle (R18-R25), filter walks (R78), host loss (R79-R83), fatal compositions (R86, R87), and
handoff rows for hosts that are lost or leave (R250, R252). -/

namespace Sys2Proof.Machine

/-! ## Ending requests -/

/-- Answer a request with a status and detail, as the home. -/
def endReq (st d : Nat) (s : State) (r : Req) : State :=
  let s1 := if r.m.opcode = opAtomic then
      (match ledgerFind s (ledgerHost r.m) r.m.ledgerId with
       | some e => if e.state = 0 then
           (if st = stPoison then ledgerDone s r.m stPoison 0 false else delLedger s (ledgerHost r.m) r.m.ledgerId) else s
       | none => s) else s
  answerReq s1 none r (homeResp s1 r st d 0)

/-- The lines with a transaction or waiting work. -/
def busyLines (s : State) (p : Nat → Bool) : List Nat :=
  ((s.home.txns.keys ++ s.home.waiters.map Prod.fst).filter p).dedup

/-- The requests of a transaction: those it serves, and write-backs that took part in it (R67). -/
def Txn.held (t : Txn) : List Req :=
  t.work.reqs ++ ((t.resps.map Prod.fst).filter (fun r => !t.work.reqs.any (fun q => decide (q.admNo = r.admNo))))

/-- Complete every admitted request that satisfies p with a status (R21, R86). A transaction left without requests
ends; responses it had already built for other requests are sent. -/
def endAll (s : State) (p : Req → Bool) (st d : Nat) : State :=
  let ws := (s.home.waiters.map (fun w => w.2.reqs.filter p)).flatten
  let strip : Work → Work := fun w => match w with | .ops rs => .ops (rs.filter (fun r => !p r)) | x => x
  let live : Work → Bool := fun w => match w with | .ops rs => !rs.isEmpty | _ => true
  let s1 := s.onHome (fun h => { h with waiters := (h.waiters.map (fun w => (w.1, strip w.2))).filter (fun w => live w.2) })
  let s2 := ws.foldl (endReq st d) s1
  (s2.home.txns.filter (fun x => x.2.held.any p)).foldl (fun s x =>
    let (line, t) := x
    let rs := t.held.filter p
    let s' := rs.foldl (endReq st d) s
    let s'' := (t.resps.filter (fun q => !p q.1)).foldl (fun s q => answerReq s none q.1 q.2) s'
    let s3 := s''.onTwin (fun w => { w with held := w.held.filter (fun q => decide (q.2 ≠ HeldItem.txn line)) })
    let s4 := s3.onTier (fun q => { q with recover := q.recover.del line })
    if live (strip t.work) then putTxn s4 line { t with work := strip t.work, resps := [] } else unblock s4 line) s2

/-! ## Extents (R21) -/

/-- Change an extent's state: the generation rises by one; the change is mirrored. -/
def changeExt (s : State) (id : Nat) (f : Extent → Extent) : State :=
  let e := extOf s id
  let e1 := f e
  let e2 := { e1 with generation := inc32 e.generation }
  let s1 := setExt s id e2
  mirrorOnly s1 [recObject 0x211002 id 32 e2.toNat e.comp]

/-- Post an extent event with its ID and generation. -/
def extEvent (s : State) (id code : Nat) (more : List (Nat × Nat)) (both : Bool) : State :=
  let e := extOf s id
  let p := pay ([(2, id), (4, e.generation)] ++ more)
  if both then postBoth s e.comp code p else post s code (some e.comp) p

/-- Whether two extents overlap (R18). -/
def Extent.overlaps (a b : Extent) : Bool := decide (a.base < b.base + b.length) && decide (b.base < a.base + a.length)

/-- Result codes of object 2110.04. -/
abbrev xsDone : Nat := 0
abbrev xsBusy : Nat := 1
abbrev xsOverlap : Nat := 2
abbrev xsBadState : Nat := 3
abbrev xsBadDescriptor : Nat := 4
abbrev xsNoCapacity : Nat := 5

/-- The checks of a `BIND` (R18, R19, R21, R92, R95). -/
def bindCheck (s : State) (id v : Nat) : Nat :=
  let e := Extent.ofNat v
  if (extOf s id).state ≠ 0 then xsBadState
  else if e.backing > 1 ∨ e.length = 0 ∨ e.base + e.length > 2 ^ 31 then xsBadDescriptor
  else if e.backing = 0 ∧ (!stripeValid (stripeHeader s e.stripeSet) ∨ e.base < stripeOrigin (stripeHeader s e.stripeSet)) then
    xsBadDescriptor
  else if s.home.exts.any (fun p => decide (p.2.state ≠ 0) && p.2.overlaps e) then xsOverlap
  else if e.backing = 1 ∧ quotaSum s + fastTiles s + e.length > tierSlots then xsNoCapacity
  else xsDone

/-- `BIND` (R21 first row): the staged descriptor becomes the extent, ACTIVE. -/
def bindExt (s : State) (id v : Nat) : State :=
  let e := Extent.ofNat v
  let s1 := changeExt s id (fun old => { e with
    state := 1, generation := old.generation, drainAt := none, marked := 0, slotMask := getObj s 0x251005 e.comp })
  let s2 := post s1 0x0A10 (some e.comp) (pay [(2, id), (4, (extOf s1 id).generation)])
  s2

/-- Drain timeout of an extent in ns (R21, object 2111.01). -/
def drainNs (s : State) (e : Extent) : Nat := 1000 * (if e.drainUs = 0 then cfg s 0x211101 else e.drainUs)

/-- The lines with a filter entry that satisfy p, in ascending order of their sets, as a walk reads them (R78). -/
def entryLines (s : State) (p : Nat → FEntry → Bool) : List Nat :=
  ((s.home.filter.filter (fun x => p x.1 x.2)).foldl
    (fun (m : SMap Nat) x => m.put (filterSet x.1 * 2 ^ 40 + x.1) x.1) []).map Prod.snd

/-- A walk acts on the entries of an extent: their holders are snooped (R78). -/
def walkRevoke (s : State) (id : Nat) : State :=
  (entryLines s (fun l _ => (extOf s id).covers (tileOf l))).foldl (fun s l => enqueue s l .inval) s

/-- Start a walk, or join the running one (R78). -/
def joinWalk (s : State) (c : WalkCause) : State := s.onHome (fun h => { h with walk := h.walk ++ [c] })

/-- `REVOKE` (R21): drain starts, holders are snooped. -/
def revokeExt (s : State) (id : Nat) : State :=
  let t := s.now + drainNs s (extOf s id)
  let s1 := changeExt s id (fun e => { e with state := 2, drainAt := some t })
  let s2 := extEvent s1 id 0x0A11 [] false
  walkRevoke (joinWalk s2 (.revoke id)) id

/-- Whether a region uses an extent as face, current or staging extent (R119). -/
def regionUses (s : State) (id : Nat) : Bool :=
  let e := extOf s id
  (regions s).any (fun p =>
    decide (regCurrent p.2 = id) || (List.range 8).any (fun i => slotValid (regSlot p.2 i) && decide (slotExtent (regSlot p.2 i) = id)) ||
    (decide (e.base ≤ regFace p.2) && decide (regFace p.2 + regLength p.2 ≤ e.base + e.length)))

/-- Whether `REVOKE` is refused (R21, R119, R245). -/
def revokeRefused (s : State) (id : Nat) : Bool :=
  let e := extOf s id
  decide (e.state ≠ 1) || regionUses s id ||
  (isArena s id e && s.comps.recs.any (fun p => decide (p.2.state ≠ 0) && decide (p.2.comp = e.comp)))

/-- Every tile of the extent is marked, or none is left: its last state (R21). -/
def extMarked (s : State) (id : Nat) : State :=
  let e := extOf s id
  if e.marked < e.length then s
  else if e.state = 4 then extEvent (changeExt s id (fun x => { x with state := 0, marked := 0 })) id 0x0A13 [] false
  else if e.state = 5 then extEvent (changeExt s id (fun x => { x with state := 1, marked := 0 })) id 0x0A14 [(1, 1)] false
  else s

/-- `RESTORE` (R21). -/
def restoreExt (s : State) (id : Nat) : State :=
  extEvent (changeExt s id (fun e => { e with state := 1 })) id 0x0A14 [(1, 0)] false

/-- `RELEASE` (R21): every tile is to be marked zero-valued under the scrub budget. -/
def releaseExt (s : State) (id : Nat) : State := changeExt s id (fun e => { e with state := 4, marked := 0 })

/-- Whether work or a filter entry of an extent is outstanding, or its walk still runs (R21, R23, R78). -/
def drainPending (s : State) (id : Nat) : Bool :=
  let e := extOf s id
  s.home.walk.contains (.revoke id) ||
  !(busyLines s (fun l => e.covers (tileOf l))).isEmpty || !(entryLines s (fun l _ => e.covers (tileOf l))).isEmpty

/-- `DRAIN_COMPLETE` (R21): the last admitted request is done and every snooped line is back. -/
def drainComplete (s : State) (id : Nat) : State :=
  let e := extOf s id
  if e.state = 2 ∧ !drainPending s id then
    extEvent (changeExt s id (fun x => { x with state := 3, drainAt := none })) id 0x0A12 [(4, 0)] true
  else s

/-- Whether a request is writing its line. -/
def Req.writing (r : Req) : Bool := r.m.isWrite || r.m.opcode == opAtomic || r.m.opcode == opWbDirty

/-- Lines that a drain's end poisons (R21): an outstanding request is writing them, or a host still holds them modified. -/
def stragglers (s : State) (e : Extent) : List Nat :=
  let inE : Nat → Bool := fun l => e.covers (tileOf l)
  let tx := (s.home.txns.filter (fun p => inE p.1 && p.2.held.any Req.writing)).map Prod.fst
  let wt := (s.home.waiters.filter (fun p => inE p.1 && p.2.reqs.any Req.writing)).map Prod.fst
  let ow := entryLines s (fun l x => inE l && decide (x.mode = 0))
  (tx ++ wt ++ ow).dedup

/-- The end of a drain by its timer (R21): stragglers poisoned, outstanding requests completed with `POISON`, entries
removed. The number of lines poisoned is returned. -/
def endDrain (s : State) (id : Nat) : State × Nat :=
  let e := extOf s id
  let ls := stragglers s e
  let s1 := ls.foldl (fun s l => poisonAnywhere s l 0) s
  let s2 := mirrorOnly s1 (ls.map (recLine s1))
  let inE : Req → Bool := fun r => e.covers (tileOf r.m.line)
  let gone := entryLines s2 (fun l _ => e.covers (tileOf l))
  let isOps : Work → Bool := fun w => match w with | .ops _ => true | _ => false
  let s3 := endAll (s2.onHome (fun h => { h with
    waiters := h.waiters.filter (fun p => isOps p.2 || !e.covers (tileOf p.1))
    filter := h.filter.filter (fun p => !e.covers (tileOf p.1)) })) inE stPoison 0
  let inv := s3.home.txns.filter (fun p => e.covers (tileOf p.1))
  let s4 := s3.onHome (fun h => { h with
    timedOut := h.timedOut ++ (inv.map (fun p => p.2.snoops.map (fun x => (p.1, x.host, x.tag)))).flatten
    txns := h.txns.filter (fun p => !e.covers (tileOf p.1))
    waiters := h.waiters.filter (fun p => !e.covers (tileOf p.1))
    reserved := h.reserved.filter (fun l => !e.covers (tileOf l)) })
  (gone.foldl resumeWay (mirrorOnly s4 (gone.map (recFilter s4))), ls.length)

/-- `DRAIN_TIMER_EXPIRY` (R21). -/
def drainTimerExpiry (s : State) (id : Nat) : State :=
  let e := extOf s id
  match e.state, e.drainAt with
  | 2, some t =>
    let (s1, n) := endDrain (reachTime s t) id
    let s2 := addErr s1 0x211102 0 n
    extEvent (changeExt s2 id (fun x => { x with state := 3, drainAt := none })) id 0x0A12 [(4, n)] true
  | _, _ => s

/-- `TILE_ZERO_MARK`: one tile of a releasing or resetting extent is marked, one stack slot of the scrub budget
(R21, R106). -/
def tileZeroMark (s : State) (id : Nat) : State :=
  let e := extOf s id
  if (e.state = 4 ∨ e.state = 5) ∧ e.marked < e.length then
    let tile := e.base + e.marked
    let q := quadrantOf s e.comp tile
    if hasBudget s 0 q 2 1 then
      let s1 := markZero (charge s 0 q 2 1) tile
      extMarked (setExt s1 id { e with marked := e.marked + 1 }) id
    else s
  else s

/-- A composition reset reaches one extent (R21 reset rows). A draining extent ends its drain, posts 0x0A12 with the generation
it still has, and changes its state once (DEDUCED, log entry 52); the record for the composition's ring is kept though the
ring's extent may be reset as well (R22). -/
def resetExt (s : State) (id : Nat) : State :=
  let e := extOf s id
  if e.state = 1 then
    let (s1, _) := endDrain s id
    changeExt s1 id (fun x => { x with state := 5, marked := 0 })
  else if e.state = 2 then
    let (s1, n) := endDrain s id
    let s2 := addErr s1 0x211102 0 n
    let s3 := extEvent (setExt s2 id { extOf s2 id with drainAt := none }) id 0x0A12 [(4, n)] false
    let s3 := queueRing s3 e.comp 0x0A12 (pay [(2, id), (4, (extOf s2 id).generation), (4, n)]) (compOf s3 e.comp).ringValid
    changeExt s3 id (fun x => { x with state := 5, marked := 0 })
  else if e.state = 3 then changeExt s id (fun x => { x with state := 5, marked := 0 })
  else s

/-! ## Fatal compositions (R86, R87, R330) -/

/-- Mirror records of a composition: descriptor and state. -/
def recComp (s : State) (c : Nat) : List MRec :=
  [recObject 0x2A1002 c 32 (compOf s c).toNat c, recObject 0x2A1005 c 1 (compOf s c).state c]

/-- A composition enters the fatal state: its outstanding requests end with `FATAL`, 0x0421 is posted, and `event_vector`
goes to every member that is not lost (R86, R228). Cause: 0 pool loss, 1 pair loss. -/
def makeFatal (s : State) (c cause : Nat) : State :=
  let k := compOf s c
  if k.state = 1 then
    let s0 := setComp s c { k with state := 3 }
    let s1 := mirrorOnly s0 (recComp s0 c)
    let s2 := endAll s1 (fun r => decide (r.m.composition = c)) stFatal dCompositionFatal
    triggerHosts (postBoth s2 c 0x0421 (pay [(1, cause)])) c k.vector (liveMembers s2 c)
  else s

/-! ## Handoff rows for hosts (R250, R252) -/

/-- One change of a record outside a request (R250): generation, time, last function 0; mirrored. -/
def changeRec (s : State) (i : Nat) (f : Rec → Rec) : State :=
  let r := recOf s i
  let r1 := f r
  let r2 := { r1 with generation := inc32 r.generation, stateAt := usNow s, lastFunction := 0 }
  let s1 := setRec s i r2
  mirrorOnly s1 [recRecord s1 i]

/-- A host's loss or departure reaches one record of a composition (R250). -/
def hostGoneRec (host : Nat) (s : State) (i : Nat) : State :=
  let r := recOf s i
  let prod := decide (r.producer = host) && decide (r.state ≠ 0)
  let cons := decide (r.consumer = host) && decide (r.state = 4)
  let s1 :=
    if prod then
      (if r.state = 1 then
         let s' := changeRec s i (fun x => { x with producerLost := true, ownerValid := false, state := 6 })
         postBoth (addErr s' 0x2A3102 0 1) r.comp 0x0A20 (pay [(4, i), (4, (recOf s' i).generation), (1, 0)])
       else if r.state = 2 ∨ r.state = 3 then
         let s' := changeRec s i (fun x => { x with producerLost := true, ownerValid := false, state := 3, offerEnd := none })
         postBoth s' r.comp 0x0A22 (pay [(4, i), (4, (recOf s' i).generation), (2, r.target)])
       else if r.state = 4 ∨ r.state = 5 then changeRec s i (fun x => { x with producerLost := true })
       else s)
    else s
  if cons then
    let s' := changeRec s1 i (fun x => { x with consumerLost := true, ownerValid := false, state := 6 })
    postBoth (addErr s' 0x2A3102 0 1) r.comp 0x0A20 (pay [(4, i), (4, (recOf s' i).generation), (1, 1)])
  else s1

/-- The records of a composition are walked for a host that is gone (R252). -/
def hostGoneRecs (s : State) (c host : Nat) : State :=
  ((s.comps.recs.filter (fun p => decide (p.2.comp = c) && decide (p.2.state ≠ 0))).map Prod.fst).foldl (hostGoneRec host) s

/-! ## Host loss (R81) -/

/-- A lost host's answer to every snoop outstanding to it counts as 0, and a stash offer as declined (R69, R81). An owner
that is lost while snooped leaves the line poisoned. -/
def lossSnoop (host : Nat) (s : State) (line : Nat) : State :=
  match s.home.txns.get? line with
  | some t =>
    if t.state = .stashing then
      (if t.targets.contains host then stashAnswered s line host false else s)
    else if t.state = .snooping ∧ t.snoops.any (fun x => decide (x.host = host)) then
      let owner := match s.home.filter.get? line with | some e => decide (e.mode = 0) && e.ptrs.contains host | none => false
      if owner then
        let s1 := (addErr (setEntry (poisonAnywhere s line 0) line none) 0x242006 0 1).onHome
          (fun x => { x with walkPoisoned := x.walkPoisoned.upd host (fun n => n + 1) })
        snoopAnswered s1 line host { t with poisonDetail := some 0, entryChanged := true } none
      else snoopAnswered s line host t none
    else s
  | none => s

/-- The walk's action on one entry for a lost host (R81 step 4): the state and lines poisoned. -/
def lossEntry (host : Nat) (acc : State × Nat) (line : Nat) : State × Nat :=
  let s := acc.1
  match s.home.filter.get? line with
  | some e =>
    if e.mode = 0 ∧ e.ptrs.contains host then
      let s1 := setEntry (poisonAnywhere s line 0) line none
      (resumeWay (addErr (mirrorOnly s1 [recLine s1 line, recFilter s1 line]) 0x242006 0 1) line, acc.2 + 1)
    else if e.mode = 1 ∧ e.ptrs.contains host then
      let s1 := dropPointer s line host
      (resumeWay (mirrorOnly s1 [recFilter s1 line]) line, acc.2)
    else acc
  | none => acc

/-- The compositions that a host is a member of. -/
def compsOfHost (s : State) (host : Nat) : List Nat :=
  (s.comps.comps.filter (fun p => p.2.members.has host)).map Prod.fst

/-- A home learns of a host's loss (R81). Cause: 0 ports down, 1 command, 2 notice. `extra` breaks reduce slots and closes
walk contexts of one composition. -/
def hostLost (extra : State → Nat → Nat → State) (s : State) (host cause : Nat) : State :=
  if isLost s host then s
  else
    let s1 := s.onHome (fun h => { h with
      lost := h.lost ++ [host], hostDown := h.hostDown.del host, walkPoisoned := h.walkPoisoned.put host 0 })
    let s2 := s1.home.txns.keys.foldl (lossSnoop host) s1
    let (s3, n) := (entryLines s2 (fun _ _ => true)).foldl (lossEntry host) (s2, 0)
    let s4 := dropEntries s3 (fun h _ => decide (h = host))
    let s5 := s4.onHome (fun h => { h with
      floors := h.floors.del host
      walkPoisoned := h.walkPoisoned.upd host (fun k => k + n)
      unconfirmed := h.unconfirmed.filter (fun p => decide (p.2 ≠ host)) })
    let s6 := (compsOfHost s5 host).foldl (fun s c => hostGoneRecs (extra s c host) c host) s5
    joinWalk s6 (.loss host cause)

/-! ## The end of a walk (R78) -/

/-- One cause of the walk reports its end. -/
def walkReport (s : State) (c : WalkCause) : State :=
  match c with
  | .revoke _ => s
  | .loss host cause =>
    let n := s.home.walkPoisoned.getD host 0
    let p := pay [(2, host), (1, cause), (4, n)]
    let s1 := post (s.onHome (fun h => { h with walkPoisoned := h.walkPoisoned.del host })) 0x0410 none p
    (compsOfHost s1 host).foldl (fun s k => postComp s k 0x0410 p) s1
  | .depart c h => s.onHome (fun x => { x with departures := x.departures.map (fun d =>
      if d.comp = c ∧ d.host = h then { d with walked := true } else d) })
  | .reset c => setComp s c { compOf s c with waitWalk := false }

/-- `FILTER_WALK_COMPLETE`: every set has been read once since the last joining commit point; the walk's events are posted
(R78). -/
def walkComplete (s : State) : State :=
  let cs := s.home.walk
  settleDepartures (cs.foldl walkReport (s.onHome (fun h => { h with walk := [] })))

/-- `READMIT` (R83): the host is no longer lost here. -/
def readmitHost (s : State) (host : Nat) : State :=
  if isLost s host then
    post (s.onHome (fun h => { h with lost := h.lost.filter (fun x => decide (x ≠ host)) })) 0x0411 none (pay [(2, host)])
  else s

end Sys2Proof.Machine
end

