-- ==== Sys2Proof/Machine/Access.lean ====
section
/-! DEFINITION. Requester classes, selectors, status copies and staged values of the dictionary (R29, R353, R356, R359,
R361). -/

namespace Sys2Proof.Machine

/-- The outcome of an object write: its access error (R365) and the state after it. -/
abbrev Acc := Nat × State

/-- Requester class: 0 steward, 1 composition owner, 2 member host, 3 CAN (R229, R356). -/
def clsOf (s : State) (w : Requester) : Nat :=
  match w with
  | .steward => 0
  | .can => 3
  | .inband p c => if (compOf s c).state ≠ 0 ∧ (compOf s c).owner = peerHost p then 1 else 2

/-- The selectors that name a composition; an in-band request takes the composition of its header instead (R361). -/
def compSelectors : List Nat := [0x211201, 0x244001, 0x251001, 0x254001, 0x2A1001, 0x2E3001]

/-- The composition of an in-band requester. -/
def Requester.comp : Requester → Nat
  | .inband _ c => c
  | _ => 0

/-- Whether a requester is in-band. -/
def Requester.isInband : Requester → Bool
  | .inband _ _ => true
  | _ => false

/-- A selector's value for a requester (R29, R361). -/
def selVal (s : State) (w : Requester) (o : Nat) : Nat :=
  if w.isInband && compSelectors.contains o then w.comp
  else s.dict.sel.getD (whoKey w o) (objDefault o 0)

/-- Store a requester's selector. -/
def setSel (s : State) (w : Requester) (o v : Nat) : State :=
  s.onDict (fun d => { d with sel := d.sel.setD (whoKey w o) (objDefault o 0) v })

/-- Selector values packed for an object (R449). -/
def packSels (s : State) (w : Requester) : List Nat → Nat
  | [] => 0
  | o :: r =>
    let width := match objRow o with | some x => 8 * x.bytes | none => 8
    selVal s w o % 2 ^ width + 2 ^ width * packSels s w r

/-- The selectors' packing that a requester's access to an object addresses. -/
def instOf (s : State) (w : Requester) (r : ObjRow) : Nat := packSels s w r.sels

/-- A requester's copy of a status object (R353). -/
def statusOf (s : State) (w : Requester) (o : Nat) : Nat := s.dict.status.getD (whoKey w o) 0

/-- Set a requester's copy of a status object. -/
def setStatus (s : State) (w : Requester) (o v : Nat) : State :=
  s.onDict (fun d => { d with status := d.status.setD (whoKey w o) 0 v })

/-- A requester's staged value (R359). -/
def stagedOf (s : State) (w : Requester) (o : Nat) : Nat := s.dict.staged.getD (whoKey w o) 0

/-- Store a requester's staged value. -/
def setStaged (s : State) (w : Requester) (o v : Nat) : State :=
  s.onDict (fun d => { d with staged := d.staged.setD (whoKey w o) 0 v })

/-- A command's outcome in its status object: the access is `OK` (R353). -/
def withStatus (s : State) (w : Requester) (o v : Nat) : Acc := (aeOk, setStatus s w o v)

/-- Mirror an object of the mirrored set after a write (R307). -/
def mirrorObject (s : State) (o i bytes comp : Nat) : State := mirrorOnly s [recObject o i bytes (getObj s o i) comp]

end Sys2Proof.Machine
end

