-- ==== Sys2Proof/Machine/Trays.lean ====
section
/-! DEFINITION. Tray answers and losses (R93, R97-R100), write-backs and flushes (R104-R106), stack recovery and patrol
(R126, R128). -/

namespace Sys2Proof.Machine

/-- A tray read returned a line of a fill (R93): stored, unless it was written since. -/
def fillArrived (s : State) (line : Nat) (d : LineBits) (poison : Bool) : State :=
  match tileAt s (line / 512) with
  | some t =>
    let s1 := if bit t.missing (line % 512) then
        (let s' := notMissing (storeLine s line (unstackLine s line d)) line
         if poison then setPoison s' line 0 else s') else s
    tileFilled (blockArrived s1 line) (line / 512)
  | none => s

/-- The requests waiting for a line that no read will bring are answered `POISON`, `POOL_LOST` (R98). A transaction that
stores the whole line waits for no read (R93). -/
def failWaiting (s : State) (line : Nat) : State :=
  let ids := ((s.home.txns.filter (fun p => decide (p.2.state = .serving) && decide (accessLine s p.1 p.2.work = line) &&
    !(storesWhole p.2 && decide (p.1 = line)))).map
    (fun p => p.2.work.reqs.map Req.admNo)).flatten
  endAll s (fun r => ids.contains r.admNo) stPoison dPoolLost

/-! ## Recovery of uncorrectable lines (R126) -/

/-- A recovery ends: with the line's data, or without, and the line is then poisoned (R126). -/
def recoverDone (s : State) (line : Nat) (ok : Bool) (d : LineBits) : State :=
  match s.tier.recover.get? line with
  | none => s
  | some k =>
    let s0 := s.onTier (fun t => { t with recover := t.recover.del line })
    let s1 := if ok then uncorrectable (storeLine s0 line d) line k
      else uncorrectable (poisonLine s0 line 0) line 2
    let s2 := mirrorOnly s1 (if ok then [] else [recLine s1 line])
    s2.onHome (fun h => { h with txns := h.txns.mapV (fun l t =>
      if accessLine s l t.work = line ∧ t.state = .serving then
        { t with tierDone := true, poisonDetail := if ok then t.poisonDetail else some dUncorrectable } else t) })

/-- Lines of the metadata reservation on one stack: 2 GiB (R89). -/
abbrev reservationLines : Nat := 2 ^ 24

/-- Patrol's number of the first line of the metadata reservation: above the span's lines. Its lines follow stack by stack,
their channels in turn (DESIGN CHOICE, log entry 109: the spec gives them no address). -/
abbrev reservationBase : Nat := 2 ^ 40

/-- Whether a patrol number is one of the metadata reservation's. -/
def inReservation (line : Nat) : Bool := decide (line / reservationBase ≠ 0)

/-- Patrol reads a line of the metadata reservation (R125, R126, R128): a corrected line is counted; an uncorrectable one has
no copy on a tray or in the mirrored set, and what it held is not said (log entry 109). -/
def scrubReservation (s : State) (n errs : Nat) : State :=
  let st := n / reservationLines
  let ch := n % 16
  if errs = 0 then s
  else if errs ≤ 4 then addScore (addScore (addErr s 0x260301 0 1) 4 st 0 1) 5 (st * 16 + ch) 0 1
  else
    let (k, s1) := if errs ≤ 11 then (0, s) else drawFree s
    if errs ≤ 11 ∨ Config.detectsBeyond11 k then
      post (addScore (addScore (addErr s1 0x260302 0 1) 4 st 1 1) 5 (st * 16 + ch) 1 1) 0x0620 none
        (pay [(1, st), (1, ch), (5, n), (1, 2)])
    else s1

/-- The running patrol pass: the next one begins when object 2603.03, as the pass took it at its start, has passed since its
start (R128). -/
def patrolPass (s : State) : Nat × Nat × List Nat :=
  let (start, secs, read) := s.tier.patrol
  if start + 1000000000 * secs ≤ s.now then (s.now, cfg s 0x260303, []) else (start, secs, read)

/-- Whether patrol can read a line now: one of the reservation, or one that the fast tier holds. -/
def patrolled (s : State) (line : Nat) : Bool :=
  if inReservation line then decide (line / reservationBase = 1) && decide (line % reservationBase / reservationLines < 16)
  else
    !s.tier.recover.has line && (match tileAt s (tileOf line) with
      | some t => !bit t.missing (line % 512)
      | none => match extentAt s line with | some (_, e) => e.isFast | none => false)

/-- The quadrant whose stack holds a line that patrol reads. -/
def patrolQuadrant (s : State) (line : Nat) : Nat :=
  if inReservation line then line % reservationBase / reservationLines / 4 else stackOf s line / 4

/-- `PATROL_SCRUB`: patrol reads one line of the fast tier or of the metadata reservation, once in each pass, under the scrub
budget (R128). -/
def patrolScrub (s : State) (line errs : Nat) : State :=
  let (start, secs, read) := patrolPass s
  let q := patrolQuadrant s line
  if patrolled s line && !read.contains line && hasBudget s 0 q 2 1 then
    let s1 := (charge s 0 q 2 1).onTier (fun t => { t with patrol := (start, secs, line :: read) })
    if inReservation line then scrubReservation s1 (line % reservationBase) errs else (stackRead s1 line errs).1
  else s

/-! ## Write-backs -/

/-- A tile whose eviction has no write outstanding leaves `EVICTING` (R93); a slot that it frees serves poisoned lines that
wait for one (R101). -/
def evictionEnd (s : State) (tile : Nat) : State :=
  match tileAt s tile with
  | some t =>
    if t.state = .evicting ∧ t.writing = 0 then
      (if t.dirty = 0 ∧ !t.failed then owedSlots (evicted s tile) else updTile s tile (fun t => { t with state := .resident, failed := false }))
    else s
  | none => s

/-- A write-back of a flush's line has ended: `ok` says that it was acknowledged. It serves the flush unless it was issued
before the commit point with data that a later write had replaced there (R105). -/
def flushed (s : State) (line : Nat) (ok : Bool) : State :=
  s.onTier (fun t => { t with flushes := t.flushes.mapV (fun _ f =>
    if f.stale.contains line then { f with stale := f.stale.filter (fun l => decide (l ≠ line)) }
    else if ok && f.lines.contains line then
      { f with lines := f.lines.filter (fun l => decide (l ≠ line)), written := f.written + 1 }
    else f) })

/-- A tray acknowledged a write-back (R93, R101). -/
def writtenBack (s : State) (line : Nat) : State :=
  let k := line % 512
  match tileAt s (line / 512) with
  | some t =>
    let again := bit t.rewritten k
    let s1 := updTile s (line / 512) (fun t => { t with
      writing := setBits t.writing k 1 0
      rewritten := setBits t.rewritten k 1 0
      dirty := if again then t.dirty else setBits t.dirty k 1 0 })
    let s2 := addStat (flushed s1 line true) 0x250102 0 1
    evictionEnd (if again then s2 else mirrorOnly s2 [recClean s2 line]) (line / 512)
  | none => flushed s line true

/-- A write-back failed: the line stays dirty (R93). -/
def writeBackFailed (s : State) (line : Nat) : State :=
  let s1 := updTile s (line / 512) (fun t => { t with
    writing := setBits t.writing (line % 512) 1 0
    rewritten := setBits t.rewritten (line % 512) 1 0
    failed := true })
  evictionEnd (flushed s1 line false) (line / 512)

/-- A zero-valued tile's write for a line is acknowledged or has failed (R93); the last one clears the zero map bit. -/
def zeroWritten (s : State) (line : Nat) (ok : Bool) : State :=
  let tile := line / 512
  match tileAt s tile with
  | some t =>
    let k := line % 512
    let s1 := if ok || bit t.dirty k then s else dirtyLine s line
    let s2 := updTile s1 tile (fun t => { t with zeroLeft := setBits t.zeroLeft k 1 0 })
    (match tileAt s2 tile with
     | some t2 =>
       if t.zeroLeft ≠ 0 ∧ t2.zeroLeft = 0 then
         (let s3 := s2.onTier (fun x => { x with zero := x.zero.filter (fun t => decide (t ≠ tile)) })
          mirrorOnly s3 [recTile s3 tile])
       else s2
     | none => s2)
  | none => s

/-! ## Losses (R84-R86, R98, R99, R455, R456) -/

/-- Every member of every valid stripe set: set and index. -/
def allMembers (s : State) : List (Nat × Nat) :=
  (((listed s 0x252002).filter (fun x => stripeValid x.2)).map
    (fun x => (List.range (stripeMembers x.2)).map (fun j => (x.1, j)))).flatten

/-- The members that name a channel. -/
def channelMembers (s : State) (p : Nat) : List (Nat × Nat) :=
  (allMembers s).filter (fun x => decide (memberPort (stripeMember s x.1 x.2) = p))

/-- Set a member's state bits: 0 as derived, 2 `LOST`, 3 `REFILLING` (R456). -/
def markMember (k : Nat) (s : State) (x : Nat × Nat) : State :=
  let i := x.1 + x.2 * 2 ^ 8
  mirrorObject (setObj s 0x252004 i (setBits (getObj s 0x252004 i) 56 2 k)) 0x252004 i 8 0

/-- Whether every channel of a tray is lost. -/
def trayLost (s : State) (tray : Nat) : Bool :=
  (allMembers s).all (fun x => decide (memberTray (stripeMember s x.1 x.2) ≠ tray) || memberState s x.1 x.2 == 2)

/-- The compositions with a `POOL` extent on one of some stripe sets (R84). -/
def affectedComps (s : State) (sets : List Nat) : List Nat :=
  ((s.home.exts.filter (fun p => decide (p.2.state ≠ 0) && decide (p.2.backing = 0) && sets.contains p.2.stripeSet)).map
    (fun p => p.2.comp)).dedup

/-- The loss policy of one affected composition acts (R85, R86, R455). -/
def lossPolicy (tray port : Nat) (s : State) (c : Nat) : State :=
  let st := (compOf s c).state
  if getObj s 0x244002 c = 1 ∧ st = 1 then makeFatal s c 0
  else if getObj s 0x244002 c = 1 ∧ st = 3 then s
  else postBoth s c 0x0420 (pay [(1, tray), (1, port)])

/-- An outstanding request of a lost channel ends. -/
def lostReq (s : State) (r : TrayReq) : State :=
  match r.kind with
  | .fill =>
    (match tileAt s (r.line / 512) with
     | some t => if bit t.missing (r.line % 512) then fillLine s r.line else s
     | none => s)
  | .refetch => recoverDone s r.line false 0
  | .writeback => writeBackFailed s r.line
  | .zero => zeroWritten s r.line false
  | .poison => s

/-- Declare a tray channel lost (R98); a loss that affects a composition is counted in object 2440.03. Cause: 0 port down, 1 failures, 2 command. -/
def declareLost (s : State) (p cause : Nat) : State :=
  let ms := channelMembers s p
  let sets := (ms.map Prod.fst).dedup
  let trays := (ms.map (fun x => memberTray (stripeMember s x.1 x.2))).dedup
  let s1 := ms.foldl (markMember 2) s
  let s2 := if trays.isEmpty then post s1 0x0501 none (pay [(1, 255), (1, p), (1, cause), (4, 0)])
    else trays.foldl (fun s t => post s 0x0501 none (pay [(1, t), (1, p), (1, cause), (4, sets.length)])) s1
  let whole := trays.filter (trayLost s2)
  let s3 := whole.foldl (fun s t => post s 0x0502 none (pay [(1, t)])) s2
  let cs := affectedComps s3 sets
  let s4 := cs.foldl (lossPolicy (trays.headD 255) (if whole.isEmpty then p else 255)) (if cs.isEmpty then s3 else addErr s3 0x244003 0 1)
  let gone := s4.tier.reqs.filter (fun r => decide (r.port = p))
  gone.foldl lostReq (s4.onTier (fun t => { t with
    reqs := t.reqs.filter (fun r => decide (r.port ≠ p))
    fails := t.fails.del p
    down := t.down.del p }))

/-- `TRAY_LOSS_HOLD_EXPIRY`: a tray port has been down for object 2520.05 (R98). -/
def trayLossHold (s : State) (p : Nat) : State :=
  match s.tier.down.get? p with
  | some t =>
    if portRole s p = roleTray ∧ !linkUp s p then declareLost (reachTime s (t + 1000 * cfg s 0x252005)) p 0 else s
  | none => s

/-- The last failure of a request whose channel is not lost (R98). -/
def requestFailed (s : State) (r : TrayReq) : State :=
  let s1 := addErr s 0x252009 0 1
  match r.kind with
  | .fill => failWaiting (readLater s1 r.line) r.line
  | .refetch => recoverDone s1 r.line false 0
  | .writeback => writeBackFailed s1 r.line
  | .zero => zeroWritten s1 r.line false
  | .poison => s1

/-- Forget an outstanding tray request. -/
def dropTrayReq (s : State) (r : TrayReq) : State :=
  s.onTier (fun t => { t with reqs := t.reqs.filter (fun x => decide (x.port ≠ r.port) || decide (x.tag ≠ r.tag)) })

/-- Send a tray request a second time (R98). -/
def retryTray (s : State) (r : TrayReq) : State := trayRequest s r.kind r.line true r.data r.poison

/-- A tray request failed (R98): the channel is declared lost, or the request is retried once, or it has failed. -/
def trayFailed (s : State) (r : TrayReq) : State :=
  let n := s.tier.fails.getD r.port 0 + 1
  let s1 := s.onTier (fun t => { t with fails := t.fails.put r.port n })
  if cfg s 0x252006 ≤ n then lostReq (declareLost s1 r.port 1) r
  else if r.retried then requestFailed s1 r
  else retryTray s1 r

/-- An answer on a tray port (R93, R97, R98). -/
def trayAnswer (s : State) (p : Nat) (m : Msg) : State :=
  match s.tier.reqs.find? (fun r => decide (r.port = p) && decide (r.tag = m.tag)) with
  | none => addErr s 0x220104 0 1
  | some r =>
    let s1 := dropTrayReq s r
    let isRead := decide (r.kind = .fill) || decide (r.kind = .refetch)
    let good := decide (m.status = stOk) && decide (m.opcode = if isRead then opRespData else opResp)
    if good then
      let s2 := s1.onTier (fun t => { t with fails := t.fails.del p })
      match r.kind with
      | .fill => fillArrived s2 r.line m.lineData m.poison
      | .refetch =>
        let s3 := recoverDone s2 r.line true (unstackLine s2 r.line m.lineData)
        if m.poison then setPoison s3 r.line 0 else s3
      | .writeback => writtenBack s2 r.line
      | .zero => zeroWritten s2 r.line true
      | .poison => s2
    else trayFailed s1 r

/-- `TRAY_REQUEST_TIMEOUT`: a tray request is unanswered within object 2520.08 (R98). -/
def trayTimeout (s : State) (p tag : Nat) : State :=
  match s.tier.reqs.find? (fun r => decide (r.port = p) && decide (r.tag = tag)) with
  | some r => let s1 := reachTime s r.deadline; trayFailed (dropTrayReq s1 r) r
  | none => s

/-- `TRAY_READ_REISSUE`: lines not yet arrived whose read failed, or that a prefetch has yet to ask for, are read while the
migration budget lasts (R98, R106); poisoned lines that wait for a slot try again (R101). -/
def trayReissue (s : State) : State :=
  s.tier.reissue.foldl (fun s l =>
    let q := stackOf s l / 4
    let n := match tileAt s (l / 512) with | some t => if t.prefetch = 2 then 0 else 1 | none => 1
    if mayMigrate s q n then
      fillLine ((chargeMigrate s q n).onTier (fun t => { t with reissue := t.reissue.filter (fun x => decide (x ≠ l)) })) l
    else s) (owedSlots s)

/-! ## Commands of object 2520.10 (R98, R100) -/

/-- From now on the time is measured for which a tray port stays down (R98): it carries the role and is not `UP`. -/
def watchTray (s : State) (p : Nat) : State :=
  if portRole s p ≠ roleTray then s.onTier (fun t => { t with down := t.down.del p })
  else if portRole s p = roleTray ∧ !linkUp s p ∧ !s.tier.down.has p then s.onTier (fun t => { t with down := t.down.put p s.now }) else s

/-- `DECLARE_LOST` for the selected member; a member that is `LOST` or `UNUSED` changes nothing. -/
def declareLostCmd (s : State) (w : Requester) : Acc :=
  let set := selVal s w 0x252001
  let j := selVal s w 0x252003
  let st := memberState s set j
  (aeOk, if st = 0 ∨ st = 2 then s else declareLost s (memberPort (stripeMember s set j)) 2)

/-- `REPLACE` for the selected member: a `LOST` member becomes `REFILLING` (R100 step 1). For a member in another state the
rule gives the command no effect; it then ends with the access error `STATE` (DESIGN CHOICE, log entry 110). -/
def replaceCmd (s : State) (w : Requester) : Acc :=
  let set := selVal s w 0x252001
  let j := selVal s w 0x252003
  if memberState s set j = 2 then
    (aeOk, watchTray ((markMember 3 s (set, j)).onTier (fun t => { t with refills := t.refills.del (set + j * 2 ^ 8) }))
      (memberPort (stripeMember s set j)))
  else (aeState, s)

/-- The fabric lines, from a first one on, of non-`FREE` `POOL` extents that a member stores, not dirty in the fast tier, in
rising order (R100 step 2). -/
def refillLines (s : State) (set j first : Nat) : List Nat :=
  let es := (s.home.exts.filter (fun p => decide (p.2.state ≠ 0) && decide (p.2.backing = 0) && decide (p.2.stripeSet = set))).map
    Prod.snd
  ((es.mergeSort (fun a b => decide (a.base ≤ b.base))).map
    (fun e => (List.range (e.length * 512)).filterMap (fun i =>
      let l := e.base * 512 + i
      if first ≤ l && (trayLocation s set l).1 = j && !isDirty s l then some l else none))).flatten

/-- Poisoned lines go to a refilled member while the scrub budget lasts (R100, R106): five crossbar slots each, and no stack
slot. The state, the first line that must wait, and the number written. -/
def poisonFill (s : State) (n : Nat) : List Nat → State × Option Nat × Nat
  | [] => (s, none, n)
  | l :: ls =>
    let q := stackOf s l / 4
    if hasBudget s 1 q 2 5 then poisonFill (trayRequest (charge s 1 q 2 5) .poison l false 0 true) (n + 1) ls
    else (s, some l, n)

/-- The dirty lines that a member stores. -/
def dirtyOn (s : State) (set j : Nat) : List Nat :=
  (s.tier.tiles.map (fun p => (setBitList p.2.dirty 512).filterMap (fun k =>
    let l := p.1 * 512 + k
    if p.2.state ≠ .fast ∧ memberOfLine s l = (set, j) ∧ !bit p.2.writing k then some l else none))).flatten

/-- `REPLACE_FILL_COMPLETE`: the poison fill of a replaced member goes on as far as the scrub budget of the period lasts
(log entry 18); when its last line is sent the member becomes `OK`, 0x0503 is posted and held dirty lines are written back
(R100 steps 2 to 4). -/
def replaceFillComplete (s : State) (set j : Nat) : State :=
  if memberState s set j = 3 then
    let k := set + j * 2 ^ 8
    let (first, done) := s.tier.refills.getD k (0, 0)
    match poisonFill s done (refillLines s set j first) with
    | (s1, some l, n) => s1.onTier (fun t => { t with refills := t.refills.put k (l, n) })
    | (s1, none, n) =>
      let s2 := s1.onTier (fun t => { t with refills := t.refills.del k })
      let s3 := post (markMember 0 s2 (set, j)) 0x0503 none (pay [(1, set), (1, j), (4, n)])
      (dirtyOn s3 set j).foldl writeBack s3
  else s

/-! ## Dirty limits and flushes (R102-R106) -/

/-- The line that is written back next for a composition: of its oldest dirtied tile with a line that can be written. A
tile whose extent is not `ACTIVE` takes part only on behalf of a request that the dirty limit holds (R23). -/
def nextDirty (s : State) (c : Nat) (held : Bool) : Option Nat :=
  let can : Nat → Tile → List Nat := fun tile t => (setBitList t.dirty 512).filterMap (fun k =>
    if !bit t.writing k && !lineLost s (tile * 512 + k) then some (tile * 512 + k) else none)
  let ts := s.tier.tiles.filter (fun p => decide (p.2.comp = c) && decide (p.2.state = .resident) && !p.2.expanded &&
    (held || tileActive s p.1) && !(can p.1 p.2).isEmpty)
  match ts.foldl (fun best p => match best with
      | none => some p
      | some b => if p.2.dirtiedAt < b.2.dirtiedAt then some p else best) none with
  | some (tile, t) => (can tile t).head?
  | none => none

/-- Whether a request of a composition is held at its dirty limit (R103). -/
def holdsRequest (s : State) (c : Nat) : Bool :=
  s.home.txns.any (fun p => decide (p.2.state = .serving) && decide (lineComp s p.1 = c) && limitHolds s p.1 p.2.work)

/-- The compositions with slots. -/
def tierComps (s : State) : List Nat := (s.tier.tiles.map (fun p => p.2.comp)).dedup

/-- Whether a composition's dirty lines exceed its flush threshold (R104). -/
def aboveThreshold (s : State) (c : Nat) : Bool :=
  decide (dirtyLimit s c * getObj s 0x251004 c < dirtyLines s c * 1000)

/-- Whether a composition's dirty lines that no write-back carries yet exceed its flush threshold: then one more line is
written back (R104). A line whose write-back is under way needs no second one. -/
def owesWriteback (s : State) (c : Nat) : Bool :=
  let writing := ((s.tier.tiles.filter (fun p => decide (p.2.comp = c))).map
    (fun p => (setBitList (p.2.writing &&& p.2.dirty) 512).length)).foldl (· + ·) 0
  decide (dirtyLimit s c * getObj s 0x251004 c < (dirtyLines s c - writing) * 1000)

/-- A line of a flush that can be written back. -/
def nextFlush (s : State) : Option Nat :=
  (s.tier.flushes.vals.map Flush.lines).flatten.find? (fun l =>
    match tileAt s (l / 512) with
    | some t => bit t.dirty (l % 512) && !bit t.writing (l % 512) && !lineLost s l
    | none => false)

/-- Write one line back under the migration budget (R106): one stack slot and five crossbar slots. -/
def writeBackCharged (s : State) (line : Nat) : State :=
  let q := match tileAt s (line / 512) with | some t => t.quadrant | none => 0
  if hasBudget s 0 q 1 1 && hasBudget s 1 q 1 5 then writeBack (charge (charge s 0 q 1 1) 1 q 1 5) line else s

/-- The write-back that migrations come after (R106): for a composition that holds a request, which is host traffic and uses
no budget. -/
def heldWriteback (s : State) : Option Nat :=
  (tierComps s).findSome? (fun c => if holdsRequest s c then nextDirty s c true else none)

/-- The migrations' first class (R106): a write-back for a composition at its dirty limit. -/
def limitWriteback (s : State) : Option Nat :=
  (tierComps s).findSome? (fun c => if atDirtyLimit s c && owesWriteback s c then nextDirty s c false else none)

/-- Their last class (R106): a write-back above a flush threshold, then one of a flush (R104, R105). -/
def otherWriteback (s : State) : Option Nat :=
  match (tierComps s).findSome? (fun c => if owesWriteback s c then nextDirty s c false else none) with
  | some l => some l
  | none => nextFlush s

/-- The lines of a composition's `POOL` tiles that some bits of each tile name. -/
def poolLines (s : State) (c : Nat) (f : Tile → Nat) : List Nat :=
  ((s.tier.tiles.filter (fun p => decide (p.2.comp = c) && decide (p.2.state ≠ .fast) && !p.2.expanded)).map
    (fun p => (setBitList (f p.2) 512).map (fun k => p.1 * 512 + k))).flatten

/-- `FLUSH` (R105): the lines dirty at the commit point. A second flush is refused: the write is answered `OK`, and object
2510.09 goes on reading `BUSY` (R353). -/
def flushCmd (s : State) (w : Requester) : Acc :=
  let c := selVal s w 0x251001
  if s.tier.flushes.has c then (aeOk, s)
  else
    (aeOk, s.onTier (fun t => { t with flushes := t.flushes.put c {
      lines := poolLines s c Tile.dirty
      stale := poolLines s c (fun x => x.writing &&& x.rewritten)
      written := 0, held := 0 } }))

/-- `FLUSH_COMPLETE`: every line of a flush is written back, gone, or held by a lost member (R105). -/
def flushComplete (s : State) (c : Nat) : State :=
  match s.tier.flushes.get? c with
  | some f =>
    let left := f.lines.filter (fun l => match tileAt s (l / 512) with
      | some t => bit t.dirty (l % 512)
      | none => false)
    if left.all (lineLost s) then
      post (s.onTier (fun t => { t with flushes := t.flushes.del c })) 0x0511 (some c)
        (pay [(4, f.written), (4, left.length)])
    else s
  | none => s

/-- A write of object 2510.02 (R92). -/
def quotaWrite (s : State) (w : Requester) (v : Nat) : Acc :=
  let c := selVal s w 0x251001
  if v < residentTiles s c ∨ quotaSum s - quotaOf s c + v + fastTiles s > tierSlots then (aeState, s)
  else (aeOk, mirrorObject (setObj s 0x251002 c v) 0x251002 c 4 c)

/-- A write of a stripe set header or member (R96, R456): `BUSY` while an extent names the set. -/
def stripeNamed (s : State) (set : Nat) : Bool :=
  s.home.exts.any (fun p => decide (p.2.state ≠ 0) && decide (p.2.backing = 0) && decide (p.2.stripeSet = set))

/-- A header write; members that it excludes lose their marks (R456). -/
def stripeHeaderWrite (s : State) (w : Requester) (v : Nat) : Acc :=
  let set := selVal s w 0x252001
  if v ≥ 2 ^ 40 ∨ stripeMembers v = 0 ∨ stripeMembers v > 32 then (aeRange, s)
  else if stripeNamed s set then (aeBusy, s)
  else
    let s1 := mirrorObject (setObj s 0x252002 set v) 0x252002 set 8 0
    (aeOk, ((List.range 32).filter (fun j => (!stripeValid v || decide (stripeMembers v ≤ j)) &&
      decide (memberMark (stripeMember s set j) ≠ 0))).foldl (fun s j => markMember 0 s (set, j)) s1)

/-- A member write: its state bits are read-only (R96, R456). -/
def stripeMemberWrite (s : State) (w : Requester) (v : Nat) : Acc :=
  let set := selVal s w 0x252001
  let j := selVal s w 0x252003
  let i := set + j * 2 ^ 8
  if v ≥ 2 ^ 58 ∨ memberTray v = 255 then (aeRange, s)
  else if stripeNamed s set && memberState s set j != 2 then (aeBusy, s)
  else (aeOk, mirrorObject (setObj s 0x252004 i (setBits v 56 2 (memberMark (stripeMember s set j)))) 0x252004 i 8 0)

/-! ## Zero-valued tiles (R93) -/

/-- The next line of a tile that owes the trays a zero write: not already sent. -/
def nextZero (s : State) : Option Nat :=
  s.tier.tiles.findSome? (fun p => (setBitList p.2.zeroLeft 512).findSome? (fun k =>
    let l := p.1 * 512 + k
    if s.tier.reqs.any (fun r => decide (r.kind = .zero) && decide (r.line = l)) then none else some l))

/-- `ZERO_TILE_TRAY_WRITE`: one line of a written zero-valued tile goes to its tray under the scrub budget (R93, R106). -/
def zeroTileWrite (s : State) : State :=
  match nextZero s with
  | some l =>
    if lineLost s l then zeroWritten s l false
    else if hasBudget s 1 (quadrantOf s (lineComp s l) (l / 512)) 2 5 then
      trayRequest (charge s 1 (quadrantOf s (lineComp s l) (l / 512)) 2 5) .zero l false (BitVec.ofNat 1024 (lineNat s l)) (isPoisoned s l)
    else s
  | none => s

/-! ## Decode tables (R133-R135) -/

/-- Whether a descriptor's blocks are `WEIGHT` blocks. -/
def isWeight (d : TileDesc) : Bool := decide (d.codec = 1)

/-- Host requests outstanding that may decode a `WEIGHT` block, and expanding fills, begun up to a number (R134). -/
def decodeRefs (s : State) (before : Nat) : Nat :=
  let hit : TileDesc → Req → Bool := fun d r => r.m.isRead && !fromCore r && decide (r.admNo ≤ before) && isWeight d
  let own : Req → Bool := fun r => hit (TileDesc.ofNat r.desc) r
  let tx := (s.home.txns.vals.map (fun t => (t.work.reqs.filter own).length)).sum
  let wt := (s.home.waiters.map (fun w => (w.2.reqs.filter own).length)).sum
  let gr := (s.home.groups.map (fun g => (g.reqs.filter (fun r => hit (hostDesc s r.served) r)).length)).sum
  let fl := (s.tier.tiles.filter (fun p => decide (p.2.state = .filling) && decide (p.2.since ≤ before) &&
    (match expandDesc s p.2.comp p.1 with | some i => isWeight (tileDescOf s p.2.comp i) | none => false))).length
  tx + wt + gr + fl

/-- `LOAD` (R133, R135): status 1 while the copy runs. The table gives no row for a slot whose copy runs: like one that
holds a table it answers `TABLE_BUSY` to another `LOAD` and `BAD_STATE` to `RETIRE` (DESIGN CHOICE, log entry 111). -/
def tableLoadCmd (s : State) (w : Requester) : Acc :=
  let i := selVal s w 0x260001
  let d := dslot s i
  if d.state ≠ 0 ∨ d.loading.isSome then withStatus s w 0x260004 2
  else if !tableOk (stagedOf s w 0x260002) then withStatus s w 0x260004 3
  else
    let key := whoKey w 0x260004
    let s0 := s.onCodec (fun c => { c with slots := c.slots.mapV (fun _ x => if x.loader = some key then { x with loader := none } else x) })
    let s1 := setDslot s0 i { d with loading := some (stagedOf s w 0x260002), loader := some key }
    withStatus (setStaged s1 w 0x260002 0) w 0x260004 1

/-- `TABLE_LOAD_COMPLETE`: the slot is `LIVE` with its next generation (R133, R135). -/
def tableLoadComplete (s : State) (i : Nat) : State :=
  let d := dslot s i
  match d.loading with
  | some img =>
    let gen := if d.gen = 0xFFFF then 1 else d.gen + 1
    let s1 := setDslot s i { state := 1, gen := gen, image := img, loading := none, before := 0 }
    let s2 := post s1 0x0601 none (pay [(1, i), (2, gen)])
    s2.onDict (fun x => { x with status := x.status.filter (fun p => decide (some p.1 ≠ d.loader) || decide (p.2 ≠ 1)) })
  | none => s

/-- A retiring slot drops its table. -/
def tableEmpty (s : State) (i : Nat) : State :=
  let d := dslot s i
  post (setDslot s i { d with state := 0, image := 0, before := 0 }) 0x0603 none (pay [(1, i), (2, d.gen)])

/-- `RETIRE` (R134, R135); `extra` counts decode-capable tile moves. The commit takes an admission number of its own, so that
what begins after it is told from what began before. -/
def tableRetireCmd (extra : State → Nat → Nat) (s : State) (w : Requester) : Acc :=
  let i := selVal s w 0x260001
  let d := dslot s i
  if d.state ≠ 1 then withStatus s w 0x260004 4
  else
    let n := decodeRefs s s.home.admits + extra s s.home.admits
    let s1 := (post s 0x0602 none (pay [(1, i), (2, d.gen), (4, n)])).onHome (fun h => { h with admits := h.admits + 1 })
    withStatus (if n = 0 then tableEmpty s1 i else setDslot s1 i { d with state := 2, before := s.home.admits }) w 0x260004 0

/-- `TABLE_REFS_ZERO`: no request may use the retiring table any more (R135). -/
def tableRefsZero (extra : State → Nat → Nat) (s : State) (i : Nat) : State :=
  let d := dslot s i
  if d.state = 2 ∧ decodeRefs s d.before + extra s d.before = 0 then tableEmpty s i else s

end Sys2Proof.Machine
end

