-- ==== Sys2Proof/Machine/Windows.lean ====
section
/-! DEFINITION. Windows and prefetch (R106-R112, R213), published regions (R113, R119). -/

namespace Sys2Proof.Machine

/-! ## Window checks (R107) -/

/-- Whether tiles [first, first + n) all lie in extents that satisfy p; `fuel` bounds the extents crossed. -/
def spanOk (s : State) (p : Extent → Bool) : Nat → Nat → Nat → Bool
  | 0, _, n => decide (n = 0)
  | fuel + 1, first, n =>
    if n = 0 then true
    else
      match extentAt s (first * 512) with
      | some (_, e) =>
        p e && (let step := min n (e.base + e.length - first); spanOk s p fuel (first + step) (n - step))
      | none => false

/-- Whether tiles [first, first + n) all lie in `ACTIVE` extents of a composition with the read right (R107). -/
def covered (s : State) (c fuel first n : Nat) : Bool :=
  spanOk s (fun e => decide (e.state = 1) && decide (e.comp = c) && e.canRead) fuel first n

/-- The tiles of [first, first + n) that lie in `POOL` extents. -/
def poolTiles (s : State) : Nat → Nat → Nat → Nat
  | 0, _, _ => 0
  | fuel + 1, first, n =>
    if n = 0 then 0
    else
      match extentAt s (first * 512) with
      | some (_, e) =>
        let step := min n (e.base + e.length - first)
        (if e.isFast then 0 else step) + poolTiles s fuel (first + step) (n - step)
      | none => 0

/-- The number of extents in use, and one. -/
def extFuel (s : State) : Nat := s.home.exts.length + 1

/-- The largest held set of a window at any cursor position, in `POOL` tiles (R107). -/
def largestHeld (s : State) (c v : Nat) : Nat :=
  let sizes := (List.range (winLayers v)).map (fun l =>
    let e := winLayer s c v l
    poolTiles s (extFuel s) (layerFirst e) (layerTiles e))
  (List.range (winLayers v)).foldl (fun m cur => max m (((heldLayers v cur).map (fun l => sizes.getD l 0)).sum)) 0

/-- The status of a window write with `enable` = 1 (R107): 0 done, 1 bad descriptor, 2 no capacity, 3 not entitled. A
table overrun, or a cursor at or above the layer count, is found first, for its layers do not exist (log entry 19). -/
def windowCheck (s : State) (c w v : Nat) : Nat :=
  if winBase v + winLayers v > 65536 ∨ winLayers v ≤ winCursor v then 1
  else if !((List.range (winLayers v)).all (fun l =>
      let e := winLayer s c v l
      covered s c (extFuel s) (layerFirst e) (layerTiles e))) then 3
  else
    let others := ((List.range 16).filter (fun i => decide (i ≠ w) && winEnable (windowOf s c i))).map
      (fun i => largestHeld s c (windowOf s c i))
    if largestHeld s c v + others.sum + 64 > quotaOf s c then 2 else 0

/-- The reserved bits of a window descriptor. -/
def windowReserved (v : Nat) : Bool := decide (bits v 36 4 ≠ 0) || decide (bits v 56 8 ≠ 0) || decide (bits v 96 32 ≠ 0)

/-! ## Held sets -/

/-- The tiles of a window's held set, in prefetch order. -/
def heldTiles (s : State) (c v : Nat) : List Nat :=
  ((heldLayers v (winCursor v)).map (fun l => layerTileList (winLayer s c v l))).flatten

/-- Tiles that left every held set are evicted at once where the window drops behind (R108). -/
def releaseTiles (s : State) (c : Nat) (drop : Bool) (old : List Nat) : State :=
  if !drop then s
  else old.foldl (fun s tile =>
    match tileAt s tile with
    | some t => if evictable s c tile t then evict s tile t else s
    | none => s) s

/-- The tiles of a held set that are not resident. -/
def toFetch (s : State) (c v : Nat) : Nat := ((heldTiles s c v).filter (fun t => !tileResident s t)).length

/-- Store a window descriptor and act on the held set that changed. -/
def putWindow (s : State) (c w v : Nat) : State :=
  let old := windowOf s c w
  let i := c + w * 2 ^ 8
  let now := if winEnable v then heldTiles s c v else []
  let s1 := (mirrorObject (setObj s 0x254003 i v) 0x254003 i 16 c).onTier (fun t => { t with
    skipSeen := t.skipSeen.filter (fun k => decide (k / 2 ^ 31 ≠ c * 16 + w) || now.contains (k % 2 ^ 31)) })
  layerEvents (releaseTiles s1 c (winDrop v) (if winEnable old then heldTiles s c old else [])) c

/-- `WINDOW_DESCRIPTOR_WRITE` (R107, R108, R111). -/
def windowWrite (s : State) (w : Requester) (v0 : Nat) : Acc :=
  let c := selVal s w 0x254001
  let n := selVal s w 0x254002
  let old := windowOf s c n
  if windowReserved v0 then (aeRange, s)
  else
    let adv := if winEnable v0 && !winEnable old then 0 else winAdvances old
    let v := setBits v0 64 32 adv
    let st := if winEnable v then windowCheck s c n v else 0
    if st ≠ 0 then withStatus s w 0x254007 st
    else
      let moved := decide (winBase v ≠ winBase old) || decide (winLayers v ≠ winLayers old) ||
        decide (winCursor v ≠ winCursor old) || decide (winDepth v ≠ winDepth old)
      let s1 := putWindow s c n v
      let s2 := if winEnable v && winEnable old && moved then
          s1.onTier (fun t => { t with repoints := t.repoints.put (c * 16 + n) (toFetch s1 c v) })
        else s1
      withStatus s2 w 0x254007 0

/-- `WINDOW_CURSOR_WRITE` (R110). -/
def cursorWrite (s : State) (w : Requester) (v : Nat) : Acc :=
  let c := selVal s w 0x254001
  let n := selVal s w 0x254002
  let old := windowOf s c n
  if winLayers old ≤ v then (aeRange, s)
  else (aeOk, putWindow s c n (setBits (setBits old 12 12 v) 64 32 (winAdvances old + 1)))

/-- A layer entry write: refused in state where an enabled window uses the entry. -/
def layerWrite (s : State) (w : Requester) (v : Nat) : Acc :=
  let c := selVal s w 0x254001
  let i := selVal s w 0x254005
  let used := (List.range 16).any (fun n =>
    let x := windowOf s c n
    winEnable x && decide (winBase x ≤ i) && decide (i < winBase x + winLayers x))
  if bit v 31 ∨ bits v 56 200 ≠ 0 ∨ layerTiles v = 0 then (aeRange, s)
  else if used then (aeState, s)
  else (aeOk, mirrorObject (setObj s 0x254006 (c + i * 2 ^ 8) v) 0x254006 (c + i * 2 ^ 8) 32 c)

/-- `WINDOW_REPOINT_COMPLETE`: the new held set is resident (R111). For a repoint with tiles to fetch the rule does not say
whether 0x0532 is posted: it is, once they are resident, with their number at the write (DESIGN CHOICE, log entry 114). -/
def repointComplete (s : State) (c w : Nat) : State :=
  match s.tier.repoints.get? (c * 16 + w) with
  | some n =>
    if toFetch s c (windowOf s c w) = 0 then
      post (s.onTier (fun t => { t with repoints := t.repoints.del (c * 16 + w) })) 0x0532 (some c) (pay [(1, w), (4, n)])
    else s
  | none => s

/-! ## Prefetch (R106, R109, R213) -/

/-- Whether the tier engine may start a prefetch fill of a tile: it is absent, not zero-valued, and its extent is an
`ACTIVE` `POOL` extent. -/
def prefetchable (s : State) (tile : Nat) : Bool :=
  (tileAt s tile).isNone && !s.tier.zero.contains tile &&
  (match extentAt s (tile * 512) with | some (_, e) => decide (e.state = 1) && !e.isFast | none => false)

/-- Tiles skipped because their extent is not `ACTIVE` (object 2540.08). -/
def skippedTile (s : State) (tile : Nat) : Bool :=
  match extentAt s (tile * 512) with | some (_, e) => decide (e.state ≠ 1) | none => true

/-- The layers that a composition's enabled windows prefetch, in turn, one layer at a time (R109): window and layer. -/
def prefetchLayers (s : State) (c : Nat) : List (Nat × Nat) :=
  let held := (List.range 16).filterMap (fun w =>
    let v := windowOf s c w
    if winEnable v then some (w, heldLayers v (winCursor v)) else none)
  let depth := (held.map (fun x => x.2.length)).foldl max 0
  ((List.range depth).map (fun i => held.filterMap (fun x => (x.2[i]?).map (fun l => (x.1, l))))).flatten

/-- The compositions with an enabled window. -/
def windowComps (s : State) : List Nat := (((listed s 0x254003).filter (fun p => winEnable p.2)).map (fun p => p.1 % 2 ^ 8)).dedup

/-- Stack slots that a prefetch of a tile charges at its start (R106, R131): those of the 512 lines that an expanding fill
stores; any other fill is charged with each line that it reads. -/
def prefetchSlots (s : State) (c tile : Nat) : Nat :=
  match expandDesc s c tile with
  | some i => if (tileDescOf s c i).codec = 1 then 512 else 0
  | none => 0

/-- Start a fill of one tile under the migration budget (R106): its lines are asked for while the budget lasts. A quota that
is full with nothing evictable skips the tile; a dirty victim is written back first (R93). -/
def prefetchTile (s : State) (c tile : Nat) : Option State :=
  let q := quadrantOf s c tile
  let n := prefetchSlots s c tile
  if mayMigrate s q (max 1 n) then
    let s1 := takeSlot s c (tile * 512) none (if n = 0 then 1 else 2)
    if (tileAt s1 tile).isSome then some (charge s1 0 q 1 n)
    else if s1 = s then none else some s1
  else none

/-- Count a tile that prefetch skips because its extent is not `ACTIVE` (object 2540.08), once while its window holds it. -/
def skipTile (s : State) (c w tile : Nat) : State :=
  let k := (c * 16 + w) * 2 ^ 31 + tile
  if s.tier.skipSeen.contains k then s
  else (addStat s 0x254008 (c + w * 2 ^ 8) 1).onTier (fun t => { t with skipSeen := k :: t.skipSeen })

/-- Walk the layers of a composition to the first tile that can be filled: the state with skips counted, and whether a
fill was started. -/
def prefetchComp (acc : State × Bool) (c : Nat) : State × Bool :=
  (prefetchLayers acc.1 c).foldl (fun acc x =>
    if acc.2 then acc
    else (layerTileList (winLayer acc.1 c (windowOf acc.1 c x.1) x.2)).foldl (fun acc tile =>
      if acc.2 then acc
      else if skippedTile acc.1 tile then (skipTile acc.1 c x.1 tile, false)
      else if prefetchable acc.1 tile then
        (match prefetchTile acc.1 c tile with | some s => (s, true) | none => acc)
      else acc) acc) acc

/-- The second class of migrations (R106): the next tile of the windows' held sets, then the next touched tile (R109, R213);
and whether there was one to fill. -/
def prefetchNext (s : State) : State × Bool :=
  let (s1, hit) := (windowComps s).foldl prefetchComp (s, false)
  if hit then (s1, true)
  else
    match s1.tier.touchQ with
    | tile :: rest =>
      if prefetchable s1 tile then
        match prefetchTile s1 (lineComp s1 (tile * 512)) tile with
        | some s2 => (if (tileAt s2 tile).isSome then s2.onTier (fun t => { t with touchQ := rest }) else s2, true)
        | none => (s1, false)
      else (s1.onTier (fun t => { t with touchQ := rest }), true)
    | [] => (s1, false)

/-- `PREFETCH_FILL` (R106, R109, R213): it comes after the write-backs of compositions at their dirty limit. -/
def prefetchFill (s : State) : State := if (limitWriteback s).isSome then s else (prefetchNext s).1

/-- `DIRTY_WRITEBACK`: one line is written back, in the order of R106: for a composition that holds a request (host
traffic, no budget), at its limit, then, where no prefetch can go on, above its threshold or for a flush (R104, R105). -/
def dirtyWriteback (s : State) : State :=
  match heldWriteback s with
  | some l => writeBack s l
  | none =>
    match limitWriteback s with
    | some l => writeBackCharged s l
    | none =>
      match otherWriteback s with
      | some l => if (prefetchNext s).2 then s else writeBackCharged s l
      | none => s

/-! ## Published regions (R113, R119) -/

/-- The extent, `ACTIVE` and of a composition, that a region names as a staging extent of its length. -/
def stagingOk (s : State) (v id : Nat) : Bool :=
  let e := extOf s id
  decide (e.state = 1) && decide (e.comp = regComp v) && decide (e.length = regLength v) && e.canWrite && !e.shared &&
  oneWayHere s e.base e.length

/-- The conditions of R113 on a staged descriptor. -/
def regionOk (s : State) (r v : Nat) : Bool :=
  let face := s.home.exts.any (fun p => decide (p.2.state = 1) && decide (p.2.comp = regComp v) &&
    decide (p.2.base ≤ regFace v) && decide (regFace v + regLength v ≤ p.2.base + p.2.length) &&
    p.2.canRead && !p.2.canWrite && !p.2.canAtomic)
  let slots := (List.range 8).all (fun i =>
    let x := regSlot v i
    !slotValid x || (stagingOk s v (slotExtent x) && decide ((extOf s (slotExtent x)).owner = slotHost x)))
  let inside : Nat → Bool := fun id => (extOf s id).covers (tileOf (regVersionLine v))
  let vline := match extentAt s (regVersionLine v) with
    | some (_, e) => decide (e.state = 1) && decide (e.comp = regComp v) && e.canAtomic
    | none => false
  let outside := !(decide (regFace v ≤ tileOf (regVersionLine v)) && decide (tileOf (regVersionLine v) < regFace v + regLength v)) &&
    !inside (regCurrent v) &&
    (List.range 8).all (fun i => !slotValid (regSlot v i) || !inside (slotExtent (regSlot v i)))
  let apart := (regions s).all (fun p => decide (p.1 = r) ||
    decide (regFace p.2 + regLength p.2 ≤ regFace v) || decide (regFace v + regLength v ≤ regFace p.2))
  decide (regLength v ≠ 0) && face && stagingOk s v (regCurrent v) && slots && vline && outside && apart &&
    oneWayHere s (regFace v) (regLength v) && oneWayHere s (tileOf (regVersionLine v)) 1

/-- Store a region descriptor, mirrored. -/
def putRegion (s : State) (r v : Nat) : State :=
  mirrorOnly (setObj s 0x256002 r v) [recObject 0x256002 r 64 v (regComp v)]

/-- `CREATE` of a region (R113): a region that exists is not created again. -/
def regionCreateCmd (s : State) (w : Requester) : Acc :=
  let r := selVal s w 0x256001
  let v := stagedOf s w 0x256002
  if w.isInband && regComp v ≠ w.comp then (aeNoAccess, s)
  else if regValid (regionOf s r) then withStatus s w 0x256004 2
  else if !regionOk s r v then withStatus s w 0x256004 1
  else withStatus (setStaged (putRegion s r (setBits v 71 1 1)) w 0x256002 0) w 0x256004 0

/-- A region ends; its face serves its own extent's lines again. -/
def destroyRegion (s : State) (r : Nat) : State :=
  (putRegion s r 0).onTier (fun t => { t with publisher := t.publisher.del r })

/-- `DESTROY` of a region: always accepted (R119). -/
def regionDestroyCmd (s : State) (w : Requester) : Acc :=
  let r := selVal s w 0x256001
  if w.isInband && regValid (regionOf s r) && regComp (regionOf s r) ≠ w.comp then (aeNoAccess, s)
  else withStatus (destroyRegion s r) w 0x256004 0

end Sys2Proof.Machine
end

