-- ==== Sys2Proof/Machine/Compositions.lean ====
section
/-! DEFINITION. Members, descriptors, vectors and handoff records of compositions (R225-R254). -/

namespace Sys2Proof.Machine

/-! ## Descriptor checks (R227, R237, R245) -/

/-- The ring conditions of R237. -/
def ringOk (s : State) (c : Nat) (k : Comp) : Bool := !k.ringValid || ringLies s c k

/-- The arena conditions of R245. -/
def arenaOk (s : State) (c : Nat) (k : Comp) : Bool :=
  !k.arenaValid ||
  (let e := extOf s k.arena
   decide (e.state = 1) && e.isFast && decide (e.comp = c) && e.shared && e.canRead && e.canWrite && oneWayHere s e.base e.length)

/-- Whether some record of a composition is not `FREE`. -/
def recordsInUse (s : State) (c : Nat) : Bool := s.comps.recs.any (fun p => decide (p.2.state ≠ 0) && decide (p.2.comp = c))

/-- Whether a record range runs past the last record or meets another composition's (R227): an empty range meets none. -/
def rangeBad (s : State) (c : Nat) (k : Comp) : Bool :=
  decide (k.recordBase + k.recordCount > 2 ^ 20) ||
  s.comps.comps.any (fun p => decide (p.1 ≠ c) && decide (p.2.state ≠ 0) && decide (p.2.recordCount ≠ 0) && decide (k.recordCount ≠ 0) &&
    decide (p.2.recordBase < k.recordBase + k.recordCount) && decide (k.recordBase < p.2.recordBase + p.2.recordCount))

/-- Mirror a composition's descriptor. -/
def mirrorComp (s : State) (c : Nat) : State := mirrorOnly s (recComp s c)

/-- A write of object 2A10.02: staged while `FREE`, else the fields that R227 lets change. -/
def descriptorWrite (s : State) (w : Requester) (offset len v : Nat) : Acc :=
  let c := selVal s w 0x2A1001
  let k := compOf s c
  if k.state = 0 then
    let x := setBits (stagedOf s w 0x2A1002) (8 * offset) (8 * len) v
    if compReserved x then (aeRange, s) else (aeOk, setStaged s w 0x2A1002 x)
  else if offset ≠ 0 ∨ len ≠ 32 then (aeLength, s)
  else
    let n := Comp.ofNat v
    let k1 := { k with owner := n.owner, arena := n.arena, arenaValid := n.arenaValid, ringLine := n.ringLine,
                       ringLog2 := n.ringLog2, ringValid := n.ringValid, vector := n.vector, notify := n.notify }
    if compReserved v || !k.members.has n.owner || !ringOk s c k1 || !arenaOk s c k1 then (aeRange, s)
    else if n.recordBase ≠ k.recordBase ∨ n.recordCount ≠ k.recordCount ∨ n.resetCount ≠ k.resetCount ∨
        ((n.arena ≠ k.arena ∨ n.arenaValid ≠ k.arenaValid) ∧ recordsInUse s c) then (aeState, s)
    else (aeOk, mirrorComp (setComp s c k1) c)

/-! ## Members (R230, R231) -/

/-- A member entry (object 2A11.02). -/
def memberEntry (s : State) (c h : Nat) : Nat := b2n (isMember s c h) + 2 * (compOf s c).pools.getD h 0

/-- Mirror a member entry. -/
def mirrorMember (s : State) (c h : Nat) : State :=
  mirrorOnly s [recObject 0x2A1102 (c + h * 2 ^ 8) 1 (memberEntry s c h) c]

/-- A write of a member entry: its pool. -/
def memberWrite (s : State) (w : Requester) (v : Nat) : Acc :=
  let c := selVal s w 0x2A1001
  let h := selVal s w 0x2A1101
  if v ≥ 32 then (aeRange, s)
  else
    let k := compOf s c
    (aeOk, mirrorMember (setComp s c { k with pools := k.pools.setD h 0 (v / 2) }) c h)

/-- `JOIN` (R230). -/
def joinCmd (s : State) (w : Requester) : Acc :=
  let c := selVal s w 0x2A1001
  let h := selVal s w 0x2A1101
  let k := compOf s c
  if k.state = 0 then (aeState, s)
  else if k.members.has h then (aeOk, s)
  else
    let s1 := setComp s c { k with members := k.members.put h 1, departed := k.departed.filter (fun x => decide (x ≠ h)) }
    (aeOk, mirrorMember (post s1 0x0A05 (some c) (pay [(2, h), (2, k.pools.getD h 0)])) c h)

/-- A walk acts on the entries of a departing host (R231 step 2). -/
def walkDepart (s : State) (c h : Nat) : State :=
  (entryLines s (fun l e => decide (lineComp s l = c) && (decide (e.mode = 2) || e.ptrs.contains h))).foldl
    (fun s l => enqueue s l (.depart h)) s

/-- A host leaves a composition (R231); `extra` breaks its reduce slots and closes its walk contexts. -/
def leaveHost (extra : State → Nat → Nat → State) (s : State) (c h : Nat) : State :=
  let k := compOf s c
  let s1 := setComp s c { k with members := k.members.del h, departed := if k.departed.contains h then k.departed else k.departed ++ [h] }
  let s2 := s1.onHome (fun x => { x with
    departures := x.departures ++ [{ comp := c, host := h, walked := false, poisoned := 0 }]
    unconfirmed := x.unconfirmed.filter (fun p => decide (p ≠ (c, h))) })
  let s3 := walkDepart (joinWalk (mirrorMember s2 c h) (.depart c h)) c h
  dropEntries (hostGoneRecs (extra s3 c h) c h) (fun x e => decide (x = h) && decide (e.comp = c))

/-- `LEAVE`: refused in state for the owner host (R231). -/
def leaveCmd (extra : State → Nat → Nat → State) (s : State) (w : Requester) : Acc :=
  let c := selVal s w 0x2A1001
  let h := selVal s w 0x2A1101
  let k := compOf s c
  if k.state = 0 ∨ k.owner = h then (aeState, s)
  else if !k.members.has h then (aeOk, s)
  else (aeOk, leaveHost extra s c h)

/-! ## Shares, grants and vectors (R232, R233, R235) -/

/-- A share write: the sum over all compositions stays at most 1,024 (R232). -/
def shareWrite (s : State) (w : Requester) (o v : Nat) : Acc :=
  let c := selVal s w 0x2A1001
  let others := (((listed s o).filter (fun p => decide (p.1 ≠ c))).map Prod.snd).sum
  if others + v > 1024 then (aeState, s) else (aeOk, mirrorObject (setObj s o c v) o c 2 c)

/-- A grant write: a core granted to one composition alone is granted to no other (R233). -/
def grantWrite (s : State) (w : Requester) (o v : Nat) : Acc :=
  let c := selVal s w 0x2A1001
  let shared := if o = 0x2A1304 then v else getObj s 0x2A1304 c
  let alone := if o = 0x2A1305 then v else getObj s 0x2A1305 c
  let bad := (List.range 128).any (fun d => decide (d ≠ c) &&
    (decide (((getObj s 0x2A1304 d ||| getObj s 0x2A1305 d) &&& alone) ≠ 0) ||
     decide ((getObj s 0x2A1305 d &&& (shared ||| alone)) ≠ 0)))
  if bad then (aeState, s) else (aeOk, mirrorObject (setObj s o c v) o c 4 c)

/-- A vector entry write; `deliveries` is read-only (R235). -/
def vectorWriteCmd (s : State) (w : Requester) (v : Nat) : Acc :=
  let c := selVal s w 0x2A1001
  let i := c + selVal s w 0x2A1201 * 2 ^ 8
  if bits v 60 4 ≠ 0 then (aeRange, s)
  else (aeOk, mirrorObject (setObj s 0x2A1202 i (setBits v 96 32 (vecDeliveries (getObj s 0x2A1202 i)))) 0x2A1202 i 16 c)

/-- Whether a message answers a vector write that is outstanding (R256). -/
def isVecAnswer (s : State) (m : Msg) : Bool :=
  m.opcode == opResp && s.comps.vecs.any (fun v => decide (v.host = peerHost m.peer) && decide (v.tag = m.tag))

/-- A vector write ends; one that is not answered `OK` is counted (R235). -/
def vecDone (s : State) (host tag : Nat) (ok : Bool) : State :=
  let s1 := s.onComps (fun k => { k with vecs := k.vecs.filter (fun v => decide (v.host ≠ host) || decide (v.tag ≠ tag)) })
  if ok then s1 else addErr s1 0x2A3105 0 1

/-- `INTERRUPT_WRITE_TIMEOUT`: a vector write is unanswered within object 2210.01 (R235). -/
def vecTimeout (s : State) (host tag : Nat) : State :=
  match s.comps.vecs.find? (fun v => decide (v.host = host) && decide (v.tag = tag)) with
  | some v => vecDone (reachTime s v.deadline) host tag false
  | none => s

/-! ## Handoff requests (R248-R253) -/

/-- The batch that holds every change made so far, while the pair holds responses (R310). -/
def lastBatch (s : State) : Option Nat :=
  if holdsNow s && !s.twin.journal.isEmpty then some ((s.twin.seq + 2 ^ 32 - 1) % 2 ^ 32) else none

/-- An answer of the home to a service request. -/
def serviceAnswer (s : State) (via : Option Nat) (m : Msg) (st detail result : Nat) : State :=
  respondAfter s (lastBatch s) (raiseLoad s (mkResp m st detail (ownAgent s agentHome) result 1) true) via

/-- Body fields of a `HANDOFF`. -/
def hoRecord (m : Msg) : Nat := m.fld 16 20
def hoWord (m : Msg) : Nat := m.fld 40 3
def hoTarget (m : Msg) : Nat := m.fld 48 12
def hoKeep (m : Msg) : Bool := bit m.body 63
def hoGen (m : Msg) : Nat := m.fld 64 32
def hoFirst (m : Msg) : Nat := m.fld 96 31
def hoFill (m : Msg) : Nat := m.fld 96 32
def hoTiles (m : Msg) : Nat := m.fld 128 32

/-- Whether a target admits a host (R250). -/
def admitsHost (s : State) (c target h : Nat) : Bool :=
  match target / 1024 with
  | 0 => true
  | 1 => decide (target % 1024 = h)
  | 2 => decide ((compOf s c).pools.getD h 0 = target % 1024)
  | _ => false

/-- The row of the record table for a function in a record's state: who it names, or none where there is no row. -/
def handoffRow (s : State) (r : Rec) (c f h : Nat) : Option Bool :=
  let prod := decide (r.producer = h)
  let owner := decide ((compOf s c).owner = h)
  match r.state, f with
  | 0, 1 => some true
  | 1, 2 => some prod
  | 1, 7 => some prod
  | 2, 7 => some prod
  | 2, 3 => some prod
  | 3, 5 => some (admitsHost s c r.target h)
  | 3, 4 => some prod
  | 3, 7 => if r.producerLost then some owner else none
  | 4, 6 => some (decide (r.consumer = h))
  | 5, 7 => some (decide (r.consumer = h) || prod || owner)
  | 6, 7 => some (owner || (prod && !r.producerLost))
  | _, _ => none

/-- R248 step 9: the range of an `OPEN`. -/
def openRangeBad (s : State) (c : Nat) (m : Msg) : Bool :=
  let k := compOf s c
  let e := extOf s k.arena
  !k.arenaValid || !arenaOk s c k || decide (hoTiles m = 0) || decide (hoTiles m > 65536) ||
  decide (hoFirst m < e.base) || decide (e.base + e.length < hoFirst m + hoTiles m) ||
  s.comps.recs.any (fun p => decide (p.2.state ≠ 0) && decide (p.2.firstTile < hoFirst m + hoTiles m) &&
    decide (hoFirst m < p.2.firstTile + p.2.tiles))

/-- A record that becomes `FREE` keeps its generation (R242). -/
def Rec.freed (r : Rec) : Rec := { generation := r.generation }

/-- The record after a function's row (R250), before its generation and times. -/
def handoffApply (s : State) (c : Nat) (r : Rec) (f h : Nat) (m : Msg) : Rec :=
  match f with
  | 1 => { generation := r.generation, state := 1, comp := c, producer := h, owner := h, ownerValid := true, firstTile := hoFirst m,
           tiles := hoTiles m, target := hoTarget m, requestTag := bits (m.slotNat 0) 0 64, openedAt := usNow s }
  | 2 => { r with state := 2, fillLines := hoFill m, producerInfo := bits (m.slotNat 0) 0 128 }
  | 3 => { r with state := 3, target := if hoKeep m then r.target else hoTarget m,
                  offerEnd := if r.producerLost then none else some (s.now + 1000 * getObj s 0x2A3004 c) }
  | 4 => { r with state := 2, offerEnd := none }
  | 5 => { r with state := 4, consumer := h, owner := h, ownerValid := true, offerEnd := none }
  | 6 => { r with state := 5, ownerValid := false }
  | _ => r.freed

/-- Apply a function's row, mirror the record and answer `OK` (R249, R250). -/
def handoffDo (s : State) (via : Option Nat) (m : Msg) (i f h : Nat) : State :=
  let r := recOf s i
  let r1 := handoffApply s m.composition r f h m
  let r2 := { r1 with generation := inc32 r.generation, stateAt := usNow s, lastFunction := f, lastHost := h }
  let s1 := mirrorOnly (setRec s i r2) [recRecord (setRec s i r2) i]
  let s2 := if f = 7 ∧ r.state = 5 then addStat s1 0x2A3101 0 1 else s1
  serviceAnswer s2 via m stOk 0 (r2.word 0)

/-- A `HANDOFF` at the home (R248). -/
def handoffAt (s : State) (via : Option Nat) (m : Msg) : State :=
  let c := m.composition
  let k := compOf s c
  let h := peerHost m.peer
  let i := hoRecord m
  let r := recOf s i
  let f := m.func
  let say := fun st d => serviceAnswer s via m st d (r.word 0)
  let clash := fun d => serviceAnswer (addErr s 0x2A3104 0 1) via m stConflict d (r.word 0)
  if k.state = 3 then say stFatal dCompositionFatal
  else if isLost s h then say stDenied dHostLost
  else if k.state = 2 then say stRetry dCompositionResetting
  else if peerIsAgent m.peer || !isMember s c h then say stDenied dNotMember
  else if i < k.recordBase ∨ k.recordBase + k.recordCount ≤ i then say stDenied dRecordRange
  else if f = 8 then serviceAnswer s via m stOk 0 (r.word (hoWord m))
  else if inc32 (hoGen m) = r.generation ∧ r.lastFunction = f ∧ r.lastHost = h then say stOk dAlreadyDone
  else if hoGen m ≠ r.generation then clash dStaleGeneration
  else
    match handoffRow s r c f h with
    | none => clash dWrongState
    | some false => say stDenied dNotRecordOwner
    | some true =>
      if (f = 1 ∨ (f = 3 ∧ !hoKeep m)) ∧ hoTarget m / 1024 = 3 then
        serviceAnswer (addStat s 0x230002 0 1) via m stDenied 0 (r.word 0)
      else if f = 1 ∧ openRangeBad s c m then say stDenied dBadRange
      else handoffDo s via m i f h

/-- `OFFER_TIMER_EXPIRY` (R250, R251). -/
def offerExpiry (s : State) (i : Nat) : State :=
  let r := recOf s i
  match r.state, r.offerEnd with
  | 3, some t =>
    let s1 := changeRec (reachTime s t) i (fun x => { x with state := 2, offerEnd := none })
    postBoth (addErr s1 0x2A3103 0 1) r.comp 0x0A21 (pay [(4, i), (4, (recOf s1 i).generation), (2, r.producer)])
  | _, _ => s

/-- `FORCE_FREE` of the selected record; a `FREE` one is unchanged (R250). -/
def forceFreeCmd (s : State) (w : Requester) : Acc :=
  let i := selVal s w 0x2A3001
  (aeOk, if (recOf s i).state = 0 then s else changeRec s i Rec.freed)

/-- A composition reset frees every record of its range: the generation goes on, every other field is cleared (R239 step 5,
R250, whose row is for a record in any state; log entry 20). -/
def resetRecords (s : State) (c : Nat) : State :=
  let k := compOf s c
  let range := (List.range k.recordCount).map (k.recordBase + ·)
  let fresh := (range.map (fun i => (i, ({ generation := inc32 (recOf s i).generation } : Rec)))).filter (fun p => decide (p.2 ≠ {}))
  let s1 := s.onComps (fun x => { x with
    recs := x.recs.filter (fun p => decide (p.1 < k.recordBase)) ++ fresh ++
      x.recs.filter (fun p => decide (k.recordBase + k.recordCount ≤ p.1)) })
  mirrorOnly s1 (range.map (recRecord s1))

end Sys2Proof.Machine
end

