-- ==== Sys2Proof/Machine/Answers.lean ====
section
/-! DEFINITION. Answers of dictionary accesses (R354, R357, R360, R365). -/

namespace Sys2Proof.Machine

/-- Count an access: applied, or ended with an access error (objects 2C00.01, 2C00.02). -/
def countAccess (s : State) (e : Nat) : State := if e = aeOk then addStat s 0x2C0001 0 1 else addErr s 0x2C0002 0 1

/-- Answer a write with its access error: a `RESP` to an in-band requester (R360), else an access code (R357, R363). -/
def accessAnswer (s : State) (d : Deferred) (e : Nat) : State :=
  let s1 := countAccess s e
  match d.via with
  | some (p, m) =>
    let x := inbandError e
    deliverResp s1 (raiseLoad s1 (mkResp m x.1 x.2 (ownAgent s1 agentHome) 0 1) true) (some p)
  | none =>
    s1.onDict (fun k => { k with answers := k.answers ++
      [{ who := d.access.who, idx := d.access.idx, sub := d.access.sub, err := e }] })

end Sys2Proof.Machine
end

