-- ==== Sys2Proof/Machine/Route.lean ====
section
/-! DEFINITION. Requests on their way to their home (R14-R16, R305, R315, R324, R330), and itinerary budgets (R197, R232). -/

namespace Sys2Proof.Machine

/-- Whether the other side of the own pair serves (R305, R313, R315). -/
def peerServes (s : State) : Bool :=
  s.twin.pair == psRecv || s.twin.pair == psDetached || (s.twin.pair == psSync && !s.twin.serving)

/-- An answer of the port logic to a request on its way. -/
def routeAnswer (s : State) (r : Req) (st d : Nat) : State :=
  deliverResp s (mkResp r.m st d (ownAgent s agentPorts) 0 1) r.port

/-- What R330 answers for a pair: its serving side is being replaced, or it is lost. -/
def pairVerdict (s : State) (pair : Nat) : Option (Nat × Nat) :=
  if pair = ownPair s ∧ servesHere s then none
  else if s.twin.lostPairs.contains pair then some (stFatal, dPairLost)
  else if s.twin.takeover.has pair then some (stRetry, dTakeover) else none

/-- The refusal of R330, which makes the requester's composition fatal at a lost pair. -/
def verdictAnswer (s : State) (r : Req) (x : Nat × Nat) : State :=
  let s1 := routeAnswer s r x.1 x.2
  if x.1 = stFatal then makeFatal s1 r.m.composition 1 else s1

/-- A request for the own pair (R305, R315): served here, passed to the serving side, or refused while none serves. A tile
mover's line costs one stack slot of its quadrant (R197). -/
def routeOwn (s : State) (r : Req) : State :=
  if servesHere s then
    admitAtHome (if fromCore r then charge s 0 (quadrantOf s r.m.composition (tileOf r.m.line)) 4 1 else s) r
  else if peerServes s then sendToPair s (ownPair s) r.m true (r.port.getD 256)
  else routeAnswer s r stRetry dPairForming

/-- A request that names a line goes to the pair that homes it (R14-R16). -/
def routeReq (s : State) (r : Req) : State :=
  if s.twin.pair = psQuarantined then routeAnswer s r stQuarantined dSelfQuarantined
  else
    match homePair s r.m.line with
    | none => routeAnswer s r stNoRoute 0
    | some p =>
      match pairVerdict s p with
      | some x => verdictAnswer s r x
      | none => if p = ownPair s then routeOwn s r else sendToPair s p r.m true (r.port.getD 256)

/-! ## Itinerary shares (R232, R274) -/

/-- Key of a composition's use of a resource in a quadrant by itineraries. -/
def compUseKey (resource quadrant comp : Nat) : Nat := 2 ^ 16 * (comp + 1) + useKey resource quadrant 4

/-- Whether a composition has tile mover requests to send (R232). -/
def moverDemand (s : State) (comp : Nat) : Bool :=
  s.compute.cores.any (fun p => p.2.jobs.any (fun j => !j.todo.isEmpty || !j.again.isEmpty) &&
    (match headLaunch s p.1 with | some l => decide (l.comp = comp) | none => false))

/-- Units of a budget that other compositions with demand may still claim as their share (R232; log entry 24). -/
def reservedShares (s : State) (resource quadrant comp : Nat) : Nat :=
  (((listed s 0x2A1302).filter (fun p => decide (p.1 ≠ comp) && moverDemand s p.1)).map (fun p =>
    p.2 * budgetOf s resource quadrant 4 / 1024 - s.tm.used.getD (compUseKey resource quadrant p.1) 0)).sum

/-- Whether a composition's itineraries may use n units now: within its share, or within what other shares leave. -/
def itinAllowed (s : State) (resource quadrant comp n : Nat) : Bool :=
  hasBudget s resource quadrant 4 n &&
  (decide (s.tm.used.getD (compUseKey resource quadrant comp) 0 + n ≤
      getObj s 0x2A1302 comp * budgetOf s resource quadrant 4 / 1024) ||
   hasBudget s resource quadrant 4 (n + reservedShares s resource quadrant comp))

/-- Note a composition's use. -/
def noteUse (s : State) (resource quadrant comp n : Nat) : State :=
  let k := compUseKey resource quadrant comp
  s.onTm (fun t => { t with used := t.used.put k (t.used.getD k 0 + n) })

end Sys2Proof.Machine
end

