-- ==== Sys2Proof/Machine/Local.lean ====
section
/-! DEFINITION. Local memories, leg fields, and the life of a launch (R144, R170-R175, R184-R200). -/

namespace Sys2Proof.Machine

/-! ## Local memory (R172, R198) -/

/-- First byte of a core buffer, and of an engine's operand memory. -/
def coreBase (c : Nat) : Nat := c * 2 ^ 23
def engineBase (g : Nat) : Nat := 2 ^ 28 + g * 2 ^ 19

/-- The byte that a 20-bit local address names on engine e of core c (R172). -/
def locAddr (c e a : Nat) : Nat :=
  if bit a 19 then engineBase (8 * c + e) + a % 2 ^ 14 * 32 else coreBase c + a % 2 ^ 18 * 32

/-- The end of the memory that holds a byte. -/
def locEnd (a : Nat) : Nat :=
  if a < 2 ^ 28 then (a / 2 ^ 23 + 1) * 2 ^ 23 else 2 ^ 28 + ((a - 2 ^ 28) / 2 ^ 19 + 1) * 2 ^ 19

/-- Bytes of a range that lie in its memory (log entry 25). -/
def locLen (a n : Nat) : Nat := min n (locEnd a - a)

/-- Read n bytes. -/
def readLoc (s : State) (a n : Nat) : Nat := Memory.readNat s.compute.loc a (locLen a n)

/-- Whether a unit of a range is marked poisoned. -/
def marked (s : State) (a n : Nat) : Bool :=
  s.compute.marks.any (fun u => decide (a / 32 ≤ u) && decide (u * 32 < a + locLen a n))

/-- Mark the units of a range. -/
def markUnits (s : State) (a n : Nat) : State :=
  let us := (List.range (ceilDiv (a % 32 + locLen a n) 32)).map (fun i => a / 32 + i)
  s.onCompute (fun x => { x with marks := x.marks ++ us.filter (fun u => !x.marks.contains u) })

/-- Write n bytes: whole units lose their marks. -/
def writeLoc (s : State) (a n v : Nat) : State :=
  s.onCompute (fun x => { x with
    loc := Memory.writeNat x.loc a (locLen a n) v
    marks := x.marks.filter (fun u => decide (u * 32 < a) || decide (a + locLen a n < u * 32 + 32)) })

/-- Write a leg's output range, marked whole when the leg read a marked unit (R198). -/
def writeOut (s : State) (a n v : Nat) (poison : Bool) : State :=
  let s1 := writeLoc s a n v
  if poison then markUnits s1 a n else s1

/-- Clear a core's buffer and operand memories (R144, R200). -/
def clearLocal (s : State) (c : Nat) : State :=
  s.onCompute (fun x => { x with
    loc := Memory.clear (Memory.clear x.loc (coreBase c) (2 ^ 23)) (engineBase (8 * c)) (2 ^ 22)
    marks := x.marks.filter (fun u => decide (u / 2 ^ 18 ≠ c) &&
      (decide (u * 32 < engineBase (8 * c)) || decide (engineBase (8 * c + 8) ≤ u * 32))) })

/-! ## Itineraries and legs -/

def itinOf (s : State) (i : Nat) : Itin := s.compute.itins.getD i {}
def setItin (s : State) (i : Nat) (x : Itin) : State :=
  s.onCompute (fun k => { k with itins := k.itins.setD i {} x })

/-- Itinerary descriptor fields (object 2810.02). -/
def itComp (v : Nat) : Nat := bits v 0 7
def itBase (v : Nat) : Nat := bits v 8 16
def itCount (v : Nat) : Nat := bits v 24 14
def itEntry (v i : Nat) : Nat := bits v (40 + 13 * i) 13
def itCores (v : Nat) : Nat := bits v 92 24
def itEntryMap (v r : Nat) : Nat := bits v (116 + 2 * r) 2
def itDoneVec (v : Nat) : Nat := bits v 164 4
def itDoneNotify (v : Nat) : Bool := bit v 168
def itFaultVec (v : Nat) : Nat := bits v 169 4
def itFaultNotify (v : Nat) : Bool := bit v 173
def itBaseInit (v i : Nat) : Nat := bits v (192 + 32 * i) 32
def itStride (v i : Nat) : Nat := bits v (448 + 32 * i) 32
def itLimit (v i : Nat) : Nat := bits v (704 + 32 * i) 32
def itArgMap (v i : Nat) : Nat := bits v (832 + 3 * i) 3
def itArgOn (v i : Nat) : Bool := bit v (844 + i)

/-- The reserved bits of an itinerary descriptor. -/
def itReserved (v : Nat) : Bool :=
  bit v 7 || decide (bits v 38 2 ≠ 0) || decide (bits v 174 18 ≠ 0) || decide (bits v 848 176 ≠ 0)

/-- Leg i of an itinerary. -/
def legAt (s : State) (it i : Nat) : Nat := s.compute.legs.getD (itBase (itinOf s it).desc + i) 0

def legKind (l : Nat) : Nat := bits l 0 4
def legEngines (l : Nat) : List Nat := setBitList (bits l 4 8) 8
def legWaitAll (l : Nat) : Bool := bit l 12

/-- The rank of a core in a mask, and the core of a rank. -/
def rankOf (mask c : Nat) : Nat := (setBitList mask c).length
def coreOfRank (mask r : Nat) : Option Nat := (setBitList mask 24)[r]?

/-- Index of the repeat at level l; loops are kept innermost first (R175). -/
def loopIdx (k : Core) (l : Nat) : Nat := match k.loops.reverse[l]? with | some x => x.idx | none => 0

/-- The value of a fabric term at an epos (R173). -/
def termVal (k : Core) (t epos : Nat) : Nat :=
  ofInt ((k.bases.getD (bits t 0 3) 0 + bits t 3 20 + epos * bits t 37 11 : Nat) +
    (loopIdx k (bits t 23 2) : Int) * sint (bits t 25 12) 12) 32

/-- Iteration number of the leg (R447). -/
def iterationOf (k : Core) : Nat :=
  let v := k.loops.reverse.foldl (fun a l => a * (l.last + 1) + l.idx) 0
  if v < 2 ^ 32 then v else 2 ^ 32 - 1

/-! ## Launches (R193-R196) -/

def launchOf (s : State) (q : Nat) : Option Launch := s.compute.launches.get? q
def putLaunch (s : State) (q : Nat) (l : Launch) : State :=
  s.onCompute (fun x => { x with launches := x.launches.put q l })

/-- The cores that run a launch. -/
def launchCores (s : State) (l : Launch) : List Nat := setBitList (itCores (itinOf s l.itin).desc) 24

/-- Release an itinerary's range: it becomes `EMPTY`. -/
def releaseItin (s : State) (i : Nat) : State :=
  let d := (itinOf s i).desc
  s.onCompute (fun x => { x with
    itins := x.itins.del i
    legs := x.legs.filter (fun p => decide (p.1 < itBase d) || decide (itBase d + itCount d ≤ p.1)) })

/-- Release an itinerary and post 0x0804. -/
def emptyItin (s : State) (i : Nat) : State :=
  post (releaseItin s i) 0x0804 (some (itComp (itinOf s i).desc)) (pay [(1, i)])

/-- The last launch of a retiring itinerary has ended (R189). -/
def retireCheck (s : State) (i : Nat) : State :=
  if (itinOf s i).state = 4 ∧ !(s.compute.launches.any (fun p => decide (p.2.itin = i))) then emptyItin s i else s

/-- The base registers of a rank (R174). -/
def launchBases (d args r : Nat) : List Nat :=
  (List.range 8).map (fun n =>
    (itBaseInit d n + r * itStride d n +
      ((List.range 4).map (fun a => if itArgOn d a && decide (itArgMap d a = n) then bits args (32 * a) 32 else 0)).sum) % 2 ^ 32)

/-- A core starts the launch at the head of its queue (R144, R174, R184-R186, R194, R196). -/
def beginLaunch (s : State) (c q : Nat) (l : Launch) : State :=
  let d := (itinOf s l.itin).desc
  let k := coreOf s c
  let s1 := if k.lastComp = some l.comp then s
    else (clearLocal s c).onCompute (fun x => { x with counters := x.counters.filter (fun p => decide (p.1 / 32 ≠ c)) })
  let mine : Nat → Bool := fun g => decide (g / 8 = c)
  let s2 := s1.onCompute (fun x => { x with
    origins := x.origins.filter (fun p => decide (p.1 / 32 ≠ c))
    sels := x.sels.filter (fun p => !mine p.1)
    blocks := x.blocks.filter (fun p => !mine p.1) })
  let s3 := (List.range 32).foldl (fun s i => s.onCompute (fun x => { x with
    origins := x.origins.setD (counterKey c i) 0 (x.counters.getD (counterKey c i) 0) })) s2
  let r := rankOf (itCores d) c
  let s4 := setCore s3 c { k with
    started := true, lastComp := some l.comp, pc := itEntry d (itEntryMap d r), loops := [], waiting := none, jobs := [],
    bases := launchBases d l.args r }
  let s5 := putLaunch s4 q { l with state := 1, held := l.held.filter (fun h => decide (h.1 ≠ c)) }
  (l.held.filter (fun h => decide (h.1 = c))).foldl (fun s h => addCounter s c h.2.1 h.2.2) s5

/-- A core takes the next launch of its queue that has not ended. -/
def takeNext (s : State) (c : Nat) : List Nat → State
  | [] => setCore s c { coreOf s c with queue := [], started := false }
  | q :: r =>
    match launchOf s q with
    | some l => if l.state = 2 then takeNext s c r else beginLaunch (setCore s c { coreOf s c with queue := q :: r }) c q l
    | none => takeNext s c r

/-- A core is done with the launch at its head. -/
def popLaunch (s : State) (c : Nat) : State :=
  let k := coreOf s c
  takeNext (setCore s c { k with started := false, waiting := none, jobs := [] }) c k.queue.tail

/-- A launch has ended: it is forgotten. -/
def dropLaunch (s : State) (q : Nat) (l : Launch) : State :=
  retireCheck (s.onCompute (fun x => { x with launches := x.launches.del q })) l.itin

/-- The cores whose head is a launch. -/
def runningCores (s : State) (q : Nat) : List Nat :=
  (s.compute.cores.filter (fun p => decide (p.2.queue.head? = some q) && p.2.started)).map Prod.fst

/-- A faulted launch has drained: the fault vector, and every core takes its next launch (R196). -/
def drainLaunch (s : State) (q : Nat) : State :=
  match launchOf s q with
  | some l =>
    let cs := runningCores s q
    if l.state = 2 ∧ cs.all (fun c => (coreOf s c).jobs.isEmpty) then
      let d := (itinOf s l.itin).desc
      let s1 := if itFaultNotify d then trigger s l.comp (itFaultVec d) else s
      cs.foldl popLaunch (dropLaunch s1 q l)
    else s
  | none => s

/-- Count the cycles that a tile mover stood still with a job (object 2820.06). -/
def stallCounted (s : State) (j : Job) : State :=
  match j.stalled with | some t => addStat s 0x282006 0 ((s.now - t) * 13 / 10) | none => s

/-- A core stops: what it has sent stays outstanding, and the cycles that its tile mover stood still are counted (R197). -/
def stopCore (s : State) (c : Nat) : State :=
  let k := coreOf s c
  let s1 := k.jobs.foldl stallCounted s
  setCore s1 c { k with
    waiting := none
    jobs := (k.jobs.map (fun j => { j with todo := [], again := [], stalled := none })).filter
      (fun j => !j.outstanding.isEmpty) }

/-- A launch ends by a fault (R196, R199): every core stops, queued cores never start, 0x0811. For `REQUEST_FAILED` the high
byte of `detail` is the home's detail: R199 puts it into the event and R447 gives it no byte, so it follows the last field
(DESIGN CHOICE, log entry 117). -/
def faultLaunch (s : State) (q c leg iter st detail : Nat) : State :=
  match launchOf s q with
  | some l =>
    if l.state = 2 then s
    else
      let d := (itinOf s l.itin).desc
      let p := pay [(4, q), (1, l.itin), (1, c), (1, rankOf (itCores d) c), (2, leg), (4, iter), (1, st), (2, detail)]
      let s1 := post (addErr (putLaunch s q { l with state := 2 }) 0x282004 0 1) 0x0811 none p
      let s2 := (runningCores s1 q).foldl stopCore s1
      let s3 := s2.onCompute (fun x => { x with cores := x.cores.mapV (fun _ k =>
        if k.queue.head? = some q then k else { k with queue := k.queue.filter (fun y => decide (y ≠ q)) }) })
      drainLaunch s3 q
  | none => s

/-- A leg of a core's running launch faults: the leg's number and iteration (R199). -/
def faultAt (s : State) (c leg iter st detail : Nat) : State :=
  match (coreOf s c).queue with
  | q :: _ => faultLaunch s q c leg iter st detail
  | [] => s

/-- The leg that a core is at faults. -/
def legFault (s : State) (c : Nat) (k : Core) (st detail : Nat) : State := faultAt s c k.pc (iterationOf k) st detail

/-- The leg of a job faults. -/
def jobFault (s : State) (c : Nat) (j : Job) (st detail : Nat) : State := faultAt s c j.pc j.iter st detail

/-- A reset of a core ends a launch, wherever the core was in it (R196, R200). -/
def resetFault (s : State) (c q : Nat) (l : Launch) : State :=
  let k := coreOf s c
  let d := (itinOf s l.itin).desc
  if k.queue.head? = some q ∧ k.started then faultLaunch s q c k.pc (iterationOf k) 0 dCoreReset
  else faultLaunch s q c (itEntry d (itEntryMap d (rankOf (itCores d) c))) 0 0 dCoreReset

/-- A leg marks output: 0x0810 once per launch and core (R198). -/
def poisonedOutput (s : State) (c pc : Nat) : State :=
  match (coreOf s c).queue with
  | q :: _ =>
    (match launchOf s q with
     | some l =>
       if l.posted.contains c then s
       else post (putLaunch s q { l with posted := l.posted ++ [c] }) 0x0810 none (pay [(4, q), (1, c), (2, pc)])
     | none => s)
  | [] => s

end Sys2Proof.Machine
end

