-- ==== Sys2Proof/Machine/Engines.lean ====
section
/-! DEFINITION. The legs of the engines: array passes, vector operations and selector passes (R145-R154, R179-R181). -/

namespace Sys2Proof.Machine

/-- The byte of an engine's operand memory that a 14-bit offset names (R172). -/
def opAddr (g off : Nat) : Nat := engineBase g + off * 32

/-- Elements of a format packed from bit 0 of a number. -/
def packedElem (f v i : Nat) : Nat := bits v (formatBits f * i) (formatBits f)

/-- Bytes of n packed elements, and the offset of the scales that follow them (R179). -/
def elemBytes (f n : Nat) : Nat := ceilDiv (n * formatBits f) 8
def scaleOffset (f n : Nat) : Nat := 32 * ceilDiv (elemBytes f n) 32

/-- Bytes of n elements with their scales. -/
def operandBytes (f n : Nat) : Nat := if formatMx f then scaleOffset f n + ceilDiv n 32 else elemBytes f n

/-- The scale of element i of n whose operand starts at bit 0 of a number. -/
def operandScale (f n v i : Nat) : Nat := if formatMx f then bits v (8 * (scaleOffset f n + i / 32)) 8 else 127

/-! ## `ARRAY` (R145, R146, R179) -/

def arLoad (l : Nat) : Bool := bit l 16
def arAccumulate (l : Nat) : Bool := bit l 17
def arRows (l : Nat) : Nat := bits l 18 4 + 1
def arK (l : Nat) : Nat := 64 * (bits l 22 3 + 1)
def arSFormat (l : Nat) : Nat := bits l 25 5
def arBFormat (l : Nat) : Nat := bits l 30 5
def arSSrc (l : Nat) : Nat := bits l 35 14
def arBSrc (l : Nat) : Nat := bits l 49 14
def arCDst (l : Nat) : Nat := bits l 63 14
def arN (l : Nat) : Nat := bits l 77 13 + 1
def arNoStream (l : Nat) : Bool := bit l 90

/-- Load an engine's stationary block. -/
def loadBlock (s : State) (l g : Nat) : State :=
  let f := arSFormat l
  let n := arRows l * arK l
  let a := opAddr g (arSSrc l)
  let b : Block := { rows := arRows l, k := arK l, format := f, data := readLoc s a (operandBytes f n),
                     poison := marked s a (operandBytes f n) }
  s.onCompute (fun x => { x with blocks := x.blocks.put g b })

/-- Element k of row r of a stationary block. -/
def blockElem (b : Block) (r k : Nat) : FVal :=
  let i := r * b.k + k
  elemVal b.format (packedElem b.format b.data i) (operandScale b.format (b.rows * b.k) b.data i)

/-- One accumulator after a streamed row: chunks of 64 in ascending k, one rounding each (R146). -/
def arrayDot (b : Block) (f n v : Nat) (r j acc : Nat) : Nat :=
  (List.range (b.k / 64)).foldl (fun acc ch =>
    chunkAdd acc ((List.range 64).map (fun t =>
      let k := 64 * ch + t
      let i := j * b.k + k
      valMul (blockElem b r k) (elemVal f (packedElem f v i) (operandScale f n v i))))) acc

/-- Elements that a format streams per cycle. -/
def streamRate (f : Nat) : Nat := if f = 9 then 128 else if formatBits f = 16 then 32 else 64

/-- Stream rows through an engine that holds a block. -/
def streamRows (s : State) (l g : Nat) (b : Block) : State :=
  let f := arBFormat l
  let n := arN l
  let src := opAddr g (arBSrc l)
  let len := operandBytes f (n * b.k)
  let v := readLoc s src len
  let dst := opAddr g (arCDst l)
  let old := if arAccumulate l then readLoc s dst (4 * b.rows * n) else 0
  let bad := b.poison || marked s src len || (arAccumulate l && marked s dst (4 * b.rows * n))
  let out := (List.range b.rows).map (fun r => (List.range n).map (fun j =>
    (32, arrayDot b f (n * b.k) v r j (bits old (32 * (r * n + j)) 32))))
  let cycles := ceilDiv (n * b.k) (min (streamRate f) (streamRate b.format))
  addStat (writeOut s dst (4 * b.rows * n) (pack out.flatten) bad) 0x272001 0 cycles

/-- An `ARRAY` leg on one engine: whether it ran, or found no stationary block (`BAD_LEG`), and whether its output is
marked. -/
def arrayEngine (s : State) (l g : Nat) : Option (State × Bool) :=
  let s1 := if arLoad l then loadBlock s l g else s
  match s1.compute.blocks.get? g with
  | none => none
  | some b =>
    if arNoStream l then some (s1, false)
    else
      let bad := b.poison || marked s1 (opAddr g (arBSrc l)) (operandBytes (arBFormat l) (arN l * b.k)) ||
        (arAccumulate l && marked s1 (opAddr g (arCDst l)) (4 * b.rows * arN l))
      some (streamRows s1 l g b, bad)

/-! ## `VECTOR` (R152, R180) -/

def veOp (l : Nat) : Nat := bits l 16 6
def veIn (l : Nat) : Nat := bits l 22 5
def veOut (l : Nat) : Nat := bits l 27 5
def veRound (l : Nat) : Bool := bit l 32
def veSat (l : Nat) : Bool := bit l 33
def veRows (l : Nat) : Nat := bits l 34 4 + 1
def veGroups (l : Nat) : Nat := bits l 38 13 + 1
def veA (l : Nat) : Nat := bits l 51 14
def veB (l : Nat) : Nat := bits l 65 14
def veD (l : Nat) : Nat := bits l 79 14
def veImm (l : Nat) : Nat := bits l 96 32

/-- Element i of an FP32 array. -/
def f32At (v i : Nat) : Nat := bits v (32 * i) 32

/-- An element-wise operation (R180): a, b, d before, imm. -/
def vecElem (op a b d imm : Nat) : Nat :=
  match op with
  | 0 => f32Add a b | 1 => f32Sub a b | 2 => f32Mul a b | 3 => f32Fma a b d | 4 => f32Min a b | 5 => f32Max a b
  | 6 => f32Abs a | 7 => f32Mul a imm | _ => f32Exp2 a

/-- A lane's draw for element i of a leg: lane i mod 64 in ascending i (R151). -/
def laneDraw (seed g i : Nat) : Nat :=
  (List.range (i / 64 + 1)).foldl (fun st _ => diceNext st) (seedLane seed g (i % 64))

/-- `CONVERT` of n elements (R148-R151): the output bytes as a number. -/
def convertAll (l g n v : Nat) : Nat :=
  let fi := veIn l
  let fo := veOut l
  let xs := (List.range n).map (fun i => elemF32 fi (packedElem fi v i) (operandScale fi n v i))
  let scales := (List.range (ceilDiv n 32)).map (fun b => mxScale fo ((xs.drop (32 * b)).take 32))
  let elems := xs.zipIdx.map (fun p =>
    let sc := if formatMx fo then scales.getD (p.2 / 32) 0 else 127
    let draw := if veRound l then some (laneDraw (veImm l) g p.2) else none
    (formatBits fo, if formatMx fo && sc == 255 then Config.mxNanElement fo p.2 else convElem fo p.1 sc (veSat l) draw))
  let body := pack elems
  if formatMx fo then body + 2 ^ (8 * scaleOffset fo n) * pack (scales.map (fun x => (8, x))) else body

/-- Bytes that a `VECTOR` leg reads at a, at b, and writes at d; whether it also reads d. -/
def vecSpans (l : Nat) : Nat × Nat × Nat × Bool :=
  let n := 64 * veGroups l
  let op := veOp l
  if op = 9 then (operandBytes (veIn l) n, 0, operandBytes (veOut l) n, false)
  else if op = 10 then (4 * n, 8 * veGroups l, 4 * n, true)
  else if op = 0x20 ∨ op = 0x21 then (4 * n * veRows l, 0, 4 * n, false)
  else if 0x10 ≤ op ∧ op ≤ 0x15 then (4 * n, 4 * n, 8 * veGroups l, false)
  else if 0x18 ≤ op ∧ op ≤ 0x1D then (4 * n, 0, 8 * veGroups l, false)
  else if op ≤ 5 then (4 * n, 4 * n, 4 * n, decide (op = 3))
  else (4 * n, 0, 4 * n, false)

/-- What a `VECTOR` leg writes on an engine. -/
def vecResult (l g a b d : Nat) : Nat :=
  let n := 64 * veGroups l
  let op := veOp l
  let is := List.range n
  if op = 9 then convertAll l g n a
  else if op = 10 then pack (is.map (fun i => (32, if bit b i then f32At a i else f32At d i)))
  else if op = 0x20 ∨ op = 0x21 then
    pack (is.map (fun j => (32, (List.range (veRows l - 1)).foldl (fun acc r =>
      let x := f32At a ((r + 1) * n + j)
      if op = 0x20 then f32Add acc x else f32Max acc x) (if f32IsNan (f32At a j) then f32Nan else f32At a j))))
  else if 0x10 ≤ op ∧ op ≤ 0x15 then pack (is.map (fun i => (1, b2n (f32Cmp (op - 0x10) (f32At a i) (f32At b i)))))
  else if 0x18 ≤ op ∧ op ≤ 0x1D then pack (is.map (fun i => (1, b2n (f32Cmp (op - 0x18) (f32At a i) (veImm l)))))
  else pack (is.map (fun i => (32, vecElem op (f32At a i) (f32At b i) (f32At d i) (veImm l))))

/-- A `VECTOR` leg on one engine, and whether its output is marked. -/
def vectorEngine (s : State) (l g : Nat) : State × Bool :=
  let (na, nb, nd, readsD) := vecSpans l
  let pa := opAddr g (veA l)
  let pb := opAddr g (veB l)
  let pd := opAddr g (veD l)
  let bad := marked s pa na || marked s pb nb || (readsD && marked s pd nd)
  let v := vecResult l g (readLoc s pa na) (readLoc s pb nb) (if readsD then readLoc s pd nd else 0)
  (writeOut s pd nd v bad, bad)

/-! ## `SELECT` (R153, R154, R181) -/

def seMin (l : Nat) : Bool := bit l 16
def seContinue (l : Nat) : Bool := bit l 17
def seEmit (l : Nat) : Bool := bit l 18
def seMasked (l : Nat) : Bool := bit l 19
def seInput (l : Nat) : Nat := bits l 20 2
def seK (l : Nat) : Nat := bits l 22 8 + 1
def seN (l : Nat) : Nat := bits l 30 13 + 1
def seSrc (l : Nat) : Nat := bits l 43 14
def seMask (l : Nat) : Nat := bits l 57 14
def seDst (l : Nat) : Nat := bits l 71 14

/-- The first index of a pass at an epos (R181). -/
def seIndex (k : Core) (l epos : Nat) : Nat :=
  ofInt ((k.bases.getD (bits l 85 3) 0 + bits l 88 12 + epos * bits l 114 14 : Nat) +
    (loopIdx k (bits l 100 2) : Int) * sint (bits l 102 12) 12) 32

/-- Whether pair a ranks before pair b (R153). -/
def ranksBefore (isMin : Bool) (a b : Nat × Nat) : Bool :=
  let x := f32Key a.1
  let y := f32Key b.1
  if x = y then decide (a.2 < b.2) else if isMin then decide (x < y) else decide (y < x)

/-- Insert a pair into a ranked list. -/
def rankInsert (isMin : Bool) (p : Nat × Nat) : List (Nat × Nat) → List (Nat × Nat)
  | [] => [p]
  | q :: r => if ranksBefore isMin p q then p :: q :: r else q :: rankInsert isMin p r

/-- A padding entry of a result list (R154). -/
def padEntry (isMin : Bool) : Nat × Nat := (if isMin then 0x7F800000 else 0xFF800000, 0xFFFFFFFF)

/-- The bytes of the input of a pass: scores, or result entries. -/
def seBytes (l : Nat) : Nat := if seInput l = 1 then 8 * seN l else if seInput l = 0 then 4 * seN l else 0

/-- The pairs of a pass's input, with their eligibility. -/
def sePairs (k : Core) (l epos src mask : Nat) : List ((Nat × Nat) × Bool) :=
  (List.range (seN l)).map (fun i =>
    if seInput l = 1 then
      (let p := (bits src (64 * i) 32, bits src (64 * i + 32) 32)
       (p, decide (p ≠ padEntry (seMin l))))
    else ((bits src (32 * i) 32, (seIndex k l epos + i) % 2 ^ 32), !seMasked l || bit mask i))

/-- The bytes of a result list of n entries. -/
def listBytes (isMin : Bool) (items : List (Nat × Nat)) (n : Nat) : Nat :=
  pack ((List.range n).map (fun i =>
    let p := items.getD i (padEntry isMin)
    (64, p.1 + 2 ^ 32 * p.2)))

/-- A `SELECT` leg on one engine, and whether its output is marked. -/
def selectEngine (s : State) (k : Core) (l g epos : Nat) : State × Bool :=
  let src := opAddr g (seSrc l)
  let pm := opAddr g (seMask l)
  let nm := if seMasked l && decide (seInput l = 0) then ceilDiv (seN l) 8 else 0
  let old := (s.compute.sels.get? g).getD { items := [], poison := false }
  let start : SelList := if seContinue l ∨ seInput l = 2 then old else { items := [], poison := false }
  let pairs := if seInput l ≥ 2 then [] else sePairs k l epos (readLoc s src (seBytes l)) (readLoc s pm nm)
  let nans := (pairs.filter (fun p => f32IsNan p.1.1)).length
  let good := pairs.filter (fun p => p.2 && !f32IsNan p.1.1)
  let items := (good.foldl (fun acc p => (rankInsert (seMin l) p.1 acc).take (seK l)) start.items).take (seK l)
  let poison := start.poison || marked s src (seBytes l) || marked s pm nm
  let s1 := s.onCompute (fun x => { x with sels := x.sels.put g { items := items, poison := poison } })
  let s2 := if nans = 0 then s1 else addStat s1 0x272006 0 nans
  let s3 := if seInput l ≥ 2 then s2 else addStat s2 0x272004 0 1
  if seEmit l then (writeOut s3 (opAddr g (seDst l)) (8 * seK l) (listBytes (seMin l) items (seK l)) poison, poison)
  else (s3, false)

end Sys2Proof.Machine
end

