-- ==== Sys2Proof/Machine/Mover.lean ====
section
/-! DEFINITION. The tile mover: layouts, line requests, and the legs MOVE, GATHER, SEND and STASH (R143, R163, R164, R177,
R178, R182, R197-R199). -/

namespace Sys2Proof.Machine

/-! ## Layouts (R26, R177) -/

/-- Bytes of the packed row-major data of a descriptor, and where its scales follow when delivered (R177). -/
def packedBytes (d : TileDesc) : Nat := ceilDiv (d.rows * d.cols * formatBits d.format) 8
def deliveredScale (d : TileDesc) : Nat := 32 * ceilDiv (packedBytes d) 32
def scaleCount (d : TileDesc) : Nat := if formatMx d.format then d.rows * (d.cols / 32) else 0
def deliveredBytes (d : TileDesc) : Nat := if formatMx d.format then deliveredScale d + scaleCount d else packedBytes d

/-- The width in bits of what a layout permutes, and how many of it the data area holds: elements for `COL`, the 128-byte
chunks of rows, which are lines, for `PANEL16` (R26). -/
def layoutUnit (d : TileDesc) : Nat × Nat :=
  let w := formatBits d.format
  if d.swizzle = 1 then (1024, d.rows * d.cols * w / 1024) else (w, d.rows * d.cols)

/-- The row-major unit that unit e of the stored data area is (R26). -/
def rowMajorOf (d : TileDesc) (e : Nat) : Nat :=
  if d.swizzle = 2 then e % d.rows * d.cols + e / d.rows
  else if d.swizzle = 1 then
    let perRow := max 1 (d.cols * formatBits d.format / 1024)
    let inPanel := e % (16 * perRow)
    (e / (16 * perRow) * 16 + inPanel % 16) * perRow + inPanel / 16
  else e

/-- The stored data area as packed row-major elements. -/
def toRows (d : TileDesc) (v : Nat) : Nat :=
  let (w, n) := layoutUnit d
  (List.range n).foldl (fun acc e => acc + bits v (w * e) w * 2 ^ (w * rowMajorOf d e)) 0

/-- Packed row-major elements as the stored data area. -/
def fromRows (d : TileDesc) (v : Nat) : Nat :=
  let (w, n) := layoutUnit d
  pack ((List.range n).map (fun e => (w, bits v (w * rowMajorOf d e) w)))

/-- The 32-byte units of the delivered tile that hold what line k of the stored tile holds. -/
def lineUnits (d : TileDesc) (k : Nat) : List Nat :=
  let (w, n) := layoutUnit d
  if k * 128 < d.dataBytes then
    ((List.range (1024 / max 1 w + 2)).map (fun i =>
      let e := k * 1024 / max 1 w + i
      if e < n ∧ e * w < (k + 1) * 1024 then
        (let lo := rowMajorOf d e * w
         (List.range ((lo + w - 1) / 256 - lo / 256 + 1)).map (fun j => lo / 256 + j)) else [])).flatten.dedup
  else
    let off := k * 128 - d.dataBytes
    if off < scaleCount d then (List.range 4).map (fun i => (deliveredScale d + off) / 32 + i) else []

/-- What a whole stored tile delivers: bytes and their count. -/
def engineReady (d : TileDesc) (v : Nat) : Nat × Nat :=
  if d.swizzle = 0 then (v, 65536)
  else
    (toRows d v + (if formatMx d.format then 2 ^ (8 * deliveredScale d) * bits v (8 * d.dataBytes) (8 * scaleCount d) else 0),
      deliveredBytes d)

/-- The stored lines of the data and scale areas of a tile whose delivered bytes are given; `pad` fills the bytes after an
area (log entry 26). -/
def storedImage (d : TileDesc) (v pad : Nat) : Nat :=
  let nd := packedBytes d
  let body := fromRows d v + 2 ^ (8 * nd) * bits pad 0 (8 * (d.dataBytes - nd))
  if formatMx d.format then
    body + 2 ^ (8 * d.dataBytes) * (bits v (8 * deliveredScale d) (8 * scaleCount d) +
      2 ^ (8 * scaleCount d) * bits pad 0 (8 * (d.scaleBytes - scaleCount d)))
  else body

/-! ## Leg fields -/

def mvDir (l : Nat) : Nat := bits l 16 2
def mvDesc (l : Nat) : Nat := bits l 18 8
def mvLocal (l : Nat) : Nat := bits l 26 20
def mvTerm (l : Nat) : Nat := bits l 46 48
def mvLocal2 (l : Nat) : Nat := bits l 46 20
def mvStride (l : Nat) : Nat := bits l 66 16
def mvFirst (l : Nat) : Nat := bits l 94 9
def mvLines (l : Nat) : Nat := bits l 103 9 + 1
def mvStep (l : Nat) : Nat := bits l 112 14

def gaFabric (l : Nat) : Bool := bit l 16
def gaDesc (l : Nat) : Nat := bits l 17 8
def gaList (l : Nat) : Nat := bits l 25 20
def gaCount (l : Nat) : Nat := bits l 45 12 + 1
def gaTerm (l : Nat) : Nat := bits l 57 48
def gaLocal (l : Nat) : Nat := bits l 105 20

def sdLocal (l : Nat) : Nat := bits l 16 20
def sdLines (l : Nat) : Nat := bits l 36 13 + 1
def sdTerm (l : Nat) : Nat := bits l 49 48
def sdLine (l : Nat) : Nat := bits l 97 9
def sdHost (l : Nat) : Nat := bits l 106 10
def sdRinger (l : Nat) : Bool := bit l 117

/-- A local address moved by n units within its space. -/
def moveLocal (a n : Nat) : Nat := if bit a 19 then 2 ^ 19 + (a + n) % 2 ^ 14 else (a + n) % 2 ^ 18

/-- Epos and engine of each engine of a leg; a leg without engines has the single epos 0 (R171). -/
def eposList (l : Nat) : List (Nat × Nat) :=
  let es := legEngines l
  if es.isEmpty then [(0, 0)] else es.zipIdx.map (fun p => (p.2, p.1))

/-- The destination of a gather in the span: base tile. -/
def gaDest (k : Core) (l : Nat) : Nat := (k.bases.getD (bits l 105 3) 0 + bits l 108 20) % 2 ^ 32

/-! ## Ranges of a leg (R176) -/

/-- The local address of a `MOVE` of directions 0 and 1 with its repeat step. -/
def mvAddr (k : Core) (l : Nat) : Nat := moveLocal (mvLocal l) (mvStep l * loopIdx k (bits (mvTerm l) 23 2))

/-- Bytes that a `MOVE` of directions 0 and 1 covers in local memory. -/
def mvBytes (d : TileDesc) (l : Nat) : Nat :=
  if mvFirst l = 0 ∧ mvLines l = 512 ∧ d.swizzle ≠ 0 then deliveredBytes d else 128 * mvLines l

/-- The local ranges of a leg. -/
def legRanges (s : State) (c comp : Nat) (k : Core) (l : Nat) : List LRange :=
  let gs := legEngines l
  match legKind l with
  | 1 =>
    if mvDir l < 2 then
      (let n := mvBytes (tileDescOf s comp (mvDesc l)) l
       (eposList l).map (fun p => { write := decide (mvDir l = 0), lo := locAddr c p.2 (mvAddr k l), len := n }))
    else
      ((eposList l).map (fun p =>
        [{ write := decide (mvDir l = 2), lo := locAddr c p.2 (2 ^ 19 + mvLocal l % 2 ^ 14), len := 128 * mvLines l },
         { write := decide (mvDir l = 3), lo := locAddr c 0 ((mvLocal2 l + p.1 * mvStride l) % 2 ^ 18),
           len := 128 * mvLines l }])).flatten
  | 2 =>
    let n := gaCount l * (tileDescOf s comp (gaDesc l)).rowBytes
    { write := false, lo := locAddr c 0 (gaList l % 2 ^ 18), len := 4 * gaCount l } ::
      (if gaFabric l then [] else [{ write := true, lo := locAddr c (gs.headD 0) (gaLocal l), len := n }])
  | 3 =>
    (gs.map (fun e =>
      let g := 8 * c + e
      let b := s.compute.blocks.get? g
      let rk := if arLoad l then (arRows l, arK l) else match b with | some x => (x.rows, x.k) | none => (0, 0)
      (if arLoad l then [{ write := false, lo := opAddr g (arSSrc l), len := operandBytes (arSFormat l) (arRows l * arK l) }] else []) ++
      (if arNoStream l then [] else
        [{ write := false, lo := opAddr g (arBSrc l), len := operandBytes (arBFormat l) (arN l * rk.2) },
         { write := true, lo := opAddr g (arCDst l), len := 4 * rk.1 * arN l }]))).flatten
  | 4 =>
    let (na, nb, nd, _) := vecSpans l
    (gs.map (fun e =>
      let g := 8 * c + e
      [{ write := false, lo := opAddr g (veA l), len := na }, { write := false, lo := opAddr g (veB l), len := nb },
       { write := true, lo := opAddr g (veD l), len := nd }])).flatten
  | 5 =>
    (gs.map (fun e =>
      let g := 8 * c + e
      [{ write := false, lo := opAddr g (seSrc l), len := seBytes l },
       { write := false, lo := opAddr g (seMask l), len := if seMasked l then ceilDiv (seN l) 8 else 0 },
       { write := true, lo := opAddr g (seDst l), len := if seEmit l then 8 * seK l else 0 }])).flatten
  | 6 => (eposList l).map (fun p => { write := false, lo := locAddr c p.2 (sdLocal l), len := 128 * sdLines l })
  | 7 => (eposList l).map (fun p => { write := false, lo := locAddr c p.2 (sdLocal l), len := 128 * sdLines l })
  | _ => []

/-- Whether two ranges overlap and one of them is written. -/
def clash (a b : LRange) : Bool :=
  (a.write || b.write) && decide (a.lo < b.lo + b.len) && decide (b.lo < a.lo + a.len)

/-- Whether a leg must wait for an earlier leg of its core (R176). -/
def hazard (k : Core) (l : Nat) (rs : List LRange) : Bool :=
  (legWaitAll l && !k.jobs.isEmpty) || k.jobs.any (fun j => j.ranges.any (fun a => rs.any (clash a)))

/-- Whether a range reaches into the reduce reservation at the top of the core buffer (R199; log entry 27). -/
def intoReserve (s : State) (c : Nat) (r : LRange) : Bool :=
  decide (r.lo < 2 ^ 28) && decide (r.len ≠ 0) && decide (coreBase c + 2 ^ 23 - 1024 * cfg s 0x271009 < r.lo + r.len)

/-! ## Line requests (R177, R182, R197, R199) -/

/-- The message of a line request. -/
def moverMsg (s : State) (c comp tag : Nat) (q : MReq) : Msg :=
  { opcode := q.op, tc := cfg s 0x282002, poison := q.poison, ext := if q.op = opRdNc then 0 else 4,
    peer := ownAgent s (c + 1), composition := comp, tag := tag, line := q.line,
    body := if q.op = opRdNc then 0 else q.mask + 2 ^ 128 * q.host,
    data := if q.op = opRdNc then [] else lineSlots q.data }

/-- Charge a tile mover's message slots to the itinerary activity of its core's quadrant and to its composition (R197). -/
def chargeMover (s : State) (c comp n : Nat) : State := noteUse (charge s 1 (c / 6) 4 n) 1 (c / 6) comp n

/-- Send one line request if the itinerary budget lasts (R197): one stack slot where this ZX964 is the home, and the crossbar
slots of the message; those of the answer are charged when it comes. -/
def sendLine (s : State) (c comp : Nat) (q : MReq) : Option (State × MReq) :=
  let here := homedHere s q.line && servesHere s
  let quad := quadrantOf s comp (tileOf q.line)
  let slots := if q.op = opRdNc then 1 else 5
  if (!here || itinAllowed s 0 quad comp 1) && itinAllowed s 1 (c / 6) comp slots then
    let s1 := chargeMover s c comp slots
    let s2 := if here then noteUse s1 0 quad comp 1 else s1
    let tag := (coreOf s2 c).tag
    let s3 := setCore s2 c { coreOf s2 c with tag := (tag + 1) % 2 ^ 16 }
    let q1 := { q with tag := tag, deadline := if q.deadline = 0 then s.now + 1000 * cfg s 0x221001 else q.deadline }
    some (routeReq s3 { m := moverMsg s3 c comp tag q, core := some c, coded := q.coded }, q1)
  else none

/-- Send requests in order until the budget stops. -/
def sendLines (c comp : Nat) : State → List MReq → List MReq → State × List MReq × List MReq
  | s, [], sent => (s, sent, [])
  | s, q :: r, sent =>
    match sendLine s c comp q with
    | some (s1, q1) => sendLines c comp s1 r (sent ++ [q1])
    | none => (s, sent, q :: r)

/-- A job sends what it can: repeats first (R197, R199). -/
def pump (s : State) (c comp : Nat) (j : Job) : State × Job :=
  let (s1, sent, rest) := sendLines c comp s (j.again ++ j.todo) []
  (s1, { j with again := [], todo := rest, outstanding := j.outstanding ++ sent,
                stalled := if rest.isEmpty then none else some (j.stalled.getD s.now) })

/-- Replace a job of a core; none removes it. -/
def replaceJob (s : State) (c : Nat) (old : Job) (new : Option Job) : State :=
  let k := coreOf s c
  setCore s c { k with jobs := match new with
    | some j => updFirst k.jobs (fun x => decide (x = old)) (fun _ => j)
    | none => eraseFirst k.jobs (fun x => decide (x = old)) }

/-- Whether a job has nothing left to send or to hear. -/
def Job.idle (j : Job) : Bool := j.todo.isEmpty && j.outstanding.isEmpty && j.again.isEmpty

/-! ## Coded tiles in the mover (R129, R136, R137) -/

/-- Whether this ZX964 holds a tile expanded. -/
def expandedHere (s : State) (tile : Nat) : Bool :=
  match tileAt s tile with | some t => t.expanded | none => false

/-- A line that a job has read: data and poison. -/
def gotLine (j : Job) (line : Nat) : Nat × Bool := j.got.getD line (0, false)

/-- The lines of a coded block that its header, in the first line read, names. -/
def blockLines (s : State) (d : TileDesc) (comp first : Nat) (x : Nat × Bool) : Nat :=
  let h := bits x.1 0 128
  if x.2 then 1
  else if d.codec = 1 ∨ actHeaderOk (codecKey s comp) first h then
    (if payloadOk h (blockSize d first) then codedLines (bhPayload h) else 1)
  else blockSize d first / 128

/-- The tiles that a job reads. -/
def Job.tiles (j : Job) : List Nat := (j.dests.map Prod.fst).dedup

/-- The lines that a job still has to read once the first lines are here. -/
def missingLines (s : State) (comp : Nat) (j : Job) : List Nat :=
  let d := TileDesc.ofNat j.desc
  if d.codec = 0 then []
  else
    ((j.tiles.map (fun t =>
      if expandedHere s t then (List.range 512).map (fun k => t * 512 + k)
      else ((blockFirsts d t).map (fun l =>
        (List.range (blockLines s d comp l (gotLine j l))).map (fun i => l + i))).flatten)).flatten).filter
      (fun l => !j.got.has l)

/-- n lines that a job has read, as a number, and whether one is poisoned. -/
def gotLines (j : Job) (line n : Nat) : Nat × Bool :=
  ((List.range n).foldr (fun i acc => (gotLine j (line + i)).1 + 2 ^ 1024 * acc) 0,
    (List.range n).any (fun i => (gotLine j (line + i)).2))

/-- One block as the codec delivers it: bytes, poison, or a decode failure. -/
def moverBlock (s : State) (d : TileDesc) (comp since first : Nat) (j : Job) : (Nat × Bool) ⊕ Nat :=
  let n := blockLines s d comp first (gotLine j first)
  let (v, bad) := gotLines j first n
  if bad then .inl (v, true)
  else if d.codec = 1 then
    (match expandWeight s since v (blockSize d first) with | .inl e => .inr e | .inr x => .inl (x, false))
  else if actHeaderOk (codecKey s comp) first (bits v 0 128) then
    (match decodeActivation v (blockSize d first) (formatBits d.format) with | .inl e => .inr e | .inr x => .inl (x, false))
  else .inl (v, false)

/-- Whether a job decodes a tile's blocks: it is coded, and was not read expanded. -/
def decodes (s : State) (j : Job) (t : Nat) : Bool :=
  decide ((TileDesc.ofNat j.desc).codec ≠ 0) &&
  !((List.range 512).all (fun k => j.got.has (t * 512 + k)) && expandedHere s t)

/-- The blocks of a tile as the codec delivers them, by their first lines. -/
def tileBlocks (s : State) (comp : Nat) (j : Job) (t : Nat) : List (Nat × ((Nat × Bool) ⊕ Nat)) :=
  (blockFirsts (TileDesc.ofNat j.desc) t).map (fun l => (l, moverBlock s (TileDesc.ofNat j.desc) comp j.since l j))

/-- Count the `WEIGHT` blocks that a job has expanded (object 2601.01). -/
def countExpanded (s : State) (comp : Nat) (j : Job) : State :=
  if (TileDesc.ofNat j.desc).codec ≠ 1 then s
  else
    addStat s 0x260101 0 (((j.tiles.filter (decodes s j)).map (fun t =>
      ((tileBlocks s comp j t).filter (fun x => match x.2 with | .inl (_, bad) => !bad | .inr _ => false)).length)).sum)

/-- A whole tile as read: its stored (expanded) bytes, the poisoned lines, or a decode failure with the block's line. -/
def tileImage (s : State) (comp : Nat) (j : Job) (t : Nat) : (Nat × List Nat) ⊕ (Nat × Nat) :=
  let d := TileDesc.ofNat j.desc
  if !decodes s j t then
    .inl ((gotLines j (t * 512) 512).1, (List.range 512).filter (fun k => (gotLine j (t * 512 + k)).2))
  else
    let outs := tileBlocks s comp j t
    match outs.findSome? (fun x => match x.2 with | .inr e => some (x.1, e) | .inl _ => none) with
    | some e => .inr e
    | none =>
      let blocks := outs.map (fun x => match x.2 with
        | .inl y => (x.1 - t * 512, y.1, y.2)
        | .inr _ => (x.1 - t * 512, 0, false))
      let coded := blocks.foldl (fun acc x => acc + 2 ^ (1024 * x.1) * bits x.2.1 0 (8 * blockSize d x.1)) 0
      let plain := ((List.range 512).filter (fun k => !codedAt d (t * 512 + k))).foldl
        (fun acc k => acc + 2 ^ (1024 * k) * (gotLine j (t * 512 + k)).1) 0
      let badBlocks := (blocks.filter (fun x => x.2.2)).map (fun x => (List.range (blockSize d x.1 / 128)).map (fun i => x.1 + i))
      let badPlain := (List.range 512).filter (fun k => !codedAt d (t * 512 + k) && (gotLine j (t * 512 + k)).2)
      .inl (coded + plain, badBlocks.flatten ++ badPlain)

/-! ## Deliveries -/

/-- Deliver a `MOVE` of direction 0 to one destination; whether units were marked. -/
def deliverTile (s : State) (comp : Nat) (j : Job) (dst : Nat × Nat) : (State × Bool) ⊕ (Nat × Nat) :=
  let d := TileDesc.ofNat j.desc
  let (t, a) := dst
  if mvFirst j.leg = 0 ∧ mvLines j.leg = 512 then
    match tileImage s comp j t with
    | .inr e => .inr e
    | .inl (v, bad) =>
      let (w, n) := engineReady d v
      let units := if d.swizzle = 0 then (bad.map (fun k => (List.range 4).map (fun i => 4 * k + i))).flatten
        else (bad.map (lineUnits d)).flatten
      .inl (units.foldl (fun s u => markUnits s (a + 32 * u) 32) (writeLoc s a n w), !units.isEmpty)
  else
    let first := t * 512 + mvFirst j.leg
    let n := mvLines j.leg
    let (v, _) := gotLines j first n
    let bad := (List.range n).filter (fun i => (gotLine j (first + i)).2)
    .inl (bad.foldl (fun s i => markUnits s (a + 128 * i) 128) (writeLoc s a (128 * n) v), !bad.isEmpty)

/-- Deliver to every destination of a job. -/
def deliverAll (comp : Nat) (j : Job) : State → List (Nat × Nat) → Bool → (State × Bool) ⊕ (State × Nat × Nat)
  | s, [], p => .inl (s, p)
  | s, d :: r, p =>
    match deliverTile s comp j d with
    | .inl (s1, q) => deliverAll comp j s1 r (p || q)
    | .inr e => .inr (s, e)

/-- The bytes and lines of source row r of a gather. -/
def gatherRow (d : TileDesc) (base : Nat) (r : Nat) : Nat × Nat × Nat :=
  let bit0 := (base + r / d.rows) * 65536 + r % d.rows * d.rowBytes
  (bit0, bit0 / 128, (bit0 + d.rowBytes - 1) / 128)

/-- A row that a job has read: its bytes, and whether one of its lines is poisoned. -/
def gotRow (j : Job) (base : Nat) (x : Option Nat) : Nat × Bool :=
  match x with
  | none => (0, false)
  | some r =>
    let d := TileDesc.ofNat j.desc
    let (a, l0, l1) := gatherRow d base r
    let (v, _) := gotLines j l0 (l1 - l0 + 1)
    (bits v (8 * (a - 128 * l0)) (8 * d.rowBytes), (List.range (l1 - l0 + 1)).any (fun i => (gotLine j (l0 + i)).2))

/-- Whether a row that a gather has read is poisoned: then so is everything it writes to the span (R28). -/
def badRows (j : Job) (src : Nat) : Bool := j.rows.any (fun x => (gotRow j src x).2)

/-- The writes of a gather to the span: whole or partial lines in row order (log entry 28). -/
def gatherWrites (j : Job) (src dst : Nat) : List MReq :=
  let d := TileDesc.ofNat j.desc
  let rows := j.rows.map (gotRow j src)
  let tiles := ceilDiv rows.length d.rows
  ((List.range tiles).map (fun t =>
    let rs := (rows.drop (t * d.rows)).take d.rows
    let v := pack (rs.map (fun x => (8 * d.rowBytes, x.1)))
    let n := rs.length * d.rowBytes
    (List.range (ceilDiv n 128)).map (fun k =>
      { line := (dst + t) * 512 + k, op := opWrNc, data := BitVec.ofNat 1024 (bits v (1024 * k) 1024), poison := badRows j src,
        mask := 2 ^ (min 128 (n - 128 * k)) - 1 }))).flatten

/-- A job's leg has completed: its core forgets it, and the launch faults if the leg says so. -/
def endJob (s : State) (c : Nat) (j : Job) (markedOut : Bool) : State :=
  let s1 := replaceJob s c j none
  let s2 := if markedOut then poisonedOutput s1 c j.pc else s1
  if j.fault ≠ 0 then jobFault s2 c j 0 j.fault else s2

/-- Every request of a job is answered: more reads, the writes of a gather, or the deliveries. -/
def jobDone (s : State) (c comp : Nat) (j : Job) : State :=
  match legKind j.leg with
  | 1 =>
    if mvDir j.leg = 1 then endJob s c j false
    else
      let more := if j.phase < 2 then missingLines s comp j else []
      if !more.isEmpty then
        replaceJob s c j (some { j with phase := j.phase + 1, todo := more.map (fun l => { line := l, op := opRdNc }) })
      else
        match deliverAll comp j (countExpanded s comp j) j.dests false with
        | .inl (s1, p) => endJob s1 c j p
        | .inr (s1, line, e) =>
          jobFault (decodeFailed (replaceJob s1 c j none) comp line e) c j stDecodeError (dRequestFailed + 2 ^ 8 * e)
  | 2 =>
    let src := (j.dests.map Prod.fst).headD 0
    let dst := (j.dests.map Prod.snd).headD 0
    let d := TileDesc.ofNat j.desc
    let s0 := if j.phase = 0 then addStat s 0x272005 0 j.rows.length else s
    if gaFabric j.leg && decide (j.phase = 0) && !j.rows.isEmpty then
      let s1 := if badRows j src then poisonedOutput s0 c j.pc else s0
      replaceJob s1 c j (some { j with phase := 1, todo := gatherWrites j src dst })
    else if gaFabric j.leg then endJob s0 c j false
    else
      let rows := j.rows.map (gotRow j src)
      let s1 := writeLoc s0 dst (rows.length * d.rowBytes) (pack (rows.map (fun x => (8 * d.rowBytes, x.1))))
      let bad := rows.zipIdx.filter (fun x => x.1.2)
      endJob (bad.foldl (fun s x => markUnits s (dst + x.2 * d.rowBytes) d.rowBytes) s1) c j (!bad.isEmpty)
  | _ => endJob s c j false

/-- Finish a job if it is idle. -/
def settleJob (s : State) (c comp : Nat) (j : Job) : State :=
  if j.idle then jobDone s c comp j else s

/-- Whether a job has lines to send, now or after the answers it waits for. -/
def Job.owes (j : Job) : Bool :=
  !j.todo.isEmpty || !j.again.isEmpty ||
  (decide (legKind j.leg = 1) && decide (mvDir j.leg = 0) && decide ((TileDesc.ofNat j.desc).codec ≠ 0) && decide (j.phase < 2)) ||
  (decide (legKind j.leg = 2) && gaFabric j.leg && decide (j.phase = 0) && !j.rows.isEmpty)

/-- The tile mover sends, leg by leg in issue order (R176): the first job that owes lines, then the next; it stops at the
budget (R197), or where a job must hear answers first. `fuel` bounds the jobs. -/
def pumpCore : Nat → State → Nat → Nat → State
  | 0, s, _, _ => s
  | n + 1, s, c, comp =>
    match (coreOf s c).jobs.find? Job.owes with
    | some j =>
      if j.todo.isEmpty && j.again.isEmpty then s
      else
        let (s1, j1) := pump s c comp j
        let s2 := settleJob (replaceJob s1 c j (some j1)) c comp j1
        if j1.stalled.isSome then s2 else pumpCore n s2 c comp
    | none => s

/-- A core's tile mover goes on with its launch, while that runs. -/
def moverGo (s : State) (c : Nat) : State :=
  match headLaunch s c with
  | some l => if l.state = 1 then pumpCore (3 * (coreOf s c).jobs.length + 3) s c l.comp else s
  | none => s

/-! ## Issue of mover legs -/

/-- A new job: listed in its core behind the earlier ones; it is finished if it has nothing to send or to hear. -/
def startJob (s : State) (c comp : Nat) (j : Job) : State :=
  let j1 := { j with since := s.home.admits }
  let s1 := setCore s c { coreOf s c with jobs := (coreOf s c).jobs ++ [j1] }
  if j1.idle then moverGo (jobDone s1 c comp j1) c else moverGo s1 c

/-- Whether a `MOVE` of directions 0 and 1 meets R177 under its descriptor. -/
def moveOk (d : TileDesc) (v l : Nat) : Bool :=
  let whole := decide (mvFirst l = 0) && decide (mvLines l = 512)
  tileDescOk v && (whole || (decide (d.swizzle = 0) && decide (d.codec = 0))) &&
  !(decide (mvDir l = 1) && decide (d.codec = 1)) && decide (mvFirst l + mvLines l ≤ 512)

/-- Whether a descriptor is one that a `GATHER` may name (R163): rows of whole 32-byte units, in `ROW` layout, not coded. -/
def gatherOk (v : Nat) : Bool :=
  let d := TileDesc.ofNat v
  tileDescOk v && decide (d.swizzle = 0) && decide (d.codec = 0) && decide (d.rowBytes % 32 = 0) &&
  decide (d.rowBytes * 8 = d.cols * formatBits d.format)

/-- The reads of a `MOVE` of direction 0. -/
def moveReads (s : State) (d : TileDesc) (l : Nat) (tiles : List Nat) : List MReq :=
  (tiles.map (fun t =>
    let ks := if decide (d.codec ≠ 0) && !expandedHere s t then firstLines d
      else (List.range (mvLines l)).map (fun i => mvFirst l + i)
    ks.map (fun k => { line := t * 512 + k, op := opRdNc }))).flatten

/-- The lines that an `ACTIVATION` write stores for one block: coded, or raw (R137); the state counts it (R139). -/
def codeBlock (s : State) (d : TileDesc) (comp first raw : Nat) : State × List (Nat × Nat) :=
  let size := blockSize d first
  match codeActivation (codecKey s comp) first raw size (formatBits d.format) with
  | some (v, n) => (countBlock s size n false, (List.range n).map (fun i => (first + i, bits v (1024 * i) 1024)))
  | none =>
    let n := size / 128
    (countBlock s size n true, (List.range n).map (fun i => (first + i, bits raw (1024 * i) 1024)))

/-- Free values for n lines, as one number (log entry 26). -/
def freeLines : Nat → State → Nat × State
  | 0, s => (0, s)
  | n + 1, s =>
    let (i, s1) := drawFree s
    let (v, s2) := freeLines n s1
    ((Config.freeLine i).toNat + 2 ^ 1024 * v, s2)

/-- The writes of one engine's tile in a `MOVE` of direction 1: every line of the leg, poisoned where the leg read a marked unit
(R28). An inverse layout says nothing of the bytes past its areas: they are free values (log entry 26). -/
def tileWrites (s : State) (comp : Nat) (d : TileDesc) (l t a : Nat) (bad : Bool) : State × List MReq :=
  let swizzled := decide (mvFirst l = 0) && decide (mvLines l = 512) && decide (d.swizzle ≠ 0)
  let raw := readLoc s a (mvBytes d l)
  let area := d.dataBytes + d.scaleBytes
  let (free, s1) := if swizzled then freeLines (513 - area / 128) s else (0, s)
  let img := if swizzled then storedImage d raw (free % 2 ^ 1024) + 2 ^ (8 * area) * (free / 2 ^ 1024) else raw
  let one : Nat → Nat → Bool → MReq := fun line v coded =>
    { line := line, op := opWrNc, data := BitVec.ofNat 1024 v, poison := bad, coded := coded }
  let plain := ((List.range (mvLines l)).filter (fun i => !codedAt d (t * 512 + mvFirst l + i))).map (fun i =>
    one (t * 512 + mvFirst l + i) (bits img (1024 * i) 1024) (decide (d.codec = 2)))
  if d.codec = 2 then
    let (s2, cs) := (blockFirsts d t).foldl (fun acc f =>
      let (s', ws) := codeBlock acc.1 d comp f (bits img (1024 * (f - t * 512)) (8 * blockSize d f))
      (s', acc.2 ++ ws.map (fun w => one w.1 w.2 true))) (s1, [])
    (s2, cs ++ plain)
  else (s1, plain)

/-- Issue a `MOVE` between the span and local memory (R177). -/
def issueMove (s : State) (c comp : Nat) (k : Core) (l : Nat) (rs : List LRange) : State :=
  let v := getObj s 0x211203 (comp + mvDesc l * 2 ^ 8)
  let d := TileDesc.ofNat v
  let dests := (eposList l).map (fun p => (termVal k (mvTerm l) p.1, locAddr c p.2 (mvAddr k l)))
  if mvDir l = 0 then
    startJob s c comp { leg := l, pc := k.pc, iter := iterationOf k, todo := moveReads s d l (dests.map Prod.fst).dedup, ranges := rs,
                        dests := dests, desc := v }
  else
    let bad := dests.any (fun x => marked s x.2 (mvBytes d l))
    let (s1, ws) := dests.foldl (fun acc x =>
      let (s', w) := tileWrites acc.1 comp d l x.1 x.2 bad
      (s', acc.2 ++ w)) (if bad then poisonedOutput s c k.pc else s, [])
    startJob s1 c comp { leg := l, pc := k.pc, iter := iterationOf k, todo := ws, ranges := rs, dests := dests, desc := v }

/-- Issue a `MOVE` between the core buffer and operand memories (R177): the output of a marked source is marked whole. -/
def issueCopy (s : State) (c : Nat) (k : Core) (l : Nat) : State :=
  let n := 128 * mvLines l
  let pairs := (eposList l).map (fun p =>
    let op := locAddr c p.2 (2 ^ 19 + mvLocal l % 2 ^ 14)
    let cb := locAddr c 0 ((mvLocal2 l + p.1 * mvStride l) % 2 ^ 18)
    if mvDir l = 2 then (cb, op) else (op, cb))
  let bad := pairs.any (fun x => marked s x.1 n)
  let s1 := (pairs.map (fun x => (x.2, readLoc s x.1 n))).foldl (fun s x => writeOut s x.1 n x.2 bad) s
  if bad then poisonedOutput s1 c k.pc else s1

/-- The rows of the source of a gather: to the end of the extent that holds its base tile (log entry 29). -/
def gatherRows (s : State) (d : TileDesc) (base : Nat) : Option Nat :=
  (extentAt s (base * 512)).map (fun x => (x.2.base + x.2.length - base) * d.rows)

/-- Cut an index list at the first index out of range (R164). -/
def cutRows (limit : Option Nat) : List Nat → List (Option Nat) × Nat
  | [] => ([], 0)
  | i :: r =>
    if i = 0xFFFFFFFF then let (a, f) := cutRows limit r; (none :: a, f)
    else if (match limit with | some n => decide (n ≤ i) | none => false) then ([], dIndexRange)
    else let (a, f) := cutRows limit r; (some i :: a, f)

/-- Issue a `GATHER` (R163, R164, R178). -/
def issueGather (s : State) (c comp : Nat) (k : Core) (l : Nat) (rs : List LRange) : State :=
  let v := getObj s 0x211203 (comp + gaDesc l * 2 ^ 8)
  let d := TileDesc.ofNat v
  let la := locAddr c 0 (gaList l % 2 ^ 18)
  let base := termVal k (gaTerm l) 0
  if marked s la (4 * gaCount l) then legFault s c k 0 dPoisonedIndex
  else
    let idx := (List.range (gaCount l)).map (fun i => bits (readLoc s la (4 * gaCount l)) (32 * i) 32)
    let (rows, f) := cutRows (gatherRows s d base) idx
    let lines := ((rows.filterMap id).map (fun r =>
      let (_, l0, l1) := gatherRow d base r
      (List.range (l1 - l0 + 1)).map (fun i => l0 + i))).flatten.dedup
    let dst := if gaFabric l then gaDest k l else locAddr c ((legEngines l).headD 0) (gaLocal l)
    startJob s c comp { leg := l, pc := k.pc, iter := iterationOf k, todo := lines.map (fun x => { line := x, op := opRdNc }), ranges := rs,
                        dests := [(base, dst)], rows := rows, desc := v, fault := f }

/-- Issue a `SEND` or `STASH` (R182); one that reads a marked unit writes every line poisoned (R28, R198). -/
def issueSend (s : State) (c comp : Nat) (k : Core) (l : Nat) (rs : List LRange) : State :=
  let stash := decide (legKind l = 7)
  let host := if stash then (if sdRinger l then coreHost s c else sdHost l) else 0
  let bad := (eposList l).any (fun p => marked s (locAddr c p.2 (sdLocal l)) (128 * sdLines l))
  let s := if bad then poisonedOutput s c k.pc else s
  let ws := ((eposList l).map (fun p =>
    let a := locAddr c p.2 (sdLocal l)
    let first := termVal k (sdTerm l) p.1 * 512 + sdLine l
    (List.range (sdLines l)).map (fun i =>
      { line := first + i, op := if stash then opWrStash else opWrNc, host := host,
        data := BitVec.ofNat 1024 (readLoc s (a + 128 * i) 128), poison := bad }))).flatten
  startJob s c comp { leg := l, pc := k.pc, iter := iterationOf k, todo := ws, ranges := rs }

/-! ## Answers, timeouts, periods -/

/-- The job of a core that has a request outstanding under a tag. -/
def jobOfTag (k : Core) (tag : Nat) : Option (Job × MReq) :=
  k.jobs.findSome? (fun j => (j.outstanding.find? (fun q => decide (q.tag = tag))).map (fun q => (j, q)))

/-- A request of a stopped core is answered or timed out: it is dropped (R196). -/
def dropAnswer (s : State) (c : Nat) (j : Job) (q : MReq) (seq : Nat) : State :=
  let j1 := { j with outstanding := eraseFirst j.outstanding (fun x => decide (x = q)) }
  drainLaunch (replaceJob s c j (if j1.outstanding.isEmpty then none else some j1)) seq

/-- A core handles a response to one of its line requests (R198, R199). -/
def coreAnswer (s : State) (c : Nat) (m : Msg) : State :=
  let k := coreOf s c
  match jobOfTag k m.tag, k.queue with
  | some (j, q), seq :: _ =>
    (match launchOf s seq with
     | some l =>
       let s := chargeMover s c l.comp m.slotCount
       if l.state = 2 then dropAnswer s c j q seq
       else
         let j0 := { j with outstanding := eraseFirst j.outstanding (fun x => decide (x = q)) }
         if m.status = stRetry then moverGo (replaceJob s c j (some { j0 with again := j0.again ++ [q] })) c
         else if m.status = stOk ∨ m.status = stPoison then
           let j1 := if q.op = opRdNc then
               { j0 with got := j0.got.put q.line (if m.opcode = opRespData then m.dataNat % 2 ^ 1024 else 0,
                                                    m.poison || decide (m.status = stPoison)) }
             else j0
           moverGo (settleJob (replaceJob s c j (some j1)) c l.comp j1) c
         else jobFault (replaceJob s c j (some j0)) c j m.status (dRequestFailed + 2 ^ 8 * m.detail)
     | none => s)
  | _, _ => s

/-- Cores handle the responses that have reached them; answers may bring others, so `fuel` bounds the rounds. -/
def handleInbox : Nat → State → State
  | 0, s => s
  | n + 1, s =>
    match s.compute.inbox with
    | [] => s
    | ms => handleInbox n (ms.foldl (fun s x => coreAnswer s x.1 x.2) (s.onCompute (fun x => { x with inbox := [] })))

/-- A tile mover request is unanswered, repeats included, within object 2210.01 (R38, R199). -/
def coreTimeout (s : State) (c tag : Nat) : State :=
  let k := coreOf s c
  let waiting := k.jobs.findSome? (fun j => ((j.outstanding ++ j.again).find? (fun q => decide (q.tag = tag))).map (fun q => (j, q)))
  match waiting, k.queue with
  | some (j, q), seq :: _ =>
    let s1 := forgetSent (reachTime s q.deadline) (ownAgent s (c + 1)) tag
    (match launchOf s1 seq with
     | some l =>
       let j0 := { j with outstanding := eraseFirst j.outstanding (fun x => decide (x = q)),
                          again := eraseFirst j.again (fun x => decide (x = q)) }
       if l.state = 2 then dropAnswer s1 c j q seq
       else jobFault (replaceJob s1 c j (some j0)) c j stTimeout dRequestFailed
     | none => s1)
  | _, _ => s

/-- A new period: a job's cycles at a standstill are counted, and it may send again (R197). -/
def resumeJob (c : Nat) (s : State) (j : Job) : State :=
  if j.stalled.isSome then replaceJob (stallCounted s j) c j (some { j with stalled := none }) else s

/-- All tile movers at the start of a period. -/
def resumeMovers (s : State) : State :=
  s.compute.cores.keys.foldl (fun s c => moverGo ((coreOf s c).jobs.foldl (resumeJob c) s) c) s

/-- Decode-capable tile moves that issued up to an admission number (R134). -/
def moverRefs (s : State) (before : Nat) : Nat :=
  (s.compute.cores.map (fun p => (p.2.jobs.filter (fun j => decide (legKind j.leg = 1) && decide (mvDir j.leg = 0) &&
    decide ((TileDesc.ofNat j.desc).codec = 1) && decide (j.since ≤ before))).length)).sum

end Sys2Proof.Machine
end

