-- ==== Sys2Proof/Machine/Verify.lean ====
section
/-! DEFINITION. The steward's nine checks of an itinerary (R191, R192). -/

namespace Sys2Proof.Machine

/-- Reasons of the steward checks table (R191). -/
abbrev rjEncoding : Nat := 1
abbrev rjNesting : Nat := 2
abbrev rjLocalRange : Nat := 3
abbrev rjFormat : Nat := 4
abbrev rjRights : Nat := 5
abbrev rjTileDesc : Nat := 6
abbrev rjTarget : Nat := 7
abbrev rjNoEnd : Nat := 8
abbrev rjCores : Nat := 9

/-- Whether an element format is one of the format table. -/
def knownFormat (f : Nat) : Bool := decide (formatBits f ≠ 0)

/-- Whether a 20-bit local address has no reserved bit set (R172). -/
def localOk (a : Nat) : Bool := !bit a 18 && (!bit a 19 || decide (bits a 14 4 = 0))

/-- Whether a 20-bit address is one of the core buffer. -/
def bufferAddr (a : Nat) : Bool := localOk a && !bit a 19

/-- The vector operations of the table (R180). -/
def knownVecOp (op : Nat) : Bool :=
  decide (op ≤ 0x0A) || (decide (0x10 ≤ op) && decide (op ≤ 0x15)) || (decide (0x18 ≤ op) && decide (op ≤ 0x1D)) ||
  decide (op = 0x20) || decide (op = 0x21)

/-- Whether a leg holds no reserved kind, value, encoding or bit (reason 1). -/
def legEncodingOk (l : Nat) : Bool :=
  decide (bits l 13 3 = 0) &&
  (match legKind l with
   | 0 => decide (legEngines l = []) && decide (bits l 16 112 = 0)
   | 1 =>
     decide (bits l 126 2 = 0) && localOk (mvLocal l) &&
     (decide (mvDir l < 2) || (bufferAddr (mvLocal2 l) && decide (bits l 82 12 = 0) && decide (mvFirst l = 0)))
   | 2 =>
     bufferAddr (gaList l) &&
     (if gaFabric l then decide (legEngines l = [])
      else localOk (gaLocal l) && decide (bits l 125 3 = 0) &&
        decide ((legEngines l).length = if bit (gaLocal l) 19 then 1 else 0))
   | 3 =>
     decide (bits l 91 37 = 0) && knownFormat (arSFormat l) && (arNoStream l || knownFormat (arBFormat l)) &&
     (!arNoStream l || arLoad l)
   | 4 =>
     decide (bits l 93 3 = 0) && knownVecOp (veOp l) &&
     (if veOp l = 9 then knownFormat (veIn l) && knownFormat (veOut l)
      else decide (veIn l = 0) && decide (veOut l = 0) && !veRound l && !veSat l) &&
     (decide (veOp l = 0x20) || decide (veOp l = 0x21) || decide (veRows l = 1)) &&
     (decide (veImm l = 0) || decide (veOp l = 7) || (decide (0x18 ≤ veOp l) && decide (veOp l ≤ 0x1D)) ||
       (decide (veOp l = 9) && veRound l))
   | 5 => decide (seInput l ≠ 3) && !(seMasked l && decide (seInput l = 1))
   | 6 => localOk (sdLocal l) && decide (bits l 106 22 = 0)
   | 7 => localOk (sdLocal l) && !bit l 116 && decide (bits l 118 10 = 0)
   | 8 =>
     decide (legEngines l = []) && decide (bits l 48 80 = 0) && decide (bits l 16 2 < 2) &&
     (decide (bits l 16 2 = 1) || decide (bits l 32 16 ≠ 0))
   | 9 => decide (legEngines l = []) && decide (bits l 72 56 = 0)
   | 10 => decide (legEngines l = []) && decide (bits l 45 83 = 0) && decide (bits l 32 13 ≠ 0)
   | _ => false)

/-- The repeats whose bodies hold leg n, outermost first: their legs' numbers and the last leg of each body. -/
def enclosing (legs : List Nat) (n : Nat) : List (Nat × Nat) :=
  (legs.zipIdx.filter (fun x => decide (legKind x.1 = 10) && decide (x.2 < n) && decide (n ≤ x.2 + bits x.1 32 13))).map
    (fun x => (x.2, x.2 + bits x.1 32 13))

/-- Whether a repeat nests at most four deep and its body lies within what encloses it (reason 2). -/
def nestingOk (legs : List Nat) (n l : Nat) : Bool :=
  decide (legKind l ≠ 10) ||
  (let last := n + bits l 32 13
   decide ((enclosing legs n).length < 4) && decide (last < legs.length) && (enclosing legs n).all (fun x => decide (last ≤ x.2)))

/-- The largest index of each of the four repeat levels at leg n. -/
def maxIndexes (legs : List Nat) (n : Nat) : List Nat :=
  (List.range 4).map (fun i => match (enclosing legs n)[i]? with | some x => bits (legs.getD x.1 0) 16 16 | none => 0)

/-- The local ranges of a leg at their farthest (R191): whether in operand memory, first byte, bytes. -/
def farRanges (s : State) (comp : Nat) (idx : List Nat) (l : Nat) : List (Bool × Nat × Nat) :=
  let at_ : Nat → Nat → Nat → Bool × Nat × Nat := fun a more n =>
    (bit a 19, ((if bit a 19 then a % 2 ^ 14 else a % 2 ^ 18) + more) * 32, n)
  let op : Nat → Nat → Bool × Nat × Nat := fun off n => (true, off * 32, n)
  let last := (eposList l).length - 1
  match legKind l with
  | 1 =>
    if mvDir l < 2 then
      [at_ (mvLocal l) (mvStep l * idx.getD (bits (mvTerm l) 23 2) 0) (mvBytes (tileDescOf s comp (mvDesc l)) l)]
    else [op (mvLocal l % 2 ^ 14) (128 * mvLines l), at_ (mvLocal2 l) (last * mvStride l) (128 * mvLines l)]
  | 2 =>
    at_ (gaList l) 0 (4 * gaCount l) ::
      (if gaFabric l then [] else [at_ (gaLocal l) 0 (gaCount l * (tileDescOf s comp (gaDesc l)).rowBytes)])
  | 3 =>
    (if arLoad l then [op (arSSrc l) (operandBytes (arSFormat l) (arRows l * arK l))] else []) ++
    (if arNoStream l then [] else
      [op (arBSrc l) (operandBytes (arBFormat l) (arN l * arK l)), op (arCDst l) (4 * arRows l * arN l)])
  | 4 => let (na, nb, nd, _) := vecSpans l; [op (veA l) na, op (veB l) nb, op (veD l) nd]
  | 5 =>
    [op (seSrc l) (seBytes l), op (seMask l) (if seMasked l then ceilDiv (seN l) 8 else 0),
     op (seDst l) (if seEmit l then 8 * seK l else 0)]
  | 6 => [at_ (sdLocal l) 0 (128 * sdLines l)]
  | 7 => [at_ (sdLocal l) 0 (128 * sdLines l)]
  | _ => []

/-- Whether a leg's local ranges lie within 8 MiB of core buffer or 512 KiB of operand memory (reason 3). -/
def localRangesOk (s : State) (comp : Nat) (idx : List Nat) (l : Nat) : Bool :=
  (farRanges s comp idx l).all (fun x => decide (x.2.1 + x.2.2 ≤ if x.1 then 2 ^ 19 else 2 ^ 23) || decide (x.2.2 = 0))

/-- Whether an `ARRAY` leg's formats are array operands (reason 4): neither FP32 nor INT32 (R147). -/
def formatOk (l : Nat) : Bool :=
  let good : Nat → Bool := fun f => decide (f ≠ 0) && decide (f ≠ 12)
  decide (legKind l ≠ 3) || (good (arSFormat l) && (arNoStream l || good (arBFormat l)))

/-- Every value of a base register on a rank's core (R174): the smallest, and how far the arguments carry it. -/
def baseRange (d r n : Nat) : Nat × Nat :=
  ((itBaseInit d n + r * itStride d n) % 2 ^ 32,
    ((List.range 4).map (fun a => if itArgOn d a && decide (itArgMap d a = n) then itLimit d a else 0)).sum)

/-- The tile ranges that a fabric term names over every rank, repeat index and epos, `n` tiles from each value (R173, R191):
first tile and tiles. -/
def termRanges (d : Nat) (idx : List Nat) (l t n : Nat) : List (Nat × Nat) :=
  ((List.range (setBitList (itCores d) 24).length).map (fun r =>
    let (lo, span) := baseRange d r (bits t 0 3)
    ((List.range (idx.getD (bits t 23 2) 0 + 1)).map (fun i =>
      (eposList l).map (fun p =>
        (ofInt ((lo + bits t 3 20 + p.1 * bits t 37 11 : Nat) + (i : Int) * sint (bits t 25 12) 12) 32, span + n)))).flatten)).flatten

/-- The tile ranges that a leg reads, and those that it writes. -/
def fabricRanges (s : State) (d : Nat) (idx : List Nat) (l : Nat) : List (Nat × Nat) × List (Nat × Nat) :=
  match legKind l with
  | 1 =>
    if mvDir l = 0 then (termRanges d idx l (mvTerm l) 1, [])
    else if mvDir l = 1 then ([], termRanges d idx l (mvTerm l) 1) else ([], [])
  | 2 =>
    let rows := (tileDescOf s (itComp d) (gaDesc l)).rows
    (termRanges d idx l (gaTerm l) 1,
      if gaFabric l then
        (List.range (setBitList (itCores d) 24).length).map (fun r =>
          let (lo, span) := baseRange d r (bits l 105 3)
          ((lo + bits l 108 20) % 2 ^ 32, span + ceilDiv (gaCount l) rows))
      else [])
  | 6 => ([], (termRanges d idx l (sdTerm l) ((sdLine l + sdLines l - 1) / 512 + 1)))
  | 7 => ([], (termRanges d idx l (sdTerm l) ((sdLine l + sdLines l - 1) / 512 + 1)))
  | _ => ([], [])

/-- Whether every tile that a leg reads or writes lies in an `ACTIVE` extent of the composition with the rights for it
(reason 5). -/
def rightsOk (s : State) (d : Nat) (idx : List Nat) (l : Nat) : Bool :=
  let (rd, wr) := fabricRanges s d idx l
  let good : Bool → Extent → Bool := fun write e =>
    decide (e.state = 1) && decide (e.comp = itComp d) && e.canCompute && (if write then e.canWrite else e.canRead)
  rd.all (fun x => spanOk s (good false) (extFuel s) x.1 x.2) && wr.all (fun x => spanOk s (good true) (extFuel s) x.1 x.2)

/-- Whether the descriptors that a leg names meet R177, R163 and the codec rules now (reason 6). -/
def legDescOk (s : State) (comp l : Nat) : Bool :=
  match legKind l with
  | 1 => decide (2 ≤ mvDir l) || moveOk (tileDescOf s comp (mvDesc l)) (getObj s 0x211203 (comp + mvDesc l * 2 ^ 8)) l
  | 2 => gatherOk (getObj s 0x211203 (comp + gaDesc l * 2 ^ 8))
  | _ => true

/-- Whether a `SIGNAL`'s rank exists and a `STASH`'s host is a member (reason 7). -/
def targetOk (s : State) (d l : Nat) : Bool :=
  match legKind l with
  | 7 => sdRinger l || isMember s (itComp d) (sdHost l)
  | 8 => decide (bits l 16 2 ≠ 0) || decide (bits l 23 5 < (setBitList (itCores d) 24).length)
  | _ => true

/-- Whether the last leg is `END` and lies in no repeat body (reason 8). -/
def endsOk (legs : List Nat) : Bool :=
  decide (legKind (legs.getLastD 0) = 0) && (enclosing legs (legs.length - 1)).isEmpty

/-- Whether the launch parameters name cores and entries that are there (reason 9). -/
def coresOk (s : State) (d : Nat) : Bool :=
  decide (itCores d ≠ 0) && (List.range 4).all (fun i => decide (itEntry d i < itCount d)) &&
  (setBitList (itCores d) 24).all (fun c => coreGranted s (itComp d) c)

/-- The first leg that fails a check, with the check's reason. -/
def firstBad (legs : List Nat) (reason : Nat) (ok : Nat → Nat → Bool) : Option (Nat × Nat) :=
  (legs.zipIdx.find? (fun x => !ok x.2 x.1)).map (fun x => (x.2, reason))

/-- R191 on an itinerary as everything stands now: the leg number and the reason of the first failure, none if every check
passes. The checks come in the table's order, each over the legs in turn; a failure of the descriptor names leg 0 (DESIGN
CHOICE, log entry 118: the rule gives no order). -/
def stewardCheck (s : State) (i : Nat) : Option (Nat × Nat) :=
  let d := (itinOf s i).desc
  let comp := itComp d
  let legs := (List.range (itCount d)).map (legAt s i)
  let idx := fun n => maxIndexes legs n
  firstBad legs rjEncoding (fun _ l => legEncodingOk l) <|>
  firstBad legs rjNesting (nestingOk legs) <|>
  firstBad legs rjLocalRange (fun n l => localRangesOk s comp (idx n) l) <|>
  firstBad legs rjFormat (fun _ l => formatOk l) <|>
  firstBad legs rjRights (fun n l => rightsOk s d (idx n) l) <|>
  firstBad legs rjTileDesc (fun _ l => legDescOk s comp l) <|>
  firstBad legs rjTarget (fun _ l => targetOk s d l) <|>
  (if endsOk legs then none else some (itCount d - 1, rjNoEnd)) <|>
  (if coresOk s d then none else some (0, rjCores))

end Sys2Proof.Machine
end

