-- ==== Sys2Proof/Machine/Steppers.lean ====
section
/-! DEFINITION. The stepper's legs, doorbells, itinerary commands, reduce commands, and resets of cores and compositions
(R155, R156, R166, R169, R170-R202, R377). -/

namespace Sys2Proof.Machine

/-! ## Issue (R176) -/

/-- The composition of a core's running launch. -/
def runningComp (s : State) (c : Nat) : Option Nat :=
  match headLaunch s c with
  | some l => if (coreOf s c).started && decide (l.state = 1) then some l.comp else none
  | none => none

/-- Whether the power cap holds back a kind of leg: array and vector legs, while their issue rate is 0 of 16 (R374). -/
def throttled (s : State) (kind : Nat) : Bool := (decide (kind = 3) || decide (kind = 4)) && decide (s.power.rate = 0)

/-- A core takes its next leg, of a given kind, if it may issue now; `go` is the leg's effect from the core as it was. A
stopped PLL has locked by then (R166, R377). -/
def issueLeg (s : State) (c kind : Nat) (go : State → Nat → Core → Nat → List LRange → State) : State :=
  match runningComp s c, (coreOf s c).queue with
  | some comp, q :: _ =>
    let k := coreOf s c
    let it := match launchOf s q with | some l => l.itin | none => 0
    let l := legAt s it k.pc
    let rs := legRanges s c comp k l
    if legKind l = kind ∧ k.waiting = none ∧ !hazard k l rs ∧ c < 24 ∧ !throttled s kind then
      let k0 := { k with pllOff := false }
      let s1 := addStat (setCore s c (advance k0)) 0x282005 0 1
      if rs.any (intoReserve s c) then legFault s1 c k0 0 dLocalReserved else go s1 comp k0 l rs
    else s
  | _, _ => s

/-- `MOVE` (R177). -/
def moveLeg (s : State) (c : Nat) : State :=
  issueLeg s c 1 (fun s comp k l rs =>
    if 2 ≤ mvDir l then issueCopy s c k l
    else
      let v := getObj s 0x211203 (comp + mvDesc l * 2 ^ 8)
      if moveOk (TileDesc.ofNat v) v l then issueMove s c comp k l rs else legFault s c k 0 dBadTile)

/-- `GATHER` (R163, R178). -/
def gatherLeg (s : State) (c : Nat) : State :=
  issueLeg s c 2 (fun s comp k l rs =>
    if gatherOk (getObj s 0x211203 (comp + gaDesc l * 2 ^ 8)) then issueGather s c comp k l rs else legFault s c k 0 dBadTile)

/-- Run an engine leg on each engine it names. -/
def onEngines (s : State) (c : Nat) (k : Core) (l : Nat) (f : State → Nat → Nat → State × Bool) : State :=
  let gs := (legEngines l).map (fun e => 8 * c + e)
  let (s1, bad) := gs.zipIdx.foldl (fun acc x => let (s', p) := f acc.1 x.1 x.2; (s', acc.2 || p)) (useEngines s gs, false)
  if bad then poisonedOutput s1 c k.pc else s1

/-- `ARRAY` (R179): an engine without a stationary block ends the launch. -/
def arrayLeg (s : State) (c : Nat) : State :=
  issueLeg s c 3 (fun s _ k l _ =>
    let gs := (legEngines l).map (fun e => 8 * c + e)
    if !arLoad l && gs.any (fun g => !s.compute.blocks.has g) then legFault s c k 0 dBadLeg
    else onEngines s c k l (fun s g _ => (arrayEngine s l g).getD (s, false)))

/-- `VECTOR` (R180). -/
def vectorLeg (s : State) (c : Nat) : State :=
  issueLeg s c 4 (fun s _ k l _ => onEngines s c k l (fun s g _ => vectorEngine s l g))

/-- `SELECT` (R181). -/
def selectLeg (s : State) (c : Nat) : State :=
  issueLeg s c 5 (fun s _ k l _ => onEngines s c k l (fun s g p => selectEngine s k l g p))

/-- `SEND` and `STASH` (R182). -/
def sendLeg (s : State) (c : Nat) : State := issueLeg s c 6 (fun s comp k l rs => issueSend s c comp k l rs)
def stashLeg (s : State) (c : Nat) : State := issueLeg s c 7 (fun s comp k l rs => issueSend s c comp k l rs)

/-- Whether a core's earlier legs have all completed (R183, R188). -/
def legsDone (s : State) (c : Nat) : Bool := (coreOf s c).jobs.isEmpty

/-- A signal to the core of a rank: added now, or held until that core starts the launch (R183, R186). -/
def signalRank (s : State) (q : Nat) (l : Launch) (rank counter n : Nat) : State :=
  match coreOfRank (itCores (itinOf s l.itin).desc) rank with
  | some c =>
    if ((coreOf s c).queue.head? = some q ∧ (coreOf s c).started) ∨ l.done.contains c then addCounter s c counter n
    else putLaunch s q { l with held := l.held ++ [(c, counter, n)] }
  | none => s

/-- `SIGNAL` (R183): only once every earlier leg has completed. -/
def signalLeg (s : State) (c : Nat) : State :=
  if legsDone s c then
    issueLeg s c 8 (fun s comp _ l _ =>
      match (coreOf s c).queue with
      | q :: _ =>
        (match launchOf s q with
         | some x =>
           if bits l 16 2 = 0 then signalRank s q x (bits l 23 5) (bits l 18 5) (bits l 32 16)
           else if bits l 16 2 = 1 then trigger s comp (bits l 28 4) else s
         | none => s)
      | [] => s)
  else s

/-- `AWAIT` (R185): passes at once, or waits with its deadline. -/
def awaitLeg (s : State) (c : Nat) : State :=
  issueLeg s c 9 (fun s _ k l _ =>
    let i := bits l 16 5
    let origin := if bit l 21 then 0 else s.compute.origins.getD (counterKey c i) 0
    let t := (origin + bits l 22 32 + loopIdx k (bits l 54 2) * bits l 56 16) % 2 ^ 32
    if reached (counterOf s c i) t then s
    else setCore s c { k with waiting := some (s.now + 1000 * cfg s 0x282001, i * 2 ^ 32 + t) })

/-- `AWAIT_TIMEOUT` (R185). -/
def awaitTimeout (s : State) (c : Nat) : State :=
  let k := coreOf s c
  match k.waiting with
  | some (d, _) => legFault (reachTime s d) c k 0 dAwaitTimeout
  | none => s

/-- `REPEAT` (R175): it takes no issue cycle, and its body follows. -/
def repeatLeg (s : State) (c : Nat) : State :=
  issueLeg s c 10 (fun s _ k l _ =>
    setCore s c { k with
      pc := k.pc + 1
      loops := { start := k.pc + 1, stop := k.pc + 1 + bits l 32 13, last := bits l 16 16, idx := 0 } :: k.loops })

/-- `END` (R188, R196): the core is done; the last one ends the launch. -/
def endLeg (s : State) (c : Nat) : State :=
  if legsDone s c then
    issueLeg s c 0 (fun s _ _ _ _ =>
      match (coreOf s c).queue with
      | q :: _ =>
        (match launchOf s q with
         | some l =>
           let l1 := { l with done := l.done ++ [c] }
           let cores := launchCores s l
           if cores.all (fun x => l1.done.contains x) then
             let d := (itinOf s l.itin).desc
             let s1 := addStat s 0x282003 0 1
             let s2 := if itDoneNotify d then trigger s1 l.comp (itDoneVec d) else s1
             popLaunch (dropLaunch s2 q l) c
           else popLaunch (putLaunch s q l1) c
         | none => s)
      | [] => s)
  else s

/-! ## Idle engines and PLLs (R166, R377) -/

/-- `ENGINE_IDLE`: an engine without a leg for object 2730.01 is gated. -/
def engineIdle (s : State) (g : Nat) : State :=
  if g < 192 ∧ !s.compute.gated.contains g then
    (reachTime s (s.compute.engineUse.getD g 0 + cfg s 0x273001)).onCompute (fun x => { x with gated := x.gated ++ [g] })
  else s

/-- `CORE_PLL_IDLE`: in `TRIM`, a core whose engines have been idle for object 2D11.01 stops its PLL, unless a reduce slot
that is not `FREE` names it (R167, R377). -/
def corePllIdle (s : State) (c : Nat) : State :=
  let k := coreOf s c
  if c < 24 ∧ s.power.state = 2 ∧ !k.pllOff ∧ !(usedSlots s).any (fun i => bit (rsCores (slotDesc s i)) c) then
    let last := (List.range 8).foldl (fun m e => max m (s.compute.engineUse.getD (8 * c + e) 0)) 0
    setCore (reachTime s (last + 1000 * cfg s 0x2D1101)) c { k with pllOff := true }
  else s

/-! ## Doorbells (R193-R195) -/

/-- The argument a of a `LAUNCH`. -/
def launchArg (m : Msg) (a : Nat) : Nat := m.fld (32 + 32 * a) 32

/-- Checks of steps 1 and 2 of R193, with R81 and R240: the refusal, if any. -/
def doorbellRefusal (s : State) (m : Msg) : Option (Nat × Nat) :=
  let k := compOf s m.composition
  if k.state = 3 then some (stFatal, dCompositionFatal)
  else if isLost s (peerHost m.peer) then some (stDenied, dHostLost)
  else if k.state = 2 then some (stRetry, dCompositionResetting)
  else if peerIsAgent m.peer || !isMember s m.composition (peerHost m.peer) then some (stDenied, dNotMember)
  else none

/-- `LAUNCH` (R193). -/
def launchAt (s : State) (via : Option Nat) (m : Msg) : State :=
  let say := fun (x : Nat × Nat) => serviceAnswer s via m x.1 x.2 0
  match doorbellRefusal s m with
  | some x => say x
  | none =>
    let i := m.fld 16 8
    let it := itinOf s i
    let d := it.desc
    let cores := setBitList (itCores d) 24
    if it.state ≠ 3 ∨ itComp d ≠ m.composition then say (stDenied, dNotReady)
    else if (List.range 4).any (fun a => if itArgOn d a then decide (itLimit d a < launchArg m a) else decide (launchArg m a ≠ 0)) then
      say (stDenied, dArgRange)
    else if cores.any (fun c => !coreGranted s m.composition c) then say (stDenied, dCoreNotGranted)
    else if cores.any (fun c => decide (4 ≤ (coreOf s c).queue.length)) then say (stRetry, dLaunchQueueFull)
    else
      let q := s.compute.launchSeq
      let l : Launch := { itin := i, comp := m.composition, host := peerHost m.peer, args := m.fld 32 128 }
      let s1 := s.onCompute (fun x => { x with launchSeq := inc32 q, launches := x.launches.put q l })
      let s2 := cores.foldl (fun s c => setCore s c { coreOf s c with queue := (coreOf s c).queue ++ [q] }) s1
      let s3 := cores.foldl (fun s c => if (coreOf s c).started then s else takeNext s c (coreOf s c).queue) s2
      serviceAnswer s3 via m stOk 0 q

/-- `COUNT` (R195). -/
def countAt (s : State) (via : Option Nat) (m : Msg) : State :=
  match doorbellRefusal s m with
  | some x => serviceAnswer s via m x.1 x.2 0
  | none =>
    let c := m.fld 16 8
    let s1 := if c < 24 then outsideSignal s m.composition c (m.fld 24 5) (m.fld 32 16) else addErr s 0x282007 0 1
    serviceAnswer s1 via m stOk 0 0

/-! ## Itinerary commands (R189-R191, R202) -/

/-- Whether a requester may act on an itinerary: the steward, or the owner of its composition (R202). -/
def itinRights (s : State) (w : Requester) (comp : Nat) : Bool := !w.isInband || (decide (w.comp = comp) && decide (clsOf s w ≤ 1))

/-- The first leg of a free contiguous range of n legs. -/
def freeRange (s : State) (n : Nat) : Option Nat :=
  let used := (s.compute.itins.filter (fun p => decide (p.2.state ≠ 0))).map (fun p => (itBase p.2.desc, itCount p.2.desc))
  let starts := 0 :: used.map (fun u => u.1 + u.2)
  (starts.filter (fun a => decide (a + n ≤ 65536) && used.all (fun u => decide (a + n ≤ u.1) || decide (u.1 + u.2 ≤ a)))).foldl
    (fun best a => match best with | none => some a | some b => some (min a b)) none

/-- Status codes of object 2810.06. -/
abbrev isDone : Nat := 0
abbrev isBadState : Nat := 1
abbrev isNoCapacity : Nat := 2
abbrev isBadDescriptor : Nat := 3
abbrev isNotEntitled : Nat := 4

/-- `ALLOC` (R189). -/
def allocCmd (s : State) (w : Requester) : Acc :=
  let i := selVal s w 0x281001
  let v := stagedOf s w 0x281002
  let say := withStatus s w 0x281006
  if (itinOf s i).state ≠ 0 then say isBadState
  else if !itinRights s w (itComp v) then say isNotEntitled
  else if itReserved v || decide (itCount v = 0) || decide (8192 < itCount v) || decide ((compOf s (itComp v)).state = 0) then
    say isBadDescriptor
  else
    match freeRange s (itCount v) with
    | none => say isNoCapacity
    | some b =>
      withStatus (setStaged (setItin s i { state := 1, desc := setBits v 8 16 b }) w 0x281002 0) w 0x281006 isDone

/-- An itinerary command on an itinerary that is not `EMPTY`: refused to another composition's owner (R202). -/
def itinGuard (s : State) (w : Requester) (f : Nat → Itin → Acc) : Acc :=
  let i := selVal s w 0x281001
  let it := itinOf s i
  if it.state ≠ 0 && !itinRights s w (itComp it.desc) then (aeNoAccess, s) else f i it

/-- `CLOSE` (R189). -/
def closeCmd (s : State) (w : Requester) : Acc :=
  itinGuard s w (fun i it =>
    if it.state ≠ 1 then withStatus s w 0x281006 isBadState
    else
      let s1 := post (setItin s i { it with state := 2 }) 0x0801 (some (itComp it.desc)) (pay [(1, i), (4, itCount it.desc)])
      withStatus s1 w 0x281006 isDone)

/-- An itinerary in `CHECKING` is rejected: it is `OPEN` again, with object 2810.08 in 0x0803 (R189). -/
def rejectItin (s : State) (i : Nat) (it : Itin) : State :=
  let r := getObj s 0x281008 i
  post (setItin s i { it with state := 1 }) 0x0803 none (pay [(1, i), (2, bits r 0 13), (1, bits r 16 8)])

/-- `ACCEPT` (R189-R192): the steward alone, which accepts only what passes its nine checks; where one fails it writes the leg
and the reason to object 2810.08 and rejects. -/
def acceptCmd (s : State) (w : Requester) : Acc :=
  if w ≠ .steward then withStatus s w 0x281006 isNotEntitled
  else
    itinGuard s w (fun i it =>
      if it.state ≠ 2 then withStatus s w 0x281006 isBadState
      else
        match stewardCheck s i with
        | none => withStatus (postBoth (setItin s i { it with state := 3 }) (itComp it.desc) 0x0802 (pay [(1, i)])) w 0x281006 isDone
        | some (leg, reason) => withStatus (rejectItin (setObj s 0x281008 i (leg + 2 ^ 16 * reason)) i it) w 0x281006 isDone)

/-- `REJECT` (R189, R190): the steward alone, with object 2810.08. -/
def rejectCmd (s : State) (w : Requester) : Acc :=
  if w ≠ .steward then withStatus s w 0x281006 isNotEntitled
  else
    itinGuard s w (fun i it =>
      if it.state ≠ 2 then withStatus s w 0x281006 isBadState
      else withStatus (rejectItin s i it) w 0x281006 isDone)

/-- `RETIRE` (R189). -/
def retireCmd (s : State) (w : Requester) : Acc :=
  itinGuard s w (fun i it =>
    if it.state ≠ 3 then withStatus s w 0x281006 isBadState
    else withStatus (retireCheck (setItin s i { it with state := 4 }) i) w 0x281006 isDone)

/-- `FREE` (R189). -/
def freeCmd (s : State) (w : Requester) : Acc :=
  itinGuard s w (fun i it =>
    if it.state = 1 ∨ it.state = 2 then withStatus (releaseItin s i) w 0x281006 isDone
    else withStatus s w 0x281006 isBadState)

/-- A write of object 2810.02: staged in `EMPTY`; in `OPEN` it changes all but the fields fixed at `ALLOC` (R189). -/
def itinWrite (s : State) (w : Requester) (offset len v : Nat) : Acc :=
  let i := selVal s w 0x281001
  let it := itinOf s i
  if it.state = 0 then
    let x := setBits (stagedOf s w 0x281002) (8 * offset) (8 * len) v
    if itReserved x then (aeRange, s) else (aeOk, setStaged s w 0x281002 x)
  else if !itinRights s w (itComp it.desc) then (aeNoAccess, s)
  else if it.state ≠ 1 then (aeState, s)
  else
    let x := setBits it.desc (8 * offset) (8 * len) v
    if itReserved x then (aeRange, s)
    else (aeOk, setItin s i { it with desc := setBits (setBits x 0 7 (itComp it.desc)) 8 30 (bits it.desc 8 30) })

/-- A write of the selected leg: only in `OPEN` (R189). -/
def legWrite (s : State) (w : Requester) (v : Nat) : Acc :=
  let i := selVal s w 0x281001
  let n := selVal s w 0x281003
  let it := itinOf s i
  if it.state ≠ 1 then (aeState, s)
  else if !itinRights s w (itComp it.desc) then (aeNoAccess, s)
  else if itCount it.desc ≤ n then (aeRange, s)
  else (aeOk, s.onCompute (fun x => { x with legs := x.legs.setD (itBase it.desc + n) 0 v }))

/-! ## Reduce commands (R155, R156, R169) -/

/-- The reserved bits and values of a reduce descriptor. -/
def rsReserved (v : Nat) : Bool :=
  bit v 31 || decide (bits v 44 4 ≠ 0) || bit v 55 || decide (bits v 81 7 ≠ 0) || decide (bits v 112 16 ≠ 0) ||
  bit v 159 || decide (bits v 235 21 ≠ 0)

/-- The values that a descriptor write refuses. -/
def rsRefused (v : Nat) : Bool :=
  rsReserved v || decide (2 < rsOp v) || decide (4 < rsFormat v) || decide (bits v 56 8 = 0) || decide (rsCores v = 0) ||
  decide (23 < rsSignalCore v)

/-- Reduce reservation of a slot on its core at a position of the mask, in bits: accumulators and arrival bits (R156). -/
def slotBits (v pos : Nat) : Nat :=
  let n := (setBitList (rsCores v) 24).length
  ((List.range (rsLines v)).filter (fun i => decide (i % max 1 n = pos))).length *
    (32 * (1024 / max 1 (formatBits (rsFormat v))) + rsMembers v)

/-- Bits that the slots in use, and one more, reserve on a core. -/
def coreReserve (s : State) (c extra : Nat) : Nat :=
  let use : Nat → Nat := fun v => if bit (rsCores v) c then slotBits v ((setBitList (rsCores v) c).length) else 0
  use extra + ((usedSlots s).map (fun i => use (slotDesc s i))).sum

/-- The extent, `ACTIVE`, `FAST` and of a composition, that holds n tiles from a first one. -/
def fastRange (s : State) (comp first n : Nat) : Option Extent :=
  match extentAt s (first * 512) with
  | some (_, e) =>
    if e.state = 1 ∧ e.isFast ∧ e.comp = comp ∧ first + n ≤ e.base + e.length then some e else none
  | none => none

/-- Whether a member entry names a host or a core of this ZX964. -/
def memberOk (s : State) (p : Nat) : Bool :=
  decide (p < 1024) || (peerIsAgent p && decide (p = ownAgent s (bits p 7 5)) && decide (1 ≤ bits p 7 5) && decide (bits p 7 5 ≤ 24))

/-- The conditions of R155 on a slot's descriptor and members. -/
def armOk (s : State) (i : Nat) : Bool :=
  let v := slotDesc s i
  let at_ := ceilDiv (rsLines v) 512
  let rt := ceilDiv (rsExpand v * rsLines v) 512
  let ms := slotMembers s i
  !rsRefused v &&
  (match fastRange s (rsComp v) (rsAperture v) at_ with | some e => e.canWrite | none => false) &&
  (match fastRange s (rsComp v) (rsResult v) rt with | some e => e.canRead && !e.canWrite && !e.canAtomic | none => false) &&
  (decide (rsAperture v + at_ ≤ rsResult v) || decide (rsResult v + rt ≤ rsAperture v)) &&
  oneWayHere s (rsAperture v) at_ && oneWayHere s (rsResult v) rt && ms.all (memberOk s) && decide (ms.Nodup)

/-- A reduce command: an owner commands only its own composition's slots (R169). -/
def reduceGuard (s : State) (w : Requester) (f : Nat → Acc) : Acc :=
  let i := selVal s w 0x271001
  if w.isInband && rsComp (slotDesc s i) ≠ w.comp then (aeNoAccess, s) else f i

/-- `ARM` (R155, R156): the cores of the slot run their PLLs from now on (R167). -/
def armCmd (s : State) (w : Requester) : Acc :=
  reduceGuard s w (fun i =>
    let v := slotDesc s i
    if slotState s i ≠ 0 then withStatus s w 0x271006 3
    else if w.isInband then (aeNoAccess, s)
    else if !armOk s i then withStatus s w 0x271006 1
    else if (setBitList (rsCores v) 24).any (fun c => decide (8192 * cfg s 0x271009 < coreReserve s c v)) then
      withStatus s w 0x271006 2
    else
      let s0 := (setBitList (rsCores v) 24).foldl (fun s c => setCore s c { coreOf s c with pllOff := false }) s
      let s1 := setSlotState (setSlotDesc (setRslot s0 i {}) i (setBits v 192 32 0)) i 1
      withStatus (post s1 0x0701 (some (rsComp v)) (pay [(1, i)])) w 0x271006 0)

/-- `REARM` (R156). -/
def rearmCmd (s : State) (w : Requester) : Acc :=
  reduceGuard s w (fun i =>
    if slotState s i = 2 then withStatus (setSlotState (setRslot s i {}) i 1) w 0x271006 0 else withStatus s w 0x271006 3)

/-- `DISARM` (R156). -/
def disarmCmd (s : State) (w : Requester) : Acc :=
  reduceGuard s w (fun i =>
    if slotState s i = 0 then withStatus s w 0x271006 3 else withStatus (freeSlot s i) w 0x271006 0)

/-- Writes of a slot's descriptor and members: only while `FREE`, and no reserved or refused value (R351, R453). -/
def slotWrite (s : State) (w : Requester) (v : Nat) : Acc :=
  let i := selVal s w 0x271001
  if slotState s i ≠ 0 then (aeState, s)
  else if rsRefused v then (aeRange, s) else (aeOk, setSlotDesc s i (setBits v 192 32 (rsRound (slotDesc s i))))

def slotMemberWrite (s : State) (w : Requester) (v : Nat) : Acc :=
  let i := selVal s w 0x271001
  let k := selVal s w 0x271003
  if slotState s i ≠ 0 then (aeState, s)
  else (aeOk, mirrorObject (setObj s 0x271004 (i + k * 2 ^ 8) v) 0x271004 (i + k * 2 ^ 8) 2 (rsComp (slotDesc s i)))

/-- A write of object 2710.09: refused with `BUSY` while any slot is not `FREE`. -/
def reserveWrite (s : State) (v : Nat) : Acc :=
  if (usedSlots s).isEmpty then (aeOk, setObj s 0x271009 0 v) else (aeBusy, s)

/-! ## Resets (R200, R238, R239) -/

/-- A core's own state after a reset: what it has sent stays outstanding until it is answered (R196, R200). -/
def wipeCore (s : State) (c : Nat) : State :=
  let k := coreOf s c
  let mine : Nat → Bool := fun g => decide (g / 8 = c)
  (setCore (clearLocal s c) c { k with waiting := none, loops := [], lastComp := none }).onCompute (fun x => { x with
    counters := x.counters.filter (fun p => decide (p.1 / 32 ≠ c))
    origins := x.origins.filter (fun p => decide (p.1 / 32 ≠ c))
    sels := x.sels.filter (fun p => !mine p.1)
    blocks := x.blocks.filter (fun p => !mine p.1) })

/-- A core is reset (R200, R238): its launches end by fault, its reduce slots break. -/
def resetCore (s : State) (c : Nat) : State :=
  let qs := (coreOf s c).queue
  let s2 := qs.foldl (fun s q => match launchOf s q with | some l => resetFault s c q l | none => s) (stopCore s c)
  breakForCore (qs.foldl drainLaunch (wipeCore s2 c)) c

/-- `RESET` of the selected core (R238): an owner resets only a core granted to its composition alone. -/
def coreResetCmd (s : State) (w : Requester) : Acc :=
  let c := selVal s w 0x2A4001
  if w.isInband && !bit (getObj s 0x2A1305 w.comp) c then (aeNoAccess, s) else (aeOk, resetCore s c)

/-- The launches of a composition are discarded, its itineraries become `EMPTY` (R189, R196, R239). -/
def discardLaunches (s : State) (comp : Nat) : State :=
  let qs := (s.compute.launches.filter (fun p => decide (p.2.comp = comp))).map Prod.fst
  let heads := (s.compute.cores.filter (fun p => p.2.queue.head?.any (fun q => qs.contains q))).map Prod.fst
  let s1 := s.onCompute (fun x => { x with
    launches := x.launches.filter (fun p => !qs.contains p.1)
    cores := x.cores.mapV (fun _ k =>
      if k.queue.head?.any (fun q => qs.contains q) then
        { k with queue := k.queue.filter (fun q => !qs.contains q), started := false, jobs := [], waiting := none }
      else { k with queue := k.queue.filter (fun q => !qs.contains q) }) })
  let s2 := heads.foldl (fun s c => takeNext s c (coreOf s c).queue) s1
  ((s2.compute.itins.filter (fun p => decide (itComp p.2.desc = comp))).map Prod.fst).foldl releaseItin s2

/-- Compute loses what is not kept: launches and itineraries, local memories and core state (R189, R196, R238). -/
def wipeCompute (s : State) : State :=
  s.onCompute (fun x => { x with
    loc := [], marks := [], blocks := [], sels := [], counters := [], origins := [], legs := [], itins := [],
    launches := [], cores := [], gated := [], inbox := [] })

/-- A takeover breaks every slot (R156, R328). -/
def breakAll (s : State) : State := (usedSlots s).foldl (breakSlot 2) s

end Sys2Proof.Machine
end

