-- ==== Sys2Proof/Machine/Search.lean ====
section
/-! DEFINITION. The associative search unit (R203-R224). -/

namespace Sys2Proof.Machine

/-! ## Partitions and entries (R203-R205) -/

/-- A partition. -/
def partOf (s : State) (p : Nat) : Part := s.search.parts.getD p {}

/-- Store a partition. -/
def putPart (s : State) (p : Nat) (x : Part) : State := s.onSearch (fun k => { k with parts := k.parts.setD p {} x })

def pdData (v : Nat) : Bool := bit v 1
/-- Entry width in bits. -/
def pdWidth (v : Nat) : Nat := match bits v 2 2 with | 0 => 80 | 1 => 160 | _ => 320
def pdBanks (v : Nat) : Nat := bits v 4 8
def pdFirst (v : Nat) : Nat := bits v 12 5
def pdBlocks (v : Nat) : Nat := bits v 17 6
def pdComp (v : Nat) : Nat := bits v 23 7
def pdMember (v : Nat) : Bool := bit v 30
def pdTile (v : Nat) : Bool := bit v 31
def pdFilter (v : Nat) : Bool := bit v 32
/-- Whether a partition is the all-bank partition (R203). -/
def pdAll (v : Nat) : Bool := decide (pdBanks v = 255)

/-- The number of banks of a partition. -/
def pdNb (v : Nat) : Nat := (setBitList (pdBanks v) 8).length

/-- Rows of a partition, over its banks. -/
def pdRows (v : Nat) : Nat := pdNb v * (pdBlocks v * 1024)

/-- Capacity in entries (R204). -/
def pdCapacity (v : Nat) : Nat :=
  match bits v 2 2 with | 0 => 2 * pdRows v | 1 => pdRows v | _ => pdRows v / 2

/-- The bank and row of an entry's first row (R204). -/
def entryPlace (v i : Nat) : Nat × Nat :=
  let j := if pdWidth v = 80 then i / 2 else i
  let nb := max 1 (pdNb v)
  ((setBitList (pdBanks v) 8).getD (j % nb) 0, pdFirst v * 1024 + (if pdWidth v = 320 then 2 * (j / nb) else j / nb))

/-- Whether a bank set is one that R203 allows. -/
def banksOk (m : Nat) : Bool :=
  [1, 2, 4, 8, 16, 32, 64, 128, 0x03, 0x0C, 0x30, 0xC0, 0x0F, 0xF0, 0xFF].contains m

/-- Whether a staged descriptor is valid (R203, R204). -/
def pdOk (v : Nat) : Bool :=
  decide (bits v 2 2 ≠ 3) && banksOk (pdBanks v) && decide (1 ≤ pdBlocks v) && decide (pdFirst v + pdBlocks v ≤ 32) &&
  decide (bits v 33 31 = 0)

/-- Whether two partitions share a row of a bank. -/
def pdOverlaps (a b : Nat) : Bool :=
  decide (pdBanks a &&& pdBanks b ≠ 0) && decide (pdFirst a < pdFirst b + pdBlocks b) &&
  decide (pdFirst b < pdFirst a + pdBlocks a)

def seValid (e : Nat) : Bool := bit e 0
def seGroup (e : Nat) : Nat := bits e 8 6
def seResult (e : Nat) : Nat := bits e 64 64
def seKey (e : Nat) : Nat := bits e 128 320
def seCare (e : Nat) : Nat := bits e 448 320

/-- Whether a record's reserved bits are zero under a descriptor. -/
def recordOk (v e : Nat) : Bool :=
  decide (bits e 1 7 = 0) && decide (bits e 14 50 = 0) && decide (seKey e < 2 ^ pdWidth v) &&
  decide (seCare e < (if pdData v then 1 else 2 ^ pdWidth v))

/-- A record with its reserved bits dropped (R9). -/
def recordKept (v e : Nat) : Nat :=
  pack [(8, bits e 0 1), (56, seGroup e), (64, seResult e), (320, seKey e % 2 ^ pdWidth v),
    (320, if pdData v then 0 else seCare e % 2 ^ pdWidth v)]

/-- What a search looks for. -/
structure Query where
  key : Nat
  group : Nat
  mask : Nat
  plen : Nat
  deriving DecidableEq, Repr

/-- Whether an entry matches (R205), its `valid` aside. -/
def entryMatches (v e : Nat) (q : Query) : Bool :=
  let w := pdWidth v
  decide ((seGroup e ^^^ q.group) &&& q.mask = 0) &&
  (if pdData v then decide (seKey e / 2 ^ (w - q.plen) = q.key % 2 ^ w / 2 ^ (w - q.plen))
   else decide ((seKey e ^^^ (q.key % 2 ^ w)) &&& seCare e = 0))

/-- The matching entries from an index upward, in ascending order, as they stand on die. -/
def hitsFrom (p : Part) (q : Query) (lo : Nat) : List (Nat × Nat) :=
  p.entries.filter (fun x => decide (lo ≤ x.1) && seValid x.2 && !p.hidden.contains x.1 && entryMatches p.desc x.2 q)

/-- Rows that a search enables: every row, or with `prefilter` those with an entry that passes the group test. -/
def rowsEnabled (p : Part) (q : Query) : Nat :=
  let v := p.desc
  if !pdFilter v then pdRows v
  else
    let pass : Nat → Bool := fun e => decide ((seGroup e ^^^ q.group) &&& q.mask = 0)
    let unit : Nat := if pdWidth v = 320 then 2 else 1
    let row : Nat → Nat := fun i => if pdWidth v = 80 then i / 2 else i
    let rows := (p.entries.map (fun x => row x.1)).dedup
    let on : Nat → Bool := fun r =>
      if pdWidth v = 80 then pass (p.entries.getD (2 * r) 0) || pass (p.entries.getD (2 * r + 1) 0)
      else pass (p.entries.getD r 0)
    let listed := (rows.filter on).length * unit
    if pass 0 then pdRows v - (rows.length * unit - listed) else listed

/-- Mean enabled fraction in 1/256 (object 2901.08), rounded down; 256 before any search. -/
def enabledFraction (l : List (Nat × Nat)) : Nat :=
  if l.isEmpty then 256 else (l.map (fun x => x.1 * 2 ^ 24 / max 1 x.2)).sum / (2 ^ 16 * l.length)

/-! ## Mirroring -/

/-- The mirror record of an entry: kind 6. -/
def recEntry (s : State) (p i : Nat) : MRec :=
  { kind := 6, comp := pdComp (partOf s p).desc, key := p + i * 2 ^ 32, data := natSlots ((partOf s p).entries.getD i 0) 3 }

/-- Object 2910.02 as read: the descriptor with `valid`. -/
def partDesc (s : State) (p : Nat) : Nat := setBits (partOf s p).desc 0 1 (b2n (decide ((partOf s p).state ≠ 0)))

/-- Mirror a partition's descriptor and state, and with `DESTROY` running the command, so that a twin that takes over goes
on as this side would. -/
def mirrorPart (s : State) (p : Nat) : State :=
  mirrorOnly s ([recObject 0x291002 p 8 (partDesc s p) (pdComp (partOf s p).desc),
    recObject 0x291005 p 1 (partOf s p).state (pdComp (partOf s p).desc)] ++
    (if (partOf s p).destroying then [recObject 0x291003 p 1 2 (pdComp (partOf s p).desc)] else []))

/-- Change a partition's state, mirrored. -/
def changePart (s : State) (p : Nat) (f : Part → Part) : State := mirrorPart (putPart s p (f (partOf s p))) p

/-! ## Banks (R223) -/

/-- Banks used by a search of a partition are awake and busy now. -/
def useBanks (s : State) (v : Nat) : State :=
  s.onSearch (fun k => { k with
    lastUse := (setBitList (pdBanks v) 8).foldl (fun m b => m.put b s.now) k.lastUse
    gated := k.gated.filter (fun b => !bit (pdBanks v) b) })

/-- Whether a bank holds a row of a partition that is not `FREE`: it is powered (R223). -/
def bankPowered (s : State) (b : Nat) : Bool :=
  s.search.parts.any (fun p => decide (p.2.state ≠ 0) && bit (pdBanks p.2.desc) b)

/-- `BANK_IDLE_GATE`: in `TRIM`, a powered bank that has run no search for 1 µs is gated (R223). -/
def bankIdleGate (s : State) (b : Nat) : State :=
  if s.power.state = 2 ∧ bankPowered s b ∧ !s.search.gated.contains b then
    (reachTime s (s.search.lastUse.getD b 0 + 1000)).onSearch (fun k => { k with gated := k.gated ++ [b] })
  else s

/-! ## Walk contexts (R211, R212) -/

/-- Close every context that satisfies p. -/
def closeCtxs (s : State) (p : WalkCtx → Bool) : State :=
  s.onSearch (fun k => { k with ctxs := k.ctxs.keep (fun _ c => !p c) })

/-- Close the contexts of a host in a composition's partitions (R231 step 5). -/
def closeHostCtxs (s : State) (comp host : Nat) : State :=
  closeCtxs s (fun c => decide (c.comp = comp) && decide (c.host = host))

/-- The lowest free context (log entry 30). -/
@[irreducible] def freeCtx (s : State) : Option Nat := (List.range 1024).find? (fun i => !s.search.ctxs.has i)

/-- The handle of a context in its present use. -/
def ctxHandle (s : State) (i : Nat) : Nat := i + 2 ^ 10 * (s.search.uses.getD i 0 % 2 ^ 22)

/-- `WALK_IDLE_TIMEOUT` (R212). -/
def walkIdleTimeout (s : State) (i : Nat) : State :=
  match s.search.ctxs.get? i with
  | some c => (reachTime s (c.used + c.limit)).onSearch (fun k => { k with ctxs := k.ctxs.del i })
  | none => s

/-! ## Search requests (R206-R213) -/

/-- Body fields of a `SEARCH`. -/
def srMulti (m : Msg) : Bool := bit m.body 12
def srTouch (m : Msg) : Bool := bit m.body 13
def srPart (m : Msg) : Nat := m.fld 16 4
def srGroup (m : Msg) : Nat := m.fld 24 6
def srMask (m : Msg) : Nat := m.fld 32 6
def srPlen (m : Msg) : Nat := m.fld 40 9
def srIndex (m : Msg) : Nat := m.fld 64 32

/-- The `ext` that R206 asks for under a descriptor. -/
def searchExtOk (v : Nat) (m : Msg) : Bool :=
  match m.func with
  | 1 => decide (m.ext = if pdWidth v = 320 then 2 else 1)
  | 3 => decide (m.ext = 3)
  | _ => decide (m.ext = 0)

/-- Whether a host (agents are numbered from 1024) may update a partition (R207 step 4): `member_update` names member hosts. -/
def mayUpdate (s : State) (v h : Nat) : Bool := (pdMember v && decide (h < 1024)) || decide ((compOf s (pdComp v)).owner = h)

/-- Whether a search comes from a compute core running an itinerary of a composition (R207 step 3). What another ZX964's
core runs is known there alone: such a core is taken at the composition its request names (DESIGN CHOICE, log entry 119). -/
def coreSearches (s : State) (peer c : Nat) : Bool :=
  let a := bits peer 7 5
  peerIsAgent peer && decide (1 ≤ a ∧ a ≤ 24) &&
  (decide (peer ≠ ownAgent s a) ||
   (match headLaunch s (a - 1) with
    | some l => (coreOf s (a - 1)).started && decide (l.comp = c)
    | none => false))

/-- The partition that a `SEARCH` searches or updates: a `WALK` searches its context's (R211, R212). -/
def searchPart (s : State) (m : Msg) : Nat :=
  if m.func = 2 then (match s.search.ctxs.get? (srIndex m % 1024) with | some x => x.part | none => srPart m) else srPart m

/-- R207: the refusal of a `SEARCH`, if any, after R87, R81 and R239. -/
def searchRefusal (s : State) (m : Msg) : Option (Nat × Nat) :=
  let c := m.composition
  let h := ledgerHost m
  let p := partOf s (srPart m)
  let v := p.desc
  let f := m.func
  if (compOf s c).state = 3 then some (stFatal, dCompositionFatal)
  else if isLost s h && !peerIsAgent m.peer then some (stDenied, dHostLost)
  else if (compOf s c).state = 2 then some (stRetry, dCompositionResetting)
  else if !searchExtOk v m then some (stDenied, dBadLength)
  else if (p.state = 1 ∨ p.state = 3) ∧ pdComp v = c then some (stRetry, dPartitionBusy)
  else if p.state ≠ 2 ∨ pdComp v ≠ c then some (stDenied, dNoPartition)
  else if !(if peerIsAgent m.peer then coreSearches s m.peer c else isMember s c h) then some (stDenied, dNotMember)
  else if (f = 3 ∨ f = 4) ∧ !mayUpdate s v h then some (stDenied, dUpdateDenied)
  else if (f = 3 ∨ f = 4) ∧ pdCapacity v ≤ srIndex m then some (stDenied, dEntryRange)
  else if f = 1 ∧ pdData v ∧ pdWidth v < srPlen m then some (stDenied, dBadPrefix)
  else if f = 2 ∧ !(match s.search.ctxs.get? (srIndex m % 1024) with
      | some x => decide (x.host = h) && decide (x.comp = c) && decide (ctxHandle s (srIndex m % 1024) = srIndex m)
      | none => false) then some (stDenied, dWalkExpired)
  else none

/-- The answer of a `LOOKUP` or `WALK` (R208): hit, more, handle. -/
def searchAnswer (s : State) (via : Option Nat) (m : Msg) (hit : Option (Nat × Nat)) (more : Bool) (handle : Nat) : State :=
  let r := mkResp m stOk 0 (ownAgent s agentHome) (match hit with | some x => seResult x.2 | none => 0) 1
  let t := pack [(19, match hit with | some x => x.1 | none => 0), (1, b2n hit.isSome), (1, b2n more), (3, 0), (32, handle)]
  respondAfter (if hit.isSome then addStat s 0x290102 0 1 else s) (lastBatch s) (raiseLoad s (r.withTail t) true) via

/-- A parity error of the entry that a search selected, or that the scan read: it is invalid on die and is reloaded through
the update path (R219, R220). -/
def parityError (s : State) (p i source : Nat) : State :=
  let x := partOf s p
  putPart s p { x with
    hidden := if x.hidden.contains i then x.hidden else x.hidden ++ [i]
    flipped := x.flipped.filter (fun j => decide (j ≠ i))
    queue := x.queue ++ [{ idx := i, source := .reload source (x.flipped.contains i) }] }

/-- A hit's tile is touched (R213). -/
def touchTile (s : State) (comp tile : Nat) : State :=
  match extentAt s (tile * 512) with
  | some (_, e) =>
    if e.state = 1 ∧ e.comp = comp ∧ e.canRead then
      let s1 := updTile s tile (fun t => { t with access := s.now })
      if !e.isFast && (tileAt s tile).isNone && !s.tier.zero.contains tile then
        s1.onTier (fun t => { t with touchQ := t.touchQ ++ [tile] })
      else s1
    else s
  | none => s

/-- Count a search step, and its enabled rows. -/
def countSearch (s : State) (p : Part) (q : Query) : State :=
  let s1 := useBanks (addStat s 0x290101 0 1) p.desc
  s1.onSearch (fun k => { k with recent := ((rowsEnabled p q, pdRows p.desc) :: k.recent).take 65536 })

/-- Open a walk context at a hit (R211): the state and the handle. -/
def openCtx (s : State) (m : Msg) (q : Query) (pos : Nat) : State × Nat :=
  match freeCtx s with
  | none =>
    (postOnce (addErr s 0x290105 0 1) 0x0920 0 (some m.composition) (pay [(1, srPart m), (2, m.peer)]), 0xFFFFFFFF)
  | some i =>
    let s1 := s.onSearch (fun k => { k with
      ctxs := k.ctxs.put i { host := ledgerHost m, comp := m.composition, part := srPart m, key := q.key,
                             group := q.group, mask := q.mask, plen := q.plen, pos := pos,
                             limit := 1000 * cfg s 0x292001, used := s.now }
      uses := k.uses.put i ((k.uses.getD i 0 + 1) % 2 ^ 22) })
    (s1, ctxHandle s1 i)

/-- Whether the entry that a search selects reads with a parity error: a drill flipped a bit of it, or one flipped by itself,
which a free value decides (R219). -/
def selectedBad (s : State) (p : Part) (i : Nat) : Bool × State :=
  let (n, s1) := drawFree s
  (p.flipped.contains i || Config.searchFlip n, s1)

/-- A `LOOKUP` that passes R207. -/
def lookupDo (s : State) (via : Option Nat) (m : Msg) : State :=
  let p := partOf s (srPart m)
  let q : Query := { key := m.dataNat, group := srGroup m, mask := srMask m, plen := srPlen m }
  let s0 := countSearch s p q
  match hitsFrom p q 0 with
  | [] => searchAnswer s0 via m none false 0
  | x :: rest =>
    let (bad, s1) := selectedBad s0 p x.1
    if bad then serviceAnswer (parityError s1 (srPart m) x.1 0) via m stRetry dSearchParity 0
    else
      let s2 := if srTouch m && pdData p.desc && pdTile p.desc then touchTile s1 (pdComp p.desc) (seResult x.2 % 2 ^ 31) else s1
      if srMulti m && !rest.isEmpty then
        (let (s3, h) := openCtx s2 m q x.1
         searchAnswer s3 via m (some x) true h)
      else searchAnswer s2 via m (some x) false 0

/-- A `WALK` step that passes R207 (R212). -/
def walkDo (s : State) (via : Option Nat) (m : Msg) : State :=
  let i := srIndex m % 1024
  match s.search.ctxs.get? i with
  | none => s
  | some c =>
    let p := partOf s c.part
    let q : Query := { key := c.key, group := c.group, mask := c.mask, plen := c.plen }
    let s0 := addStat (countSearch s p q) 0x290104 0 1
    let shut : State → State := fun s => s.onSearch (fun k => { k with ctxs := k.ctxs.del i })
    match hitsFrom p q (c.pos + 1) with
    | [] => searchAnswer (shut s0) via m none false 0
    | x :: rest =>
      let (bad, s1) := selectedBad s0 p x.1
      if bad then
        serviceAnswer ((parityError s1 c.part x.1 0).onSearch (fun k => { k with ctxs := k.ctxs.put i { c with used := s.now } }))
          via m stRetry dSearchParity 0
      else if rest.isEmpty then searchAnswer (shut s1) via m (some x) false 0
      else
        searchAnswer (s1.onSearch (fun k => { k with ctxs := k.ctxs.put i { c with pos := x.1, used := s.now } }))
          via m (some x) true (ctxHandle s i)

/-- An update request joins its partition's queue (R214). -/
def queueUpdate (s : State) (p : Nat) (u : SUpd) : State :=
  putPart s p { partOf s p with queue := (partOf s p).queue ++ [u] }

/-! ## Shares (R217, R232, R274) -/

/-- Cost of a search of a partition in slots (R217). -/
def searchCost (v : Nat) : Nat := if pdAll v then 2 else 1

/-- Whether a search of a composition may be issued in this period: waiting searches are demand. -/
def searchAllowed (s : State) (c n : Nat) : Bool :=
  hostAllowed s 2 0 c n ((s.search.waiting.map (fun w => w.2.composition)).dedup)

/-- Note a search's slots. -/
def noteSearch (s : State) (c n : Nat) : State := hostCharge s 2 0 c n

/-- Run a `SEARCH` whose checks are due now. -/
def searchRun (s : State) (via : Option Nat) (m : Msg) : State :=
  match searchRefusal s m with
  | some x => serviceAnswer s via m x.1 x.2 0
  | none =>
    let p := srPart m
    let v := (partOf s (searchPart s m)).desc
    if m.func = 3 then queueUpdate s p { idx := srIndex m, record := some (recordKept v m.dataNat), source := .req m via }
    else if m.func = 4 then queueUpdate s p { idx := srIndex m, source := .req m via }
    else
      let s1 := noteSearch s m.composition (searchCost v)
      if m.func = 1 then lookupDo s1 via m else walkDo s1 via m

/-- Whether a search waits for slots: its composition's share is used, or earlier ones of it wait. -/
def searchWaits (s : State) (m : Msg) : Bool :=
  (m.func == 1 || m.func == 2) && (searchRefusal s m).isNone &&
  (!searchAllowed s m.composition (searchCost (partOf s (searchPart s m)).desc) ||
   s.search.waiting.any (fun w => decide (w.2.composition = m.composition)))

/-- A `SEARCH` at the home. -/
def searchAt (s : State) (via : Option Nat) (m : Msg) : State :=
  if searchWaits s m then s.onSearch (fun k => { k with waiting := k.waiting ++ [(via, m)] })
  else searchRun s via m

/-- The searches that waited, at the start of a period. -/
def resumeSearches (s : State) : State :=
  s.search.waiting.foldl (fun s x => searchAt s x.1 x.2) (s.onSearch (fun k => { k with waiting := [] }))

/-! ## Updates (R214-R221) -/

/-- Slots of an update (R217). -/
def updateCost (v : Nat) (u : SUpd) : Nat :=
  if !pdAll v then 1
  else match u.source, u.record with
    | .reload _ _, _ => 4
    | _, some _ => 4
    | _, none => 2

/-- Answer an update with a status. -/
def updateAnswer (s : State) (u : SUpd) (st d ae : Nat) : State :=
  match u.source with
  | .req m via => serviceAnswer s via m st d 0
  | .obj x => if mustWait s (lastBatch s) then holdItem s (lastBatch s) (.answer x ae) else accessAnswer s x ae
  | .reload _ _ => s

/-- A reload is done: counted and posted, unless a drill caused it (R221, R347). -/
def repaired (s : State) (p i source : Nat) (drill : Bool) : State :=
  if drill then s
  else post (addErr s 0x290106 0 1) 0x0910 none (pay [(1, p), (4, i), (1, source)])

/-- The valid entries in the backing-store line of an entry (R221): which entries share a line is a free value (log entry
31). -/
def lineEntries (x : Part) (p i : Nat) : List Nat :=
  let (before, after) := Config.backingRun p i
  (x.entries.filter (fun e => seValid e.2 && decide (i - before.val ≤ e.1 ∧ e.1 ≤ i + after.val))).map Prod.fst

/-- A reload found its backing-store line uncorrectable, and R126 poisoned it: every entry held in that line is lost
(R221). -/
def entryLost (s : State) (p i : Nat) : State :=
  let x := partOf s p
  let l := lineEntries x p i
  let s1 := putPart s p { x with entries := l.foldl (fun m j => m.upd j (fun e => setBits e 0 1 0)) x.entries }
  let s2 := mirrorOnly (addErr s1 0x290107 0 l.length) (l.map (recEntry s1 p))
  postBoth s2 (pdComp x.desc) 0x0911 (pay [(1, p), (4, l.headD i), (4, l.length)])

/-- A line of the search backing store whose place in the stacks no rule gives (log entry 31): the line, its stack and its
channel, from a free value. -/
def backingPlace (n : Nat) : Nat × Nat × Nat :=
  let w := (Config.freeWord n).toNat
  (bits w 0 40, bits w 40 4, bits w 44 4)

/-- A correctable line of the search backing store (R125), and one that is not, with its outcome (R126). -/
def backingCorrected (s : State) (n : Nat) : State :=
  let (_, st, ch) := backingPlace n
  addScore (addScore (addErr s 0x260301 0 1) 4 st 0 1) 5 (st * 16 + ch) 0 1

def backingUncorrectable (s : State) (n outcome : Nat) : State :=
  let (line, st, ch) := backingPlace n
  let s1 := addErr s 0x260302 0 1
  let s2 := if outcome < 2 then addErr s1 0x260304 0 1 else s1
  post (addScore (addScore s2 4 st 1 1) 5 (st * 16 + ch) 1 1) 0x0620 none (pay [(1, st), (1, ch), (5, line), (1, outcome)])

/-- A reload reads its line of the search backing store with `errs` erroneous symbols (R125, R126, R221): corrected up to 4;
else fetched from a twin in sync, or poisoned, and the entry is then lost. More than 11 symbols may go undetected (log entry
7): the entry then reads as a free record. `hidden` is what was invalid on die before the reload. -/
def reloadEntry (s : State) (p idx errs src : Nat) (drill : Bool) (hidden : List Nat) : State :=
  if errs = 0 then repaired s p idx src drill
  else
    let (n, s1) := drawFree s
    if errs ≤ 4 then repaired (backingCorrected s1 n) p idx src drill
    else if errs ≤ 11 ∨ Config.detectsBeyond11 n then
      if s.twin.pair = psSync then repaired (backingUncorrectable s1 n 0) p idx src drill
      else entryLost (backingUncorrectable (putPart s1 p { partOf s1 p with hidden := hidden }) n 2) p idx
    else
      let x := partOf s1 p
      repaired (putPart s1 p { x with entries := x.entries.setD idx 0 (recordKept x.desc (Config.freeLine n).toNat) }) p idx src drill

/-- Whether an update runs in the three steps of R216: a write or a reload in the all-bank partition; a `CLEAR` ends after the
first. -/
def threeSteps (v : Nat) (u : SUpd) : Bool :=
  pdAll v && (match u.source with | .reload _ _ => true | _ => u.record.isSome)

/-- The invalidate step of an all-bank update (R216): the entry is on die no more until the validate step. -/
def beginUpdate (x : Part) (u : SUpd) (rest : List SUpd) : Part :=
  { x with queue := { u with begun := true } :: rest, hidden := if x.hidden.contains u.idx then x.hidden else x.hidden ++ [u.idx] }

/-- `SEARCH_UPDATE_APPLY`: the update at the head of a partition's queue reaches its visibility cycle, if the search-update
budget allows (R214-R217); in the all-bank partition a write or a reload first takes its invalidate step, and the next of
these commands is its validate step. `errs` is the number of erroneous symbols in the backing-store line that a reload reads (R125,
R221). -/
def searchUpdateApply (s : State) (p errs : Nat) : State :=
  let x := partOf s p
  match x.queue with
  | [] => s
  | u :: rest =>
    let n := updateCost x.desc u
    if (!u.begun && !hasBudget s 2 0 5 n) || x.state ≠ 2 then s
    else if threeSteps x.desc u && !u.begun then putPart (charge s 2 0 5 n) p (beginUpdate x u rest)
    else
      let s1 := if u.begun then s else charge s 2 0 5 n
      let y := { x with queue := rest, hidden := x.hidden.filter (fun j => decide (j ≠ u.idx)) }
      let gone := { y with flipped := y.flipped.filter (fun j => decide (j ≠ u.idx)) }
      match u.source, u.record with
      | .reload src drill, _ =>
        reloadEntry (putPart s1 p y) p u.idx errs src drill x.hidden
      | _, some e =>
        let s2 := putPart s1 p { gone with entries := gone.entries.setD u.idx 0 e }
        updateAnswer (mirrorOnly (addStat s2 0x290103 0 1) [recEntry s2 p u.idx]) u stOk 0 aeOk
      | _, none =>
        let s2 := putPart s1 p { gone with entries := gone.entries.upd u.idx (fun e => setBits e 0 1 0) }
        updateAnswer (mirrorOnly (addStat s2 0x290103 0 1) [recEntry s2 p u.idx]) u stOk 0 aeOk

/-- The entries of a row of a partition, numbered over its banks as R204 places them. -/
def rowEntries (v k : Nat) : List Nat :=
  if pdWidth v = 80 then [2 * k, 2 * k + 1]
  else if pdWidth v = 160 then [k]
  else let nb := max 1 (pdNb v); [k / nb / 2 * nb + k % nb]

/-- Whether the present scan pass has read every row of every `ACTIVE` partition (R220). -/
def scanComplete (s : State) : Bool :=
  s.search.parts.all (fun q => decide (q.2.state ≠ 2) || decide (s.search.scanned.getD q.1 0 % 2 ^ pdRows q.2.desc + 1 = 2 ^ pdRows q.2.desc))

/-- A row is read in this pass. The pass that has read every row is counted, and the next starts when its period, object
2930.01 as it stood when it began, has ended (R220). -/
def noteRow (s : State) (p k : Nat) : State :=
  let s1 := s.onSearch (fun x => { x with scanned := x.scanned.put p (x.scanned.getD p 0 ||| 2 ^ k) })
  if scanComplete s1 then
    (addStat s1 0x293002 0 1).onSearch (fun x => { x with
      scanned := [], scanFrom := max s.now (x.scanFrom + x.scanPeriod), scanPeriod := cfg s 0x293001 * 1000000 })
  else s1

/-- `PARITY_SCAN`: the scan reads a row of this pass under the scrub and parity-scan budget; `bad` are the entries of it that
read with a parity error besides those that a drill flipped (R220). The rows of a pass come in any order, each once (log
entry 120). -/
def parityScan (s : State) (p k : Nat) (bad : List Nat) : State :=
  let x := partOf s p
  if x.state ≠ 2 ∨ pdRows x.desc ≤ k ∨ s.search.scanned.getD p 0 / 2 ^ k % 2 = 1 ∨
      !hasBudget (reachTime s s.search.scanFrom) 2 0 2 1 then s
  else
    let s1 := charge (reachTime s s.search.scanFrom) 2 0 2 1
    let es := (rowEntries x.desc k).filter (fun i => bad.contains i || x.flipped.contains i)
    noteRow (es.foldl (fun s i => parityError s p i 1) s1) p k

/-- `ENTRY_RECORD_WRITE`: a `WRITE` of the selected entry through its queue (R218, R224). None: it is queued and answered
later. -/
def entryWrite (s : State) (d : Deferred) (v : Nat) : Option Nat × State :=
  let w := d.access.who
  let p := selVal s w 0x291001
  let i := selVal s w 0x291101
  let x := partOf s p
  let may := match w with
    | .inband peer c => decide (pdComp x.desc = c) && mayUpdate s x.desc (peerHost peer)
    | _ => true
  if !may then (some aeNoAccess, s)
  else if !recordOk x.desc v then (some aeRange, s)
  else if x.state ≠ 2 then (some aeState, s)
  else if pdCapacity x.desc ≤ i then (some aeRange, s)
  else (none, queueUpdate s p { idx := i, record := some v, source := .obj d })

/-! ## Partition lifecycle (R222) -/

/-- A write of object 2910.02: staged, only while `FREE`. -/
def partDescWrite (s : State) (w : Requester) (v : Nat) : Acc :=
  if bits v 33 31 ≠ 0 ∨ bits v 2 2 = 3 ∨ 32 < pdBlocks v ∨ (pdBlocks v = 0) then (aeRange, s)
  else if (partOf s (selVal s w 0x291001)).state ≠ 0 then (aeState, s)
  else (aeOk, setStaged s w 0x291002 v)

/-- Results of object 2910.04. -/
abbrev psDone : Nat := 0
abbrev psBusy : Nat := 1
abbrev psBadDescriptor : Nat := 2
abbrev psOverlap : Nat := 3
abbrev psBadState : Nat := 4

/-- A new command of a requester: no earlier one of it writes its copy of object 2910.04 any more. -/
def freeWaiter (s : State) (w : Requester) : State :=
  s.onSearch (fun k => { k with parts := k.parts.mapV (fun _ x => if x.waiter = some (whoKey w 0x291004) then { x with waiter := none } else x) })

/-- `CREATE` of a partition (R222 first row): 2910.04 reads `BUSY` until the last row is cleared. -/
def partitionCreateCmd (s : State) (w : Requester) : Acc :=
  let p := selVal s w 0x291001
  let v := stagedOf s w 0x291002
  if (partOf s p).state ≠ 0 then withStatus s w 0x291004 psBadState
  else if !pdOk v then withStatus s w 0x291004 psBadDescriptor
  else if s.search.parts.any (fun x => decide (x.2.state ≠ 0) && pdOverlaps x.2.desc v) then withStatus s w 0x291004 psOverlap
  else
    let s1 := setStaged (freeWaiter s w) w 0x291002 0
    withStatus (changePart s1 p (fun _ => { state := 1, desc := v, waiter := some (whoKey w 0x291004) })) w 0x291004 psBusy

/-- A partition starts clearing: its contexts close and every entry is invalid (R222). -/
def clearPart (s : State) (p : Nat) (destroy : Bool) : State :=
  changePart (closeCtxs s (fun c => decide (c.part = p))) p
    (fun x => { state := 1, desc := x.desc, destroying := destroy, waiter := x.waiter })

/-- `DESTROY` of a partition (R222). -/
def partitionDestroyCmd (s : State) (w : Requester) : Acc :=
  let p := selVal s w 0x291001
  let x := partOf s p
  if x.state ≠ 2 then withStatus s w 0x291004 psBadState
  else
    let s1 := x.queue.foldl (fun s u => updateAnswer s u stDenied dNoPartition aeState) s
    let s2 := clearPart (freeWaiter s1 w) p true
    let s3 := putPart s2 p { partOf s2 p with waiter := some (whoKey w 0x291004) }
    withStatus (post s3 0x0902 (some (pdComp x.desc)) (pay [(1, p)])) w 0x291004 psBusy

/-- A composition reset reaches its partitions: queued updates are discarded without an answer (R222). -/
def resetParts (s : State) (c : Nat) : State :=
  ((s.search.parts.filter (fun p => decide (p.2.state = 2 ∨ p.2.state = 3) && decide (pdComp p.2.desc = c))).map Prod.fst).foldl
    (fun s p => clearPart s p false) s

/-- `PARTITION_CLEARED` (R222). -/
def partitionCleared (s : State) (p : Nat) : State :=
  let x := partOf s p
  if x.state = 1 then
    let s1 := s.onDict (fun d => { d with status := d.status.filter (fun y => decide (some y.1 ≠ x.waiter) || decide (y.2 ≠ psBusy)) })
    if x.destroying then changePart s1 p (fun _ => {})
    else
      post (changePart s1 p (fun y => { y with state := 2, waiter := none })) 0x0901 (some (pdComp x.desc)) (pay [(1, p)])
  else s

/-- `PARTITION_RELOADED` (R222). -/
def partitionReloaded (s : State) (p : Nat) : State :=
  if (partOf s p).state = 3 then changePart s p (fun y => { y with state := 2 }) else s

/-- Entry to `QUIET` or a lower state: entries on die are lost, the backing store keeps them (R222). -/
def unloadParts (s : State) : State :=
  (closeCtxs s (fun _ => true)).onSearch (fun k => { k with
    parts := k.parts.mapV (fun _ x => if x.state = 2 then { x with state := 3, hidden := [], flipped := [], queue := x.queue.map (fun u => { u with begun := false }) } else x) })

/-- A lost or departed host of a composition (R231 steps 3 and 5): its reduce slots break, its walk contexts close. -/
def hostGone (s : State) (c h : Nat) : State := closeHostCtxs (breakForHost s c h) c h

end Sys2Proof.Machine
end

