-- ==== Sys2Proof/Machine/Lifecycle.lean ====
section
/-! DEFINITION. The lifecycle of compositions (R226-R228, R239, R240) and their keys (R412, R413). -/

namespace Sys2Proof.Machine

/-! ## Keys (R412) -/

/-- The key record of a composition (object 2E30.03): XTS pair, then codec key. -/
def keyValue (n : Nat) : Nat := (Config.freshXtsKey n).toNat + 2 ^ 512 * (Config.freshCodecKey n).toNat

/-- Count a key replacement, mirror it and post 0x0D34: cause 0 create, 1 reset, 2 destroy. -/
def keysReplaced (s : State) (c cause : Nat) : State :=
  let s1 := addSeq s 0x2E3002 c 1
  let s2 := mirrorOnly s1 [recObject 0x2E3002 c 4 (getObj s1 0x2E3002 c) c,
    recObject 0x2E3003 c 96 (s1.comps.keys.getD c 0) c]
  post s2 0x0D34 (some c) (pay [(4, getObj s2 0x2E3002 c), (1, cause)])

/-- Draw and install fresh keys. -/
def freshKeys (s : State) (c cause : Nat) : State :=
  let (n, s1) := drawFree s
  keysReplaced (putKeys s1 c (some (keyValue n))) c cause

/-- Destroy a composition's keys. -/
def destroyKeys (s : State) (c : Nat) : State :=
  keysReplaced (putKeys s c none) c 2

/-! ## Create and destroy (R227, R228) -/

/-- Results of object 2A10.04. -/
abbrev csDone : Nat := 0
abbrev csBusy : Nat := 1
abbrev csBadDescriptor : Nat := 2
abbrev csOverlap : Nat := 3
abbrev csBadState : Nat := 4

/-- The checks of `CREATE` on a staged descriptor. -/
def createCheck (s : State) (c v : Nat) : Nat :=
  let k := Comp.ofNat v
  if (compOf s c).state ≠ 0 then csBadState
  else if compReserved v || !ringOk s c k || !arenaOk s c k then csBadDescriptor
  else if rangeBad s c k then csOverlap
  else csDone

/-- A composition is created from a descriptor (R228 first row). Pools written while it was `FREE` stay. -/
def createComp (s : State) (c v : Nat) : State :=
  let k := Comp.ofNat v
  let s1 := setComp s c { k with state := 1, resetCount := 0, members := [(k.owner, 1)], pools := (compOf s c).pools }
  let s2 := freshKeys (mirrorMember (mirrorComp s1 c) c k.owner) c 0
  post s2 0x0A01 (some c) 0

/-- `CREATE`: refused, or held at `BUSY` while the random source is unhealthy (R412), or done. -/
def compositionCreateCmd (s : State) (w : Requester) : Acc :=
  let c := selVal s w 0x2A1001
  let v := stagedOf s w 0x2A1002
  let e := createCheck s c v
  if w.isInband then (aeNoAccess, s)
  else if e ≠ csDone then withStatus s w 0x2A1004 e
  else if !s.security.rngOk then
    withStatus (s.onSecurity (fun x => { x with keyOps := x.keyOps ++ [{ create := true, who := w, comp := c, staged := v }] }))
      w 0x2A1004 csBusy
  else withStatus (setStaged (createComp s c v) w 0x2A1002 0) w 0x2A1004 csDone

/-- Whether nothing of a composition is left (R228): extents, itineraries, partitions, reduce slots. -/
def compEmpty (s : State) (c : Nat) : Bool :=
  !s.home.exts.any (fun p => decide (p.2.state ≠ 0) && decide (p.2.comp = c)) &&
  !s.compute.itins.any (fun p => decide (p.2.state ≠ 0) && decide (itComp p.2.desc = c)) &&
  !s.search.parts.any (fun p => decide (p.2.state ≠ 0) && decide (pdComp p.2.desc = c)) &&
  !(usedSlots s).any (fun i => decide (rsComp (slotDesc s i) = c))

/-- The objects of index 2A13 with their lengths. -/
def shareObjects : List (Nat × Nat) :=
  [(0x2A1301, 2), (0x2A1302, 2), (0x2A1303, 2), (0x2A1304, 4), (0x2A1305, 4), (0x2A1306, 1)]

/-- A composition ends (R228): keys, records, members, vectors, descriptor and shares go. -/
def destroyComp (s : State) (c : Nat) : State :=
  let hosts := ((compOf s c).members.keys ++ (compOf s c).pools.keys).dedup
  let s1 := destroyKeys (resetRecords s c) c
  let s2 := setComp s1 c {}
  let s3 := mirrorComp (hosts.foldl (fun s h => mirrorMember s c h) s2) c
  let s4 := (List.range 16).foldl (fun s v =>
    let i := c + v * 2 ^ 8
    if getObj s 0x2A1202 i = objDefault 0x2A1202 i then s
    else mirrorObject (setObj s 0x2A1202 i (objDefault 0x2A1202 i)) 0x2A1202 i 16 c) s3
  let s5 := shareObjects.foldl (fun s o => mirrorObject (setObj s o.1 c (objDefault o.1 c)) o.1 c o.2 c) s4
  post s5 0x0A04 (some c) 0

/-- `DESTROY` (R228). -/
def compositionDestroyCmd (s : State) (w : Requester) : Acc :=
  let c := selVal s w 0x2A1001
  let k := compOf s c
  if w.isInband then (aeNoAccess, s)
  else if (k.state = 1 ∨ k.state = 3) ∧ compEmpty s c then withStatus (destroyComp s c) w 0x2A1004 csDone
  else withStatus s w 0x2A1004 csBadState

/-! ## Reset (R239, R240) -/

/-- Windows of a composition lose `enable` and their cursor goes to 0 (R239 step 2). -/
def resetWindows (s : State) (c : Nat) : State :=
  (List.range 16).foldl (fun s w =>
    let i := c + w * 2 ^ 8
    let v := windowOf s c w
    if winEnable v ∨ winCursor v ≠ 0 then
      mirrorObject (setObj s 0x254003 i (setBits (setBits v 32 1 0) 12 12 0)) 0x254003 i 16 c
    else s)
    (s.onTier (fun t => { t with repoints := t.repoints.filter (fun p => decide (p.1 / 16 ≠ c)) }))

/-- The regions of a composition end (R239 step 2). -/
def resetRegions (s : State) (c : Nat) : State :=
  (((regions s).filter (fun p => decide (regComp p.2 = c))).map Prod.fst).foldl destroyRegion s

/-- The filter entries of a composition are freed (R239 step 4). -/
def freeCompEntries (s : State) (c : Nat) : State :=
  let ls := entryLines s (fun _ e => decide (e.comp = c))
  let s1 := s.onHome (fun h => { h with filter := h.filter.filter (fun p => decide (p.2.comp ≠ c)) })
  ls.foldl resumeWay (mirrorOnly s1 (ls.map (recFilter s1)))

/-- The steps of R239. -/
def resetComp (s : State) (c : Nat) : State :=
  let exts := (s.home.exts.filter (fun p => decide (p.2.comp = c) && decide (1 ≤ p.2.state) && decide (p.2.state ≤ 3))).map Prod.fst
  let parts := (s.search.parts.filter (fun p => (decide (p.2.state = 2) || decide (p.2.state = 3) ||
    (decide (p.2.state = 1) && !p.2.destroying)) && decide (pdComp p.2.desc = c))).map Prod.fst
  let s1 := mirrorComp (setComp s c { compOf s c with state := 2, waitExts := exts, waitParts := parts, waitWalk := true }) c
  let s2 := post s1 0x0A02 (some c) (pay [(4, (compOf s1 c).resetCount)])
  let s3 := resetWindows (resetRegions (resetParts (resetSlots (discardLaunches s2 c) c) c) c) c
  let s4 := exts.foldl resetExt s3
  let s5 := dropEntries (freeCompEntries (joinWalk s4 (.reset c)) c) (fun _ e => decide (e.comp = c))
  freshKeys (resetRecords (closeCtxs s5 (fun x => decide (x.comp = c))) c) c 1

/-- `RESET` of a composition (R228). -/
def compositionResetCmd (s : State) (w : Requester) : Acc :=
  let c := selVal s w 0x2A1001
  let k := compOf s c
  if k.state = 2 then withStatus s w 0x2A1004 csBusy
  else if k.state = 1 ∨ k.state = 3 then
    if !s.security.rngOk then
      withStatus (s.onSecurity (fun x => { x with keyOps := x.keyOps ++ [{ create := false, who := w, comp := c, staged := 0 }] }))
        w 0x2A1004 csBusy
    else withStatus (resetComp s c) w 0x2A1004 csDone
  else withStatus s w 0x2A1004 csBadState

/-- `COMPOSITION_RESET_COMPLETE`: the walk is done, and every extent and partition of the reset is `ACTIVE` (R239). -/
def resetComplete (s : State) (c : Nat) : State :=
  let k := compOf s c
  if k.state = 2 && !k.waitWalk && k.waitExts.all (fun i => decide ((extOf s i).state = 1)) &&
      k.waitParts.all (fun p => decide ((partOf s p).state = 2)) then
    let s1 := mirrorComp (setComp s c { k with state := 1, resetCount := inc32 k.resetCount, waitExts := [], waitParts := [] }) c
    let s2 := post s1 0x0A03 (some c) (pay [(4, inc32 k.resetCount)])
    triggerHosts s2 c k.vector (liveMembers s2 c)
  else s

/-- A command that waited for the random source runs (R412). -/
def runKeyOp (s : State) (o : KeyOp) : State :=
  if o.create then
    if createCheck s o.comp o.staged = csDone then
      setStatus (setStaged (createComp s o.comp o.staged) o.who 0x2A1002 0) o.who 0x2A1004 csDone
    else setStatus s o.who 0x2A1004 (createCheck s o.comp o.staged)
  else if (compOf s o.comp).state = 1 ∨ (compOf s o.comp).state = 3 then
    setStatus (resetComp s o.comp) o.who 0x2A1004 csDone
  else setStatus s o.who 0x2A1004 csBadState

/-- `RANDOM_SOURCE_UNHEALTHY`: 0x0D36 is posted once (R412). -/
def randomUnhealthy (s : State) (test : Nat) : State :=
  if s.security.rngOk then post (s.onSecurity (fun x => { x with rngOk := false })) 0x0D36 none (pay [(1, test)]) else s

/-- `RANDOM_SOURCE_HEALTHY`: held commands draw their keys (R412). -/
def randomHealthy (s : State) : State :=
  if s.security.rngOk then s
  else s.security.keyOps.foldl runKeyOp (s.onSecurity (fun x => { x with rngOk := true, keyOps := [] }))

end Sys2Proof.Machine
end

