-- ==== Sys2Proof/Machine/Links.lean ====
section
/-! DEFINITION. Logical ports: geometry, presence, laser inputs and the link state machine (R278-R286, R290, R300-R303). -/

namespace Sys2Proof.Machine

/-! ## Geometry (R278) -/

/-- Breakout of a physical port: 0 1×8, 1 2×4, 2 4×2. -/
def breakoutOf (s : State) (phys : Nat) : Nat := getObj s 0x212002 phys

/-- Logical ports of a physical port. -/
def lportCount (s : State) (phys : Nat) : Nat := match breakoutOf s phys with | 0 => 1 | 1 => 2 | _ => 4

/-- Whether a logical port exists. -/
def portExists (s : State) (p : Nat) : Bool := decide (p < 256) && decide (p % 4 < lportCount s (physOf p))

/-- Width of a logical port in lanes. -/
def portWidth (s : State) (p : Nat) : Nat := 8 / lportCount s (physOf p)

/-- Lanes of a logical port. -/
def portLanes (s : State) (p : Nat) : List Nat := (List.range (portWidth s p)).map (fun i => portWidth s p * (p % 4) + i)

/-- The logical ports of a physical port. -/
def lportsOf (s : State) (phys : Nat) : List Nat := (List.range (lportCount s phys)).map (fun j => 4 * phys + j)

/-- Key of a lane: physical port and lane (R449). -/
def laneKey (phys lane : Nat) : Nat := phys + lane * 2 ^ 8

/-- Whether every lane of a logical port is present (R284). -/
def portPresent (s : State) (p : Nat) : Bool :=
  (portLanes s p).all (fun l => decide (getObj s 0x215105 (laneKey (physOf p) l) = 1))

/-- Whether the laser input of a physical port is `OK`. -/
def laserOk (s : State) (phys : Nat) : Bool := decide (getObj s 0x216004 phys = 2)

/-! ## Link states (R285) -/

abbrev lsDisabled : Nat := 0
abbrev lsDark : Nat := 1
abbrev lsTrain : Nat := 2
abbrev lsAlign : Nat := 3
abbrev lsParam : Nat := 4
abbrev lsSecure : Nat := 5
abbrev lsUp : Nat := 6
abbrev lsRetrain : Nat := 7
abbrev lsFault : Nat := 8

/-- A link. -/
def linkOf (s : State) (p : Nat) : Link := s.links.getD p {}

/-- Store a link. -/
def setLink (s : State) (p : Nat) (l : Link) : State := { s with links := s.links.setD p {} l }

/-- Enter a link state now. -/
def enterLink (s : State) (p st : Nat) : State :=
  setLink (setObj s 0x212007 p st) p { linkOf s p with since := s.now }

/-- Whether a port counts as down (R302): neither `UP` nor in `RETRAIN`. -/
def portDown (s : State) (p : Nat) : Bool := linkState s p != lsUp && linkState s p != lsRetrain

/-- `PARAM` entered: what the port grants and is, as its parameter block (R285, R286). -/
def grantsOf (s : State) (p : Nat) : Nat :=
  let v := getObj s 0x21200A p
  if v ≥ 2 ^ 128 then v % 2 ^ 128 else pack ((List.range 8).map (fun _ => (16, 32768 / lportCount s (physOf p) / 8)))

/-- Grant of a class. -/
def grantOf (s : State) (p c : Nat) : Nat := bits (grantsOf s p) (16 * c) 16

/-- The most credits a limited host's port may grant (R264); 0 for no limit. -/
def creditCap (s : State) (p : Nat) : Nat :=
  ((boundHosts (getObj s 0x230202 p)).dedup.map (fun h =>
    if limitOf s h = 0 then 0 else max 72 (limitOf s h * cfg s 0x221002 / 384))).sum

/-- The grants sent to the peer: what object 2120.0A grants, cut down where a bandwidth limit asks for it, and no class
below nine slots (R264; log entry 32). -/
def sentGrants (s : State) (p : Nat) : List Nat :=
  let gs := (List.range 8).map (grantOf s p)
  let nine := gs.map (max 9)
  if creditCap s p = 0 then gs
  else if nine.sum ≤ creditCap s p then nine
  else nine.map (fun g => min g (max 9 (creditCap s p / 8)))

/-- A link whose grants change while it runs (R264): what is granted less is withheld from the slots freed next, what is
granted more is returned at once (DESIGN CHOICE, log entry 121). -/
def regrantLink (want : List Nat) (l : Link) : Link :=
  (List.range 8).foldl (fun l c =>
    let old := l.grants.getD c 0
    let new := want.getD c 0
    let owed := l.freed.getD c 0
    let kept := l.withheld.getD c 0
    if new < old then
      let now := min (old - new) owed
      { l with grants := l.grants.put c new, freed := l.freed.put c (owed - now), withheld := l.withheld.put c (kept + (old - new - now)) }
    else
      let back := min (new - old) kept
      { l with grants := l.grants.put c new, withheld := l.withheld.put c (kept - back), freed := l.freed.put c (owed + (new - old - back)) }) l

/-- The grants of a running port follow its limit (R264). -/
def regrant (s : State) (p : Nat) : State :=
  if linkState s p = lsSecure ∨ !portDown s p then setLink s p (regrantLink (sentGrants s p) (linkOf s p)) else s

/-- The parameter block that this ZX964 sends on a port. -/
def ownParams (s : State) (p : Nat) : Slot :=
  BitVec.ofNat 256 (pack ([(8, 2), (2, portRole s p), (2, 2), (1, getObj s 0x213001 p), (1, 1), (2, 0), (8, portWidth s p),
    (8, 0), (16, ownPair s + 64 * s.twin.side), (16, 0)] ++ (sentGrants s p).map (fun g => (16, g))))

def pbLevel (b : Nat) : Nat := bits b 0 8
def pbRole (b : Nat) : Nat := bits b 8 2
def pbKind (b : Nat) : Nat := bits b 10 2
def pbEncrypt (b : Nat) : Nat := bits b 12 1
def pbNarrow (b : Nat) : Bool := bit b 13
def pbLanes (b : Nat) : Nat := bits b 16 8
def pbIdentity (b : Nat) : Nat := bits b 32 16
def pbCredits (b c : Nat) : Nat := bits b (64 + 16 * c) 16

/-- The peer's parameter block. -/
def peerParams (s : State) (p : Nat) : Nat := getObj s 0x21200B p

/-- Link causes (object 2120.08). -/
abbrev lcLevel : Nat := 1
abbrev lcWidth : Nat := 2
abbrev lcPeer : Nat := 3
abbrev lcSecurity : Nat := 4
abbrev lcCredits : Nat := 5
abbrev lcNoKeys : Nat := 6
abbrev lcRekey : Nat := 7
abbrev lcLaser : Nat := 8
abbrev lcPresence : Nat := 9
abbrev lcRetrain : Nat := 10
abbrev lcCommand : Nat := 11

/-- The identity that 0x0101 names. -/
def upIdentity (s : State) (p : Nat) : Nat :=
  let b := peerParams s p
  if pbKind b = 0 then ((boundHosts (getObj s 0x230202 p)).foldl (fun m h => min m h) 0xFFFF) else pbIdentity b

/-! ## Down timers (R79, R98, R381) -/

/-- The hosts bound to any port. -/
def allBound (s : State) : List Nat := ((listed s 0x230202).map (fun p => boundHosts p.2)).flatten.dedup

/-- Start or stop the host-loss timer of each host (R79; log entry 33). -/
def refreshDown (s : State) : State :=
  (allBound s).foldl (fun s h =>
    if attached s h && !isLost s h && (portsOfHost s h).all (portDown s) then
      (if s.home.hostDown.has h then s else s.onHome (fun x => { x with hostDown := x.hostDown.put h s.now }))
    else s.onHome (fun x => { x with hostDown := x.hostDown.del h })) s

/-! ## Path changes (R43, R301, R302, R341) -/

/-- Another `UP` port to a pair than the one in use. -/
def otherPort (s : State) (pair p : Nat) : Option Nat :=
  let cs := (candidates s pair).filter (fun q => decide (q ≠ p))
  match cs.filter (fun q => !drained s q) with
  | q :: _ => some q
  | [] => cs.head?

/-- Every destination reached through a port moves to another path, with a cause. -/
def movePaths (s : State) (p cause : Nat) : State :=
  ((s.tm.paths.filter (fun x => decide (x.2 = p))).map Prod.fst).foldl (fun s pair =>
    match otherPort s pair p with
    | some q => pathChangeStart s pair q cause
    | none => s) s

/-! ## Up and down -/

/-- A port becomes `UP`: event 0x0101, its host or tray is no longer down, unacknowledged batches are sent again on a twin
link (R285, R309). -/
def linkUpNow (s : State) (p : Nat) : State :=
  let s1 := enterLink s p lsUp
  let s2 := setObj s1 0x214003 p (if (linkOf s1 p).narrow then 1 else portWidth s p)
  let s3 := setLink s2 p { linkOf s2 p with lastMsg := s.now }
  let s4 := post s3 0x0101 none (pay [(1, p), (1, portRole s p), (2, upIdentity s p), (1, (linkOf s p).level)])
  let s5 := (refreshDown s4).onTier (fun t => { t with down := t.down.del p })
  if portRole s p = roleTwin ∧ mirrorsNow s5 then resendJournal s5 else s5

/-- Messages that the link holds (R301): queued for egress, unacknowledged, held in the ingress buffer at admission or by a path
change, and half received. -/
def linkHeld (s : State) (p : Nat) : Nat :=
  ((List.range 8).map (fun c => (s.tm.egress.getD (p * 8 + c) []).length)).sum + (linkOf s p).carried.length +
  (s.tm.held.filter (fun x => decide (x.1 = p))).length +
  ((s.tm.changes.map (fun c => (c.2.held.filter (fun x => decide (x.1 = p))).length)).sum) + (if (linkOf s p).part.isEmpty then 0 else 1)

/-- The port reset scope of R238 and R301: link state, credits, replay buffer and the messages in them. -/
def dropLink (s : State) (p : Nat) : State :=
  let l := linkOf s p
  let s1 := setLink s p { wire := l.wire, since := l.since, level := l.level, params := l.params }
  let s2 := s1.onTm (fun t => { t with
    egress := t.egress.filter (fun x => decide (x.1 / 8 ≠ p))
    held := t.held.filter (fun x => decide (x.1 ≠ p))
    changes := t.changes.mapV (fun _ c => { c with held := c.held.filter (fun x => decide (x.1 ≠ p)) })
    fences := t.fences.filter (fun f => f.admitted || decide (f.port ≠ p)) })
  s2.onSecurity (fun x => { x with sessions := x.sessions.del p })

/-- A link goes down (R301) with a cause, into a next state. -/
def linkDown (s : State) (p cause next : Nat) : State :=
  let n := linkHeld s p
  let s1 := enterLink (dropLink s p) p next
  let s2 := setObj (setObj s1 0x212008 p cause) 0x214003 p 0
  let s3 := addErr (addErr s2 0x215008 p n) 0x215009 p 1
  let s4 := post s3 0x0102 none (pay [(1, p), (1, cause), (4, n)])
  let s5 := refreshDown s4
  let s6 := if portRole s p = roleTray then s5.onTier (fun t => { t with down := t.down.put p s.now }) else s5
  let s7 := if (portRole s p = roleTrunk ∨ portRole s p = roleTwin) ∧ next ≠ lsDisabled then
      s6.onTwin (fun t => { t with wentDown := if t.wentDown.contains p then t.wentDown else t.wentDown ++ [p] }) else s6
  movePaths s7 p 2

/-- A port enters `FAULT` with a cause: event 0x0104. -/
def linkFault (s : State) (p cause : Nat) : State :=
  post (setObj (enterLink s p lsFault) 0x212008 p cause) 0x0104 none (pay [(1, p), (1, cause)])

/-- A port enters `RETRAIN`: counted, scored, 0x0103 posted, other paths taken (R285, R302). Reason: 0 replay limit,
1 lock lost, 2 command. -/
def enterRetrain (s : State) (p reason : Nat) : State :=
  let s1 := addPortScore (addErr (enterLink s p lsRetrain) 0x215004 p 1) p 2 1
  movePaths (post s1 0x0103 none (pay [(1, p), (1, reason)])) p 2

/-- Whether a port's transmitters run: in `FULL` and `TRIM`, and in `QUIET` for the link keeper's trunk and twin links
(R382); never without the 156.25 MHz reference (R378). -/
def opticsOn (s : State) (p : Nat) : Bool :=
  s.power.ref156 && (decide (s.power.state = 1) || decide (s.power.state = 2) ||
    (decide (s.power.state = 3) && decide (2 ≤ portRole s p)))

/-- A `DARK` port that is present with its laser input `OK` starts training (R285). -/
def tryDark (s : State) (p : Nat) : State :=
  if linkState s p = lsDark ∧ portPresent s p ∧ laserOk s (physOf p) ∧ opticsOn s p then
    let s1 := enterLink s p lsTrain
    setLink s1 p { linkOf s1 p with calibrated := decide (getObj s 0x216103 (physOf p / 4) = 1) }
  else s

/-- A port goes `DARK`. -/
def goDark (s : State) (p : Nat) : State := tryDark (enterLink s p lsDark) p

/-- R301 into `DARK`. -/
def downToDark (s : State) (p cause : Nat) : State := tryDark (linkDown s p cause lsDark) p

/-! ## Enable and disable (R283, R285) -/

/-- The light engine of a port is powered: its inputs that read `OFF` read what their power gives (log entry 34). -/
def powerEngine (s : State) (engine : Nat) : State :=
  (List.range 4).foldl (fun s i =>
    let f := 4 * engine + i
    if getObj s 0x216004 f ≠ 0 then s
    else if sint (getObj s 0x216003 f) 32 + 50 ≤ sint (getObj s 0x216002 f) 32 then setObj s 0x216004 f 2
    else setObj s 0x216004 f 1) s

/-- A light engine whose ports are all `DISABLED` is off, and its inputs read `OFF` (R283). -/
def idleEngine (s : State) (engine : Nat) : State :=
  if (List.range 16).all (fun i => decide (linkState s (16 * engine + i) = lsDisabled)) then
    (List.range 4).foldl (fun s i => setObj s 0x216004 (4 * engine + i) 0) s
  else s

/-- A port is enabled (R285 first row). -/
def portEnable (s : State) (p : Nat) : State :=
  if linkState s p = lsDisabled ∧ getObj s 0x212005 p = 0 then
    goDark (powerEngine (setObj s 0x212005 p 1) (physOf p / 4)) p
  else s

/-- A port is disabled, by any requester or by the ZX964 itself (R285). -/
def portDisable (s : State) (p : Nat) : State :=
  let s1 := setObj s 0x212005 p 0
  let s2 := s1.onTwin (fun t => { t with wentDown := t.wentDown.filter (fun q => decide (q ≠ p)) })
  if linkState s p = lsDisabled then s2
  else
    let s3 := if portDown s p then enterLink (dropLink s2 p) p lsDisabled else linkDown s2 p lcCommand lsDisabled
    idleEngine s3 (physOf p / 4)

/-- The selected logical port of a requester. -/
def selPort (s : State) (w : Requester) : Nat := selVal s w 0x212003

/-- A write of object 2120.05. -/
def enableWrite (s : State) (w : Requester) (v : Nat) : Acc :=
  let p := selPort s w
  if !portExists s p then (aeRange, s) else (aeOk, if v = 1 then portEnable s p else portDisable s p)

/-- `RESET` of a port (R285). -/
def portResetCmd (s : State) (w : Requester) : Acc :=
  let p := selPort s w
  let st := linkState s p
  if st = lsFault then withStatus (goDark s p) w 0x212009 0
  else if st = lsSecure ∨ st = lsUp ∨ st = lsRetrain then withStatus (downToDark s p lcCommand) w 0x212009 0
  else withStatus s w 0x212009 2

/-- `RETRAIN` of a port (R285). -/
def portRetrainCmd (s : State) (w : Requester) : Acc :=
  let p := selPort s w
  if linkState s p = lsUp then withStatus (enterRetrain s p 2) w 0x212009 0 else withStatus s w 0x212009 2

/-- Grants that exceed the share which the breakout now leaves a logical port go back to the default (R290; DESIGN CHOICE, log
entry 121). -/
def trimGrants (s : State) (p : Nat) : State :=
  if 32768 / lportCount s (physOf p) < ((List.range 8).map (grantOf s p)).sum then setObj s 0x21200A p 0 else s

/-- `BREAKOUT_WRITE` (R279): a refusal is `BUSY` in object 2120.09. -/
def breakoutWrite (s : State) (w : Requester) (v : Nat) : Acc :=
  let f := selVal s w 0x212001
  if 2 < v then (aeRange, s)
  else if !((List.range 4).all (fun j => decide (linkState s (4 * f + j) = lsDisabled))) then withStatus s w 0x212009 1
  else withStatus ((List.range 4).foldl (fun s j => trimGrants s (4 * f + j)) (setObj s 0x212002 f v)) w 0x212009 0

/-- `PORT_ROLE_WRITE` (R280, R415). -/
def portRoleWrite (s : State) (w : Requester) (v : Nat) : Acc :=
  let p := selPort s w
  if 3 < v then (aeRange, s)
  else if linkState s p ≠ lsDisabled then (aeState, s)
  else if v = roleTwin ∧ getObj s 0x213001 p = 0 then withStatus s w 0x212009 2
  else withStatus (watchTray (setObj s 0x212004 p v) p) w 0x212009 0

/-- A write of object 2130.01 (R286, R415). -/
def encryptWrite (s : State) (w : Requester) (v : Nat) : Acc :=
  let p := selPort s w
  if linkState s p ≠ lsDisabled then (aeState, s)
  else if v = 0 ∧ portRole s p = roleTwin then withStatus s w 0x212009 2
  else (aeOk, setObj s 0x213001 p v)

/-- A write of object 2120.0A (R290). -/
def creditsWrite (s : State) (w : Requester) (v : Nat) : Acc :=
  let p := selPort s w
  let sum := ((List.range 8).map (fun c => bits v (16 * c) 16)).sum
  if linkState s p ≠ lsDisabled ∨ 32768 / lportCount s (physOf p) < sum then withStatus s w 0x212009 1
  else withStatus (setObj s 0x21200A p (v + 2 ^ 128)) w 0x212009 0

/-! ## Laser inputs and presence (R283, R284) -/

/-- A 32-bit two's complement object value. -/
def i32 (i : Int) : Nat := ofInt i 32

/-- `LASER_INPUT_LOW`. -/
def laserLow (s : State) (f : Nat) (power : Int) : State :=
  if f < 64 ∧ power < sint (getObj s 0x216003 f) 32 then
    let s1 := setObj s 0x216002 f (i32 power)
    if getObj s 0x216004 f = 2 then
      let s2 := addScore (addErr (setObj s1 0x216004 f 1) 0x216005 f 1) 3 f 0 1
      let s3 := post s2 0x0110 none (pay [(1, f), (4, i32 power)])
      (lportsOf s3 f).foldl (fun s p => if portDown s p then s else downToDark s p lcLaser) s3
    else s1
  else s

/-- `LASER_INPUT_RESTORED`: power 0.5 dB above the threshold for 1 ms. -/
def laserRestored (s : State) (f : Nat) (power : Int) : State :=
  if f < 64 ∧ sint (getObj s 0x216003 f) 32 + 50 ≤ power then
    let s1 := setObj s 0x216002 f (i32 power)
    if getObj s 0x216004 f = 1 then
      let s2 := post (setObj s1 0x216004 f 2) 0x0111 none (pay [(1, f), (4, i32 power)])
      (lportsOf s2 f).foldl tryDark s2
    else s1
  else s

/-- A lane's presence (object 2151.05) becomes a value: every change is counted and scored (R284, R338). -/
def putPresence (s : State) (f lane : Nat) (present : Bool) : State :=
  if getObj s 0x215105 (laneKey f lane) = b2n present then s
  else addScore (addErr (setObj s 0x215105 (laneKey f lane) (b2n present)) 0x215104 (laneKey f lane) 1) 0 (f * 8 + lane) 1 1

/-- Whether a received power keeps a lane present: at or above object 2151.06 (R284). -/
def powerPresent (s : State) (f lane : Nat) (power : Int) : Bool := decide (sint (getObj s 0x215106 (laneKey f lane)) 32 ≤ power)

/-- `LANE_PRESENCE_CHANGE` (R284): a lane's received power, in 0.01 dBm, has stayed on one side of object 2151.06 for 10 µs.
Outside `OFF`; in `WATCH` the island samples instead (R385). -/
def lanePresence (s : State) (f lane : Nat) (power : Int) : State :=
  if f < 64 ∧ lane < 8 ∧ s.power.state ≠ 0 ∧ s.power.state ≠ 4 then
    let present := powerPresent s f lane power
    let s1 := setObj s 0x215103 (laneKey f lane) (i32 power)
    let s2 := putPresence s1 f lane present
    if getObj s 0x215105 (laneKey f lane) = b2n present then s2 else
    (lportsOf s2 f).foldl (fun s p =>
      if present then tryDark s p
      else if !portDown s p && (portLanes s p).contains lane then downToDark s p lcPresence else s) s2
  else s

/-! ## Training (R285, R450) -/

/-- `RECEIVERS_ADAPTED`. -/
def receiversAdapted (s : State) (p : Nat) : State := if linkState s p = lsTrain then enterLink s p lsAlign else s

/-- `TRAIN_TIMEOUT`: 20 ms, or 2 ms from saved calibration. -/
def trainTimeout (s : State) (p : Nat) : State :=
  if linkState s p = lsTrain then
    let l := linkOf s p
    goDark (addErr (reachTime s (l.since + (if l.calibrated then 2000000 else 20000000))) 0x215009 p 1) p
  else s

/-- Whether this ZX964 is an unclaimed spare (R331, R332). -/
def unclaimedSpare (s : State) : Bool := s.twin.pair == psSpare && !s.twin.claimed

/-- `CODEWORDS_LOCKED`: the parameter block is sent; an unclaimed spare sends it on a twin port only after its peer's
(R332). -/
def codewordsLocked (s : State) (p : Nat) : State :=
  if linkState s p = lsAlign then
    let s1 := enterLink s p lsParam
    if unclaimedSpare s ∧ portRole s p = roleTwin then s1 else setLink s1 p { linkOf s1 p with params := ownParams s p }
  else s

/-- `ALIGN_TIMEOUT`: 1 ms. -/
def alignTimeout (s : State) (p : Nat) : State :=
  if linkState s p = lsAlign then enterLink (reachTime s ((linkOf s p).since + 1000000)) p lsTrain else s

/-- `PARAM_TIMEOUT`: 1 ms, counted. -/
def paramTimeout (s : State) (p : Nat) : State :=
  if linkState s p = lsParam then
    enterLink (addErr (reachTime s ((linkOf s p).since + 1000000)) 0x215009 p 1) p lsTrain
  else s

/-- The tray numbers of the stripe-set members that name a port. -/
def traysOnPort (s : State) (p : Nat) : List Nat :=
  ((List.range 256).map (fun set =>
    let h := stripeHeader s set
    if stripeValid h then
      ((List.range (stripeMembers h)).filter (fun j => decide (memberPort (stripeMember s set j) = p))).map
        (fun j => memberTray (stripeMember s set j))
    else [])).flatten

/-- Whether roles and kinds pair up (R286 step 3). -/
def peerMatches (s : State) (p b : Nat) : Bool :=
  match portRole s p with
  | 0 => decide (pbKind b = 0)
  | 1 => decide (pbKind b = 1) && (traysOnPort s p).all (fun t => decide (t = pbIdentity b % 256))
  | 2 => decide (pbKind b = 2) && decide (pbRole b = 2)
  | _ => decide (pbKind b = 2) && decide (pbRole b = 3) && decide (pbIdentity b % 64 = ownPair s) &&
         decide (bits (pbIdentity b) 6 1 = 1 - s.twin.side)

/-- The cause that makes a peer's block incompatible, if any (R286). -/
def paramCause (s : State) (p b : Nat) : Option Nat :=
  if pbLevel b ≠ 1 ∧ pbLevel b ≠ 2 then some lcLevel
  else if pbLanes b ≠ portWidth s p then some lcWidth
  else if !peerMatches s p b then some lcPeer
  else if pbEncrypt b ≠ getObj s 0x213001 p then some lcSecurity
  else if (List.range 8).any (fun c => decide (pbCredits b c < 9)) then some lcCredits
  else none

/-- Whether this ZX964 requests the SPDM session of a port (R404). -/
def requestsSession (s : State) (p : Nat) : Bool :=
  match portRole s p with
  | 0 => false
  | 1 => true
  | _ => decide (ownPair s * 2 + s.twin.side < pbIdentity (peerParams s p) % 64 * 2 + bits (pbIdentity (peerParams s p)) 6 1)

/-- An SPDM request of this ZX964 on a port, in the class of object 2B00.06 (log entry 35): the steward sends it, while it
runs (R369). -/
def sendSpdm (s : State) (p : Nat) (x : Nat × Nat) : State :=
  let n := min 128 (max 1 x.1)
  let peer := pbIdentity (peerParams s p)
  let m : Msg := {
    opcode := opMgmt, tc := cfg s 0x2B0006, ext := ceilDiv n 32, peer := ownAgent s agentSteward
    body := pack [(6, peer % 64), (1, bits peer 6 1), (1, 0), (4, 4), (4, 0), (16, 0), (8, 0), (8, 0), (16, 0), (8, n)]
    data := natSlots x.2 (ceilDiv n 32) }
  if s.power.steward = 2 then emit s p m else s

/-- The link enters `SECURE`: the requester of R404 starts the session. -/
def enterSecure (s : State) (p : Nat) : State :=
  let s1 := enterLink s p lsSecure
  if requestsSession s p && !s.security.holdoff.has p then
    sendSpdm (s1.onSecurity (fun x => { x with sessions := x.sessions.put p 1 })) p (Config.spdmStart (peerParams s p))
  else s1

/-- A peer's parameter block is accepted: the link starts afresh with its credits (R285). -/
def paramAccepted (s : State) (p b : Nat) : State :=
  let l := linkOf s p
  let s1 := setLink (dropLink s p) p {
    wire := l.wire
    params := ownParams s p
    level := min 2 (pbLevel b)
    grants := (List.range 8).foldl (fun m c => m.put c ((sentGrants s p).getD c 0)) []
    credits := (List.range 8).foldl (fun m c => m.put c (pbCredits b c)) [] }
  let s2 := if pbKind b = 2 then s1.onTwin (fun t => { t with portPeer := t.portPeer.put p (pbIdentity b % 128) }) else s1
  if getObj s 0x213001 p = 1 then enterSecure s2 p else linkUpNow s2 p

/-- Store the peer's block and take what R286 says; the twin chapter adds what a spare does first (R332). -/
def paramReceived (s : State) (p : Nat) (block : Slot) : State :=
  let b := block.toNat
  let s1 := setObj s 0x21200B p b
  match paramCause s1 p b with
  | some c => linkFault s1 p c
  | none => paramAccepted s1 p b

/-- `SECURE_TIMEOUT`: no keys within object 2130.02. -/
def secureTimeout (s : State) (p : Nat) : State :=
  if linkState s p = lsSecure then
    linkFault (dropLink (reachTime s ((linkOf s p).since + 1000000 * getObj s 0x213002 p)) p) p lcNoKeys
  else s

/-- `CODEWORD_LOCK_LOST`. -/
def lockLost (s : State) (p : Nat) : State := if linkState s p = lsUp then enterRetrain s p 1 else s

/-- `RETRAIN_TIMEOUT`: the retrain is not complete within object 2121.02. -/
def retrainTimeout (s : State) (p : Nat) : State :=
  if linkState s p = lsRetrain then
    downToDark (reachTime s ((linkOf s p).since + 1000 * getObj s 0x212102 p)) p lcRetrain
  else s

/-! ## Narrow operation (R300) -/

/-- `NARROW_IDLE`. -/
def narrowIdle (s : State) (p : Nat) : State :=
  let l := linkOf s p
  if s.power.state = 2 ∧ linkState s p = lsUp ∧ (portRole s p = roleHost ∨ portRole s p = roleTray) ∧
      pbNarrow (peerParams s p) ∧ getObj s 0x214001 p = 1 ∧ (s.tm.gates.getD p {}).running = none ∧ !l.narrow then
    let s1 := reachTime s (l.lastMsg + 1000 * getObj s 0x214002 p)
    setObj (setLink s1 p { l with narrow := true }) 0x214003 p 1
  else s

/-- Whether the sender asks for full width: more than 1 µs of traffic queued at one lane's rate (R300). -/
def wantsWide (s : State) (p : Nat) : Bool :=
  (linkOf s p).narrow && decide (25000 < 32 * ((List.range 8).map (fun c =>
    ((s.tm.egress.getD (p * 8 + c) []).map (fun e => e.m.slotCount)).sum)).sum)

/-- `FULL_WIDTH_RESTORED`: either end asks for full width, or the ZX964 has left `TRIM` (R300). -/
def fullWidth (s : State) (p : Nat) : State :=
  let l := linkOf s p
  if l.narrow && (wantsWide s p || l.rxWide || decide (s.power.state ≠ 2)) then
    setObj (setLink s p { l with narrow := false, lastMsg := s.now }) 0x214003 p (if portDown s p then 0 else portWidth s p)
  else s

end Sys2Proof.Machine
end

