-- ==== Sys2Proof/Machine/Flits.lean ====
section
/-! DEFINITION. The link layer: egress scheduling, shapers and gates, flits, replay, credits and link encryption
(R267-R271, R287-R298, R300). -/

namespace Sys2Proof.Machine

/-! ## Gates and shapers (R268-R271) -/

/-- Key of a gate entry or gate length. -/
def gateKey (p bank : Nat) : Nat := p + bank * 2 ^ 8
/-- Entry of a bank (object 2350.04) and its fields. -/
def gateEntryOf (s : State) (p bank i : Nat) : Nat := getObj s 0x235004 (gateKey p bank + i * 2 ^ 16)
def geInterval (v : Nat) : Nat := bits v 0 24
def geOpen (v c : Nat) : Bool := bit v (24 + c)
/-- Entries of a bank. -/
def gateLength (s : State) (p bank : Nat) : Nat := getObj s 0x235005 (gateKey p bank) + 1
/-- A port's gate. -/
def gateOf (s : State) (p : Nat) : Gate := s.tm.gates.getD p {}

/-- Guard band in ps (R271). -/
def guardBand (s : State) (p : Nat) : Nat := 1440 * lportCount s (physOf p)

/-- Time in ns for which a class stays open from the start of entry i on, over at most n entries; none: never closes. -/
def openFor (s : State) (p bank c i : Nat) : Nat → Option Nat
  | 0 => none
  | n + 1 =>
    let e := gateEntryOf s p bank (i % gateLength s p bank)
    if geOpen e c then (openFor s p bank c (i + 1) n).map (fun t => t + geInterval e) else some 0

/-- Time in ns for which the running bank keeps a class's gate open from now on; none: for ever. -/
def bankOpen (s : State) (p c : Nat) : Option Nat :=
  let g := gateOf s p
  match g.running with
  | none => none
  | some b =>
    let e := gateEntryOf s p b g.entry
    if geOpen e c then (openFor s p b c (g.entry + 1) (gateLength s p b)).map (fun t => g.since + geInterval e - s.now + t)
    else some 0

/-- The same with a bank switch that is pending: at its time the next bank's entry 0 decides (R271, R272). -/
def gateTime (s : State) (p c : Nat) : Option Nat :=
  let g := gateOf s p
  match g.pendingAt with
  | none => bankOpen s p c
  | some t =>
    let later := (openFor s p g.nextBank c 0 (gateLength s p g.nextBank)).map (fun x => t - s.now + x)
    match bankOpen s p c with
    | none => later
    | some x => if x < t - s.now then some x else later

/-- Whether a message of a class may start now: its gate stays open for the guard band (R271). -/
def gateOpen (s : State) (p c : Nat) : Bool :=
  match gateTime s p c with
  | none => true
  | some t => decide (guardBand s p ≤ 1000 * t)

/-- Shaper entry (object 2340.03). -/
def shaperOf (s : State) (p c : Nat) : Nat := getObj s 0x234003 (p + c * 2 ^ 8)
def shEnable (v : Nat) : Bool := bit v 0
def shStrict (v : Nat) : Bool := bit v 1
def shWeight (v : Nat) : Nat := bits v 8 8
def shRate (v : Nat) : Nat := bits v 16 24
def shBurst (v : Nat) : Nat := bits v 40 16

/-- Shaper level now in thousandths of a byte (R269; v MB/s are v thousandths per ns). -/
def shaperLevel (s : State) (p c : Nat) : Int :=
  let v := shaperOf s p c
  let top : Int := (shBurst v * 32000 : Nat)
  let b := s.tm.shapers.getD (p + c * 2 ^ 8) { level := top, stamp := s.now }
  min top (b.level + ((shRate v * (s.now - b.stamp) : Nat) : Int))

/-- Whether a message is never shaped or gated (R269). -/
def unshaped (m : Msg) : Bool := m.isTwin

/-- Whether a class's shaper lets a message start. -/
def shaperOpen (s : State) (p c : Nat) : Bool := !shEnable (shaperOf s p c) || decide (0 ≤ shaperLevel s p c)

/-- The head message of a class on a port. -/
def egressHead (s : State) (p c : Nat) : Option Msg := ((s.tm.egress.getD (p * 8 + c) []).head?).map EItem.m

/-- Whether a message carries SPDM: the request, or the responder's `RESP_DATA` (R362). -/
def carriesSpdm (m : Msg) : Bool :=
  (m.opcode == opMgmt && m.func == 4) || (m.opcode == opRespData && decide (bits m.body 23 5 = agentSteward))

/-- Whether a message may pass in the link's state: in `SECURE`, only those that carry SPDM (R285). -/
def passes (s : State) (p : Nat) (m : Msg) : Bool := linkState s p != lsSecure || carriesSpdm m

/-- Whether a class could start its head message, its shaper aside. -/
def readyBut (s : State) (p c : Nat) : Bool :=
  match egressHead s p c with
  | some m => (unshaped m || gateOpen s p c) && decide (m.slotCount ≤ (linkOf s p).credits.getD c 0) && passes s p m
  | none => false

/-- Whether a class is eligible (R268, R271, R291). -/
def eligible (s : State) (p c : Nat) : Bool :=
  readyBut s p c && (match egressHead s p c with | some m => unshaped m || shaperOpen s p c | none => false)

/-- Deficit round robin from a class on: the class served, with the deficits after its choice (R268). The class last served
goes on while its deficit covers its head message; a class that the round comes to gains its weight; one with nothing queued
loses what it had. -/
def drrPick (s : State) (p : Nat) (ok : Nat → Bool) : Nat → Nat → Bool → SMap Nat → Option (Nat × SMap Nat)
  | 0, _, _, _ => none
  | n + 1, c, fresh, d =>
    let k := p * 8 + c
    let gain := if fresh && ok c then shWeight (shaperOf s p c) else 0
    let total := d.getD k 0 + gain
    match egressHead s p c with
    | none => drrPick s p ok n ((c + 1) % 8) true (d.del k)
    | some m =>
      if ok c && decide (m.slotCount ≤ total) then some (c, d.put k (total - m.slotCount))
      else drrPick s p ok n ((c + 1) % 8) true (d.put k total)

/-- The class that R268 serves on this slot: strict classes first, highest number first. -/
def pickClass (s : State) (p : Nat) : Option (Nat × State) :=
  match [7, 6, 5, 4, 3, 2, 1, 0].find? (fun c => shStrict (shaperOf s p c) && eligible s p c) with
  | some c => some (c, s)
  | none =>
    let ok : Nat → Bool := fun c => !shStrict (shaperOf s p c) && eligible s p c
    if (List.range 8).any ok then
      (drrPick s p ok 80 (s.tm.rrLast.getD p 0) false s.tm.deficits).map (fun x =>
        (x.1, s.onTm (fun t => { t with deficits := x.2, rrLast := t.rrLast.put p x.1 })))
    else none

/-- Count the slot for each class that waits on its shaper alone (object 2340.04). -/
def countShaperWait (s : State) (p : Nat) : State :=
  (List.range 8).foldl (fun s c =>
    if readyBut s p c && !eligible s p c then addStat s 0x234004 (p + c * 2 ^ 8) 1 else s) s

/-! ## Building flits (R267, R287, R288, R292) -/

/-- Whether flits of the link are encrypted: from the flit after `SECURE` on (R285, R297). -/
def encrypting (s : State) (p : Nat) : Bool := decide (getObj s 0x213001 p = 1) && decide (linkState s p ≠ lsSecure)

/-- Most sequenced flits unacknowledged (R292). -/
def flitWindow (s : State) (p : Nat) : Nat := min 4095 (4096 / lportCount s (physOf p) - 1)

/-- Slots of a class in a port's ingress buffer: held messages and a message that is not complete. -/
def ingressSlots (s : State) (p c : Nat) : Nat :=
  ((s.tm.held.filter (fun x => decide (x.1 = p) && decide (x.2.1.tc = c))).map (fun x => x.2.1.slotCount)).sum +
  ((s.tm.changes.map (fun x => ((x.2.held.filter (fun y => decide (y.1 = p) && decide (y.2.1.tc = c))).map
    (fun y => y.2.1.slotCount)).sum)).sum) +
  (match (linkOf s p).part with | h :: r => if bits h.toNat 8 3 = c then r.length + 1 else 0 | [] => 0)

/-- The link load of R267. -/
def linkLoad (s : State) (p : Nat) : Nat :=
  ((List.range 8).map (fun c => min 15 (16 * ingressSlots s p c / max 1 ((linkOf s p).grants.getD c 0)))).foldl max 0

/-- Six-bit credit counts packed. -/
def packCredits (f : Nat → Nat) : Nat := pack ((List.range 8).map (fun c => (6, f c)))

/-- Bytes 0-11 of slot 0. -/
def slot0Aad (z : Slot0) : BitVec 96 := BitVec.ofNat 96 (bits z.toSlot.toNat 0 96)

/-- The nonce of R297. -/
def linkNonce (key counter : Nat) (idle : Bool) (attempt : Nat) : BitVec 96 :=
  BitVec.ofNat 96 (pack [(32, (Config.linkSalt key).toNat), (59, counter), (1, b2n idle), (4, attempt)])

/-- Seal a flit: encrypted slots and tag where the link encrypts, then the CRC (R287, R297). -/
def sealFlit (s : State) (p : Nat) (z : Slot0) (slots : List Slot) (counter : Nat) : Flit :=
  let key := (linkOf s p).txKey
  let n := linkNonce key counter z.idle z.attempt
  let body := if encrypting s p then gcmSlots (Config.linkKey key) n slots else slots
  let z1 := if encrypting s p then { z with tag := (gcmTag (Config.linkKey key) n (slot0Aad z) body).toNat } else z
  { slot0 := { z1 with crc := flitCrc z1.toSlot body }.toSlot, slots := body }

/-- The fields of slot 0 that are current in every flit (R288). -/
def slot0Now (s : State) (p : Nat) : Slot0 :=
  let l := linkOf s p
  { seq := 0, load := linkLoad s p, ackSeq := l.rxExt % 4096, nak := l.nak, keyPhase := l.txPhase, wide := wantsWide s p }

/-- Put a sequenced flit of the replay buffer on the wire. -/
def wireSent (s : State) (p : Nat) (f : Sent) : State :=
  let z := { slot0Now s p with seq := f.ext % 4096, cont := f.cont, cut := f.cut, attempt := f.attempt, credits := f.credits }
  let l := linkOf s p
  setLink s p { l with wire := l.wire ++ [sealFlit s p z (f.slots.map Prod.fst) f.ext], txUsed := l.txUsed + 1 }

/-- Put an idle flit on the wire. -/
def wireIdle (s : State) (p : Nat) : State :=
  let l := linkOf s p
  let z := { slot0Now s p with seq := l.idleTx % 4096, idle := true }
  setLink s p { l with wire := l.wire ++ [sealFlit s p z (List.replicate 7 0) l.idleTx], txUsed := l.txUsed + 1,
                       idleTx := l.idleTx + 1 }

/-- Whether a begun message waits that has no slot in the flit being assembled: its continuation leads the next sequenced flit,
so this one cannot be sequenced (R287). -/
def passedOver (l : Link) : Bool := !l.rest.isEmpty && !l.build.any (fun x => decide (x.2 = l.serial))

/-- The flit being assembled is complete: sequenced, or idle (R288). -/
def finishFlit (s : State) (p : Nat) : State :=
  let l := linkOf s p
  let room := decide (l.replay.length < flitWindow s p) && !passedOver l
  let give : Nat → Nat := fun c => min 63 (l.freed.getD c 0)
  let credits := if room then packCredits give else 0
  if room && (l.build.any (fun x => decide (x.2 ≠ 0)) || decide (l.cont ≠ 0) || decide (credits ≠ 0)) then
    let f : Sent := { ext := l.txExt, slots := l.build, cont := l.cont, cut := l.cut, credits := credits, sentAt := s.now }
    let s1 := setLink s p { l with
      build := []
      cont := 0
      cut := false
      txExt := l.txExt + 1
      replay := l.replay ++ [f]
      freed := l.freed.mapV (fun c n => n - give c) }
    addStat (wireSent s1 p f) 0x215001 p 1
  else wireIdle (setLink s p { l with build := [], cont := 0 }) p

/-- Append a slot to the flit being assembled; the seventh completes it. -/
def putSlot (s : State) (p : Nat) (x : Slot × Nat) (cont : Bool) : State :=
  let l := linkOf s p
  let s1 := setLink s p { l with build := l.build ++ [x], cont := l.cont + b2n cont }
  if 7 ≤ l.build.length + 1 then finishFlit s1 p else s1

/-- The head message of a class starts: credits consumed, its shaper charged (R269, R291). -/
def startMessage (s : State) (p c : Nat) : State :=
  match s.tm.egress.getD (p * 8 + c) [] with
  | e :: rest =>
    let l := linkOf s p
    let n := e.m.slotCount
    let s1 := s.onTm (fun t => { t with
      egress := if rest.isEmpty then t.egress.del (p * 8 + c) else t.egress.put (p * 8 + c) rest
      shapers := if shEnable (shaperOf s p c) && !unshaped e.m then
        t.shapers.put (p + c * 2 ^ 8) { level := shaperLevel s p c - (32000 * n : Nat), stamp := s.now } else t.shapers })
    let s2 := setLink s1 p { l with
      credits := l.credits.put c (l.credits.getD c 0 - n)
      rest := e.m.data
      serial := l.serial + 1
      carried := l.carried.put (l.serial + 1) { since := e.since, cls := c, slots := n }
      lastMsg := s.now }
    putSlot s2 p (e.m.header, l.serial + 1) false
  | [] => s

/-- `EGRESS_SLOT`: one slot of a port (R268, R285, R287). In `RETRAIN` no new flit is sent. -/
def egressSlot (s : State) (p : Nat) : State :=
  let l := linkOf s p
  if linkState s p ≠ lsUp ∧ linkState s p ≠ lsSecure then s
  else if flitWindow s p ≤ l.replay.length then putSlot s p (0, 0) false
  else
    match l.rest with
    | x :: r =>
      if l.build.any (fun y => decide (y.2 = l.serial)) ∨ l.build.length = l.cont then
        putSlot (setLink s p { l with rest := r }) p (x, l.serial) (decide (l.build.length = l.cont))
      else putSlot s p (0, 0) false
    | [] =>
      let s1 := countShaperWait s p
      match pickClass s1 p with
      | some x => startMessage x.2 p x.1
      | none => putSlot s1 p (0, 0) false

/-! ## Replay (R292, R294-R296) -/

/-- Whether a message's residency has passed object 2210.02. -/
def tooOld (s : State) (c : Carried) : Bool := decide (c.since + 1000 * cfg s 0x221002 < s.now)

/-- Slots of a message that wait to be acknowledged or sent. -/
def slotsLeft (l : Link) (serial : Nat) : Nat :=
  ((l.replay.map (fun f => (f.slots.filter (fun x => decide (x.2 = serial))).length)).sum) +
  (l.build.filter (fun x => decide (x.2 = serial))).length + (if l.serial = serial then l.rest.length else 0)

/-- Empty a message's slots. -/
def blank (serial : Nat) (xs : List (Slot × Nat)) : List (Slot × Nat) :=
  xs.map (fun x => if x.2 = serial then (0, 0) else x)

/-- A message too old to be resent is discarded (R296). -/
def discardCarried (p : Nat) (s : State) (serial : Nat) : State :=
  let l := linkOf s p
  match l.carried.get? serial with
  | some c =>
    let left := slotsLeft l serial
    let holds : Sent → Bool := fun f => f.slots.any (fun x => decide (x.2 = serial))
    let marked := if left < c.slots then updFirst l.replay holds (fun f => { f with cut := true }) else l.replay
    let s1 := setLink s p { l with
      replay := marked.map (fun f => { f with slots := blank serial f.slots })
      build := blank serial l.build
      rest := if l.serial = serial then [] else l.rest
      carried := l.carried.del serial
      credits := l.credits.put c.cls (l.credits.getD c.cls 0 + left) }
    addErr s1 0x220103 0 1
  | none => s

/-- Messages with a slot in the replay buffer whose residency has passed. -/
def staleSerials (s : State) (p : Nat) : List Nat :=
  let l := linkOf s p
  ((l.carried.filter (fun x => tooOld s x.2 && l.replay.any (fun f => f.slots.any (fun y => decide (y.2 = x.1))))).map Prod.fst)

/-- Resend one flit, counted and scored (R294, R295). -/
def resendOne (p : Nat) (s : State) (f : Sent) : State :=
  let s1 := addPortScore (addErr s 0x215005 p 1) p 1 1
  wireSent s1 p f

/-- Resend every buffered flit, in order from the oldest; past the replay limit the port retrains instead (R294). -/
def resendAll (s : State) (p : Nat) : State :=
  let l := linkOf s p
  if l.replay.any (fun f => decide (getObj s 0x212104 p < f.attempt + 1)) then enterRetrain s p 0
  else
    let s1 := (staleSerials s p).foldl (discardCarried p) s
    let l1 := linkOf s1 p
    let s2 := setLink s1 p { l1 with
      resentFrom := l1.replay.head?.map (fun f => f.ext % 4096)
      replay := l1.replay.map (fun f => { f with attempt := f.attempt + 1, sentAt := s.now }) }
    (linkOf s2 p).replay.foldl (resendOne p) s2

/-- `REPLAY_TIMEOUT`: the oldest buffered flit has waited for object 2121.03 since it was last sent. -/
def replayTimeout (s : State) (p : Nat) : State :=
  match (linkOf s p).replay with
  | f :: _ => if linkState s p = lsUp then resendAll (reachTime s (f.sentAt + getObj s 0x212103 p)) p else s
  | [] => s

/-- `RETRAIN_COMPLETE`: back to `UP`, and replay from the peer's last acknowledgement (R285, R294). -/
def retrainComplete (s : State) (p : Nat) : State :=
  if linkState s p = lsRetrain then
    let s1 := enterLink s p lsUp
    resendAll (post s1 0x0101 none (pay [(1, p), (1, portRole s p), (2, upIdentity s p), (1, (linkOf s p).level)])) p
  else s

/-- An acknowledgement arrives: flits before it are freed, by modular difference within the window, and messages whose
every slot is acknowledged are forgotten (R294). -/
def ackFlits (s : State) (p ack : Nat) (nak : Bool) : State :=
  let l := linkOf s p
  let inWindow : Bool := match l.replay with
    | f :: _ => decide ((ack + 4096 - f.ext % 4096) % 4096 ≤ l.replay.length)
    | [] => false
  let n := match l.replay with | f :: _ => (ack + 4096 - f.ext % 4096) % 4096 | [] => 0
  let l1 := if inWindow then { l with replay := l.replay.drop n } else l
  let l2 := { l1 with carried := l1.carried.filter (fun c => decide (slotsLeft l1 c.1 ≠ 0)) }
  let s1 := setLink s p l2
  if nak && inWindow && decide (l2.resentFrom ≠ some ack) && !l2.replay.isEmpty then
    resendAll s1 p
  else if nak then s1
  else if l2.resentFrom.isSome ∧ l2.resentFrom ≠ some ack then setLink s1 p { l2 with resentFrom := none }
  else s1

/-! ## Receiving flits (R289, R291, R293, R296-R298) -/

/-- The number of a receive key, its counter base and whether it is the new phase's, for a flit's phase (R298). -/
def rxKeyFor (l : Link) (phase : Nat) : Option (Nat × Bool) :=
  if phase = l.rxPhase then some (l.rxKey, false)
  else match l.rxNext with | some k => some (k, true) | none => none

/-- The smallest idle counter at or above the next one expected that has a given `seq` (R297). -/
def idleCounter (l : Link) (seq : Nat) : Nat := l.idleRx + (seq + 4096 - l.idleRx % 4096) % 4096

/-- Decrypt and verify a flit: its slots in clear, and whether it used the new phase's key. None: authentication
failed. -/
def openFlit (s : State) (p : Nat) (z : Slot0) (f : Flit) : Option (List Slot × Bool) :=
  let l := linkOf s p
  if encrypting s p then
    match rxKeyFor l z.keyPhase with
    | none => none
    | some (k, new) =>
      let n := linkNonce k (if z.idle then idleCounter l z.seq else l.rxExt) z.idle z.attempt
      if (gcmTag (Config.linkKey k) n (slot0Aad z) f.slots).toNat = z.tag then
        some (gcmSlots (Config.linkKey k) n f.slots, new) else none
  else some (f.slots, false)

/-- The key phases as object 2130.04. -/
def putPhases (s : State) (p : Nat) : State := setObj s 0x213004 p ((linkOf s p).txPhase + 2 * (linkOf s p).rxPhase)

/-- The receiver has accepted a sequenced flit of the new phase: the old key is destroyed, 0x0120 (R298). -/
def switchRx (s : State) (p : Nat) : State :=
  let l := linkOf s p
  match l.rxNext with
  | some k =>
    let s1 := putPhases (setLink s p { l with rxKey := k, rxNext := none, rxPhase := 1 - l.rxPhase, rxUsed := 0 }) p
    post s1 0x0120 none (pay [(1, p), (1, 1), (1, 1 - l.rxPhase)])
  | none => s

/-- Lanes that carry a port's flits now (R300). -/
def lanesNow (s : State) (p : Nat) : List Nat := (portLanes s p).take (if (linkOf s p).narrow then 1 else 8)

/-- Corrected symbols of a flit: counted by lane, and scored per 1,048,576 of them (R281, R338). -/
def correctedSymbols (s : State) (p : Nat) (f : Flit) : State :=
  (f.correctedLanes (lanesNow s p).length).foldl (fun s i =>
    let lane := (lanesNow s p).getD i 0
    let f := physOf p
    let item := f * 8 + lane
    let s1 := addErr s 0x215102 (laneKey f lane) 1
    let n := s1.health.symbols.getD item 0 + 1
    if n < 1048576 then s1.onHealth (fun h => { h with symbols := h.symbols.put item n })
    else addScore (s1.onHealth (fun h => { h with symbols := h.symbols.del item })) 0 item 0 1) s

/-- Codewords of a flit that FEC could not correct: counted and scored (R289, R338). -/
def lostCodewords (s : State) (p : Nat) (f : Flit) : State :=
  if f.lostCodewords = 0 then s else addPortScore (addErr s 0x215003 p f.lostCodewords) p 0 f.lostCodewords

/-- A flit fails its check: it is discarded whole, and the sender is asked to resend (R289, R293). -/
def flitFailed (s : State) (p : Nat) : State := setLink s p { linkOf s p with nak := true }

/-- The messages that the slots of a flit complete, and the message left incomplete. -/
def splitSlots : Nat → List Slot → List Msg × List Slot
  | 0, _ => ([], [])
  | _, [] => ([], [])
  | n + 1, h :: r =>
    if bits h.toNat 0 8 = opEmpty then splitSlots n r
    else
      let ext := bits h.toNat 13 3
      if ext ≤ r.length then
        let x := splitSlots n (r.drop ext)
        (Msg.ofSlots h (r.take ext) :: x.1, x.2)
      else ([], h :: r)

/-- The class of a message by its header slot. -/
def slotClass (h : Slot) : Nat := bits h.toNat 8 3

/-- Assemble the messages of an accepted flit (R287, R296). -/
def assemble (s : State) (p : Nat) (z : Slot0) (slots : List Slot) : State × List Msg :=
  let l := linkOf s p
  let lead := slots.take z.cont
  let rest := slots.drop z.cont
  let later := splitSlots 8 rest
  match l.part with
  | h :: r =>
    if z.cut then
      let s1 := addErr (setLink s p { l with part := later.2 }) 0x215007 p 1
      (freeSlots s1 p (slotClass h) (r.length + 1), later.1)
    else
      let all := r ++ lead
      let ext := bits h.toNat 13 3
      if ext ≤ all.length then
        (setLink s p { l with part := later.2 }, Msg.ofSlots h (all.take ext) :: later.1)
      else (setLink s p { l with part := h :: all }, [])
  | [] => (setLink s p { l with part := later.2 }, later.1)

/-- Messages held for want of room, by arrival port. -/
def heldCount (s : State) (p : Nat) : Nat :=
  (s.tm.held.filter (fun x => decide (x.1 = p))).length +
  ((s.tm.changes.map (fun c => (c.2.held.filter (fun x => decide (x.1 = p))).length)).sum)

/-- A message of the link is handled; its slots are free unless it is held (R291). -/
def takeMessage (recv : State → Nat → Msg → State) (p : Nat) (s : State) (m : Msg) : State :=
  let s1 := recv s p m
  if heldCount s p < heldCount s1 p then s1 else freeSlots s1 p m.tc m.slotCount

/-- Credits returned by the peer (R291). -/
def addCredits (l : Link) (v : Nat) : Link :=
  { l with credits := (List.range 8).foldl (fun m c => m.put c (m.getD c 0 + bits v (6 * c) 6)) l.credits }

/-- A sequenced flit is accepted (R293). -/
def acceptSequenced (recv : State → Nat → Msg → State) (s : State) (p : Nat) (z : Slot0) (slots : List Slot) (new : Bool) : State :=
  let l := linkOf s p
  let s1 := setLink s p { addCredits l z.credits with rxExt := l.rxExt + 1, nak := false, rxUsed := l.rxUsed + 1 }
  let s2 := addStat (if new then switchRx s1 p else s1) 0x215002 p 1
  let x := assemble s2 p z slots
  let s3 := if x.2.isEmpty then x.1 else setLink x.1 p { linkOf x.1 p with lastMsg := s.now }
  ackFlits (x.2.foldl (takeMessage recv p) s3) p z.ackSeq z.nak

/-- `FLIT_RECEIVED` (R289, R293): `recv` handles each message. Only links that carry flits receive them: `UP` and
`SECURE`. -/
def flitReceived (recv : State → Nat → Msg → State) (s : State) (p : Nat) (f : Flit) : State :=
  if linkState s p ≠ lsUp ∧ linkState s p ≠ lsSecure then s
  else
    let s0 := correctedSymbols s p f
    let z := Slot0.ofSlot f.slot0
    if f.uncorrectable then flitFailed (lostCodewords s0 p f) p
    else if f.slots.length ≠ 7 ∨ flitCrc f.slot0 f.slots ≠ z.crc then flitFailed s0 p
    else if !z.idle ∧ z.seq ≠ (linkOf s0 p).rxExt % 4096 then flitFailed (addErr s0 0x215006 p 1) p
    else
      match openFlit s0 p z f with
      | none =>
        if z.idle then addErr s0 0x213005 p 1 else flitFailed (addErr (addErr s0 0x215006 p 1) 0x213005 p 1) p
      | some (slots, new) =>
        let s1 := setLink s0 p { linkOf s0 p with rxLoad := z.load, rxWide := z.wide }
        if z.idle then
          let l := linkOf s1 p
          ackFlits (setLink s1 p { l with idleRx := idleCounter l z.seq + 1, rxUsed := l.rxUsed + 1 }) p z.ackSeq z.nak
        else acceptSequenced recv s1 p z slots new

/-! ## Keys (R298, R405) -/

/-- New link keys: two numbers, one for each direction. -/
def drawLinkKeys (s : State) : (Nat × Nat) × State :=
  ((s.security.linkKeys, s.security.linkKeys + 1), s.onSecurity (fun x => { x with linkKeys := x.linkKeys + 2 }))

/-- The session's keys of both directions are installed: the link comes `UP` (R285). -/
def keysInstalled (s : State) (p : Nat) : State :=
  if linkState s p = lsSecure then
    let x := drawLinkKeys s
    let l := linkOf x.2 p
    linkUpNow (putPhases (setLink x.2 p { l with txKey := x.1.1, rxKey := x.1.2, txPhase := 0, rxPhase := 0, txUsed := 0,
                                                  rxUsed := 0 }) p) p
  else s

/-- The session's keys are updated: the sender switches at the next flit, the receiver accepts both phases (R298). -/
def keysUpdated (s : State) (p : Nat) : State :=
  if encrypting s p ∧ !portDown s p then
    let x := drawLinkKeys s
    let l := linkOf x.2 p
    putPhases (setLink x.2 p { l with txKey := x.1.1, rxNext := some x.1.2, txPhase := 1 - l.txPhase, txUsed := 0,
                                       rekeying := false }) p
  else s

/-- `REKEY_LIMIT`: a direction has used its key for 2^n flits: the steward updates the keys (R298). -/
def rekeyLimit (s : State) (p : Nat) : State :=
  let l := linkOf s p
  if encrypting s p ∧ linkState s p = lsUp ∧ !l.rekeying then
    let n := 2 ^ getObj s 0x213003 p
    let s1 := setLink s p { l with rekeying := true, txUsed := max l.txUsed n }
    sendSpdm s1 p (Config.spdmKeyUpdate (s.security.sessions.getD p 0))
  else s

/-- `REKEY_DEADLINE`: no new key by 2^n + 2^(n - 4) flits: R301 with cause `REKEY`. -/
def rekeyDeadline (s : State) (p : Nat) : State :=
  if (linkOf s p).rekeying ∧ !portDown s p then downToDark s p lcRekey else s

end Sys2Proof.Machine
end

