-- ==== Sys2Proof/Machine/Traffic.lean ====
section
/-! DEFINITION. Admission, policers, bandwidth limits, gate lists and the governor (R10, R32, R255-R277). -/

namespace Sys2Proof.Machine

/-! ## Form of a message (R10, R32) -/

/-- The functions that a service opcode defines. -/
def functionKnown (m : Msg) : Bool :=
  if m.opcode = opSearch ∨ m.opcode = opMgmt then decide (1 ≤ m.func) && decide (m.func ≤ 4)
  else if m.opcode = opHandoff then decide (1 ≤ m.func) && decide (m.func ≤ 8)
  else if m.opcode = opDoorbell then decide (1 ≤ m.func) && decide (m.func ≤ 2)
  else true

/-- Whether an enumerated field of the header holds a reserved encoding (R10). -/
def reservedField (m : Msg) : Bool :=
  !opcodeKnown m.opcode || (m.opcode == opAtomic && decide (10 ≤ m.aop)) || !functionKnown m ||
  (m.opcode == opSnpResp && decide (6 ≤ m.snpResult))

/-- `length` of a `MGMT` message (13, byte 24). -/
def mgLength (m : Msg) : Nat := m.fld 64 8

/-- Whether `ext` has the value that R32 and the owning chapters fix. A `LOOKUP` may carry 1 or 2 here; its partition
decides at the home (R206). A `MGMT` message whose `length` is out of range is left to R358. -/
def extOk (m : Msg) : Bool :=
  if m.isRead || m.opcode == opEvictClean || m.opcode == opFence || m.opcode == opMilestone then decide (m.ext = 0)
  else if m.opcode == opWrNc || m.opcode == opWrStash || m.opcode == opWbDirty then decide (m.ext = 4)
  else if m.opcode == opAtomic then decide (m.ext = b2n (decide (m.aop = 9)))
  else if m.opcode == opSearch then
    (if m.func = 1 then decide (m.ext = 1 ∨ m.ext = 2) else if m.func = 3 then decide (m.ext = 3) else decide (m.ext = 0))
  else if m.opcode == opHandoff then decide (m.ext = b2n (decide (m.func ≤ 2)))
  else if m.opcode == opDoorbell then decide (m.ext = 0)
  else if m.opcode == opMgmt then
    (if m.func = 3 then decide (m.ext = 0)
     else if mgLength m = 0 ∨ 128 < mgLength m then true
     else if m.func = 1 then decide (m.ext = 0) else decide (m.ext = ceilDiv (mgLength m) 32))
  else if m.opcode == opSnpResp then decide (m.ext = 4 * b2n (decide (m.snpResult = 2)))
  else true

/-- The refusal of R10 or R32, if any. -/
@[irreducible] def badForm (m : Msg) : Option (Nat × Nat) :=
  if reservedField m then some (stDenied, 0) else if !extOk m then some (stDenied, dBadLength) else none

/-! ## Policers (R261, R262) -/

/-- Key of a host and class. -/
def hostClass (h c : Nat) : Nat := h + c * 2 ^ 16

/-- A message is checked by its policer: whether it passes, and the state (R256 step 7). -/
def policeTake (s : State) (h c : Nat) : Bool × State :=
  if polEnable (policerOf s h c) then
    let l := policerLevel s h c
    if 8192 ≤ l then
      (true, s.onTm (fun t => { t with policers := t.policers.put (hostClass h c) { level := l - 8192, stamp := s.now } }))
    else (false, s)
  else (true, s)

/-- A policer drops a message: counted, 0x0301 once per host, class and period (R262; log entry 39). -/
def policeDrop (s : State) (h c : Nat) : State :=
  let s1 := addErr s 0x231004 (hostClass h c) 1
  let s2 := s1.onTm (fun t => { t with dropped := if t.dropped.contains (dropKey h c) then t.dropped else dropKey h c :: t.dropped })
  postOnce s2 0x0301 (hostClass h c) none (pay [(2, h), (1, c), (4, 1)])

/-- A policer write: the bucket then starts full (R261). -/
def policerWrite (s : State) (w : Requester) (v : Nat) : Acc :=
  let h := selVal s w 0x231001
  let c := selVal s w 0x231002
  if bits v 1 7 ≠ 0 ∨ bits v 50 14 ≠ 0 ∨ (polEnable v ∧ polRate v = 0) ∨ polBurst v = 0 then (aeRange, s)
  else (aeOk, (setObj s 0x231003 (hostClass h c) v).onTm (fun t => { t with
    policers := t.policers.put (hostClass h c) { level := (polBurst v * 8192 : Nat), stamp := s.now } }))

/-! ## Bandwidth limits (R263-R265) -/

/-- What a message costs its host in slots: its own and its expected answer's (R263). -/
def chargeSlots (m : Msg) : Nat :=
  if m.isRead then 6
  else if m.opcode = opWrNc ∨ m.opcode = opWrStash ∨ m.opcode = opWbDirty then 6
  else if m.opcode = opAtomic then (if m.aop = 9 then 4 else 2)
  else m.ext + 2

/-- Whether a host's bucket lets a message pass (R256 step 8). -/
def bucketOk (s : State) (h : Nat) : Bool := decide (limitOf s h = 0) || decide (0 ≤ bucketLevel s h)

/-- Charge a host's bucket. -/
def bucketCharge (s : State) (h : Nat) (m : Msg) : State :=
  if limitOf s h = 0 then s
  else s.onTm (fun t => { t with
    buckets := t.buckets.put h { level := bucketLevel s h - (32000 * chargeSlots m : Nat), stamp := s.now } })

/-- Whether a host with a limit would share a port, under given limits and bindings (R264). -/
def limitShares (limit : Nat → Nat) (bindings : List Nat) : Bool :=
  bindings.any (fun v => decide (1 < (boundHosts v).dedup.length) && (boundHosts v).any (fun h => decide (limit h ≠ 0)))

/-- A write of a host's limit (R264, R265); its bucket then starts full (log entry 41). -/
def limitWrite (s : State) (w : Requester) (v : Nat) : Acc :=
  let h := selVal s w 0x232001
  if v ≠ 0 ∧ v * cfg s 0x221002 < 8192 then (aeRange, s)
  else if limitShares (fun x => if x = h then v else limitOf s x) ((listed s 0x230202).map Prod.snd) then
    withStatus s w 0x230006 1
  else
    let s1 := setObj s 0x232002 h v
    let s2 := s1.onTm (fun t => { t with buckets := t.buckets.put h { level := (bucketSize s1 h : Nat), stamp := s.now } })
    withStatus ((portsOfHost s2 h).foldl regrant s2) w 0x230006 0

/-- A write of a host's bucket size: what the bucket holds stays, at most its new size. -/
def limitBurstWrite (s : State) (w : Requester) (v : Nat) : Acc :=
  let h := selVal s w 0x232001
  let l := bucketLevel s h
  let s1 := setObj s 0x232003 h v
  (aeOk, s1.onTm (fun t => { t with buckets := t.buckets.put h { level := min (bucketSize s1 h : Nat) l, stamp := s.now } }))

/-- A write of object 2210.02: the grants of limited hosts' ports follow it (R264). -/
def residencyWrite (s : State) (v : Nat) : Acc :=
  let s1 := setObj s 0x221002 0 v
  (aeOk, s1.links.keys.foldl regrant s1)

/-- A write of a port's bindings (R264): host-loss timers follow the binding (R79). -/
def bindingWrite (s : State) (w : Requester) (v : Nat) : Acc :=
  let p := selVal s w 0x230201
  if bits v 44 20 ≠ 0 then (aeRange, s)
  else if limitShares (limitOf s) (v :: ((listed s 0x230202).filter (fun x => decide (x.1 ≠ p))).map Prod.snd) then
    withStatus s w 0x230006 1
  else withStatus (regrant (refreshDown (setObj s 0x230202 p v)) p) w 0x230006 0

/-! ## The verdict (R256-R260) -/

/-- Discard a message under R256 step 2, R280 or R285. -/
def roleDiscard (s : State) : State := addErr s 0x230003 0 1

/-- An answer at admission. -/
def refuseAt (s : State) (p : Nat) (m : Msg) (st d : Nat) : State := portAnswer (addStat s 0x230002 0 1) p m st d

/-- The opcodes that step 2 discards. -/
def discardedAt (m : Msg) : Bool :=
  m.opcode == opMilestone || (decide (0x30 ≤ m.opcode) && decide (m.opcode ≤ 0x32)) || m.opcode == opResp ||
  m.opcode == opRespData || m.isTwin

/-- Steps 1 to 4: none passes; a pair is the answer; step 2 is `roleDiscard` instead. -/
def stepsOneToFour (s : State) (p : Nat) (m : Msg) : Option (Option (Nat × Nat)) :=
  match badForm m with
  | some x => some (some x)
  | none =>
    if discardedAt m then some none
    else if peerIsAgent m.peer ∨ !boundTo s p (peerHost m.peer) then some (some (stDenied, dHostNotBound))
    else if isLost s (peerHost m.peer) then some (some (stDenied, dHostLost))
    else none

/-- Steps 5 and 6. -/
def stepsFiveSix (s : State) (m : Msg) : Option (Nat × Nat) :=
  if m.opcode ≠ opMgmt ∧ (compOf s m.composition).state = 0 then some (stDenied, dNoComposition)
  else if !bit (getObj s 0x2A1306 m.composition) m.tc then some (stDenied, dClassNotGranted)
  else none

/-- Whether a message is a host answer that bypasses steps 5 to 9. -/
def hostAnswer (m : Msg) : Bool := m.opcode == opSnpResp || m.opcode == opWbDirty || m.opcode == opEvictClean

/-- The pair that a request goes to; 64 for none. -/
def destPair (s : State) (m : Msg) : Nat :=
  if m.isAddressed then (homePair s m.line).getD 64 else if m.isService then m.targetPair else 64

/-- Whether a message is a request that stays outstanding until answered (R38). -/
def isRequest (m : Msg) : Bool := m.isAddressed || m.isService

/-- Note what a host has sent: a request is outstanding, and its time starts now (R38); a fence covers what came before it
(R39). -/
def openReq (s : State) (p : Nat) (m : Msg) : State :=
  if m.opcode = opFence then fenceReceived s p m
  else if isRequest m then
    s.onTm (fun t => { t with
      hostReqs := t.hostReqs ++ [({ host := peerHost m.peer, tag := m.tag, port := p, tc := m.tc, comp := m.composition, line := m.line, dest := destPair s m, path := 256, deadline := s.now + 1000 * cfg s 0x221001, cas := m.isCas, seq := t.reqSeq } : HostReq)]
      reqSeq := t.reqSeq + 1 })
  else s

/-- Whether a message is for a line that this ZX964 serves, whose home can admit no more (R68). -/
def homeHeld (s : State) (m : Msg) : Bool :=
  m.isAddressed && !hostAnswer m && homedHere s m.line && servesHere s && homeFull s m.line

/-- Whether step 9 holds a message: the path to its destination changes (R43 step 1), or the home is full (R68). -/
def pathHeld (s : State) (m : Msg) : Bool :=
  (isRequest m && s.tm.changes.has (destPair s m) && (decide (destPair s m ≠ ownPair s) || !servesHere s)) || homeHeld s m

/-- A host's limit holds its message: 0x0302, once per period (R263). -/
def limitNotice (s : State) (p h : Nat) : State :=
  if bucketOk s h then s else postOnce s 0x0302 h none (pay [(2, h), (1, p)])

/-- Hold a message in its class's ingress buffer (R68, R260). -/
def holdMsg (s : State) (p : Nat) (m : Msg) : State := s.onTm (fun t => { t with held := t.held ++ [(p, m, s.now)] })

/-- Hold a host's message at admission (R260): 0x0302 where its limit holds it. -/
def holdAt (s : State) (p : Nat) (m : Msg) : State := limitNotice (holdMsg (openReq s p m) p m) p (peerHost m.peer)

/-- Admit a message: counted, charged, and on its way; `go` routes it. -/
def admitMsg (go : State → Nat → Msg → State) (s : State) (p : Nat) (m : Msg) : State :=
  let s1 := addStat s 0x230001 0 1
  let s2 := s1.onTm (fun t => { t with hostVia := t.hostVia.put (peerHost m.peer) p })
  go s2 p m

/-- Whether a message of a port and class is held. -/
def classHeld (s : State) (p c : Nat) : Bool := s.tm.held.any (fun x => decide (x.1 = p) && decide (x.2.1.tc = c))

/-- The verdict on a message from a host port (R256). -/
def hostMessage (go : State → Nat → Msg → State) (s : State) (p : Nat) (m : Msg) : State :=
  let h := peerHost m.peer
  if m.opcode = opEmpty then s
  else if isVecAnswer s m then vecDone s h m.tag (decide (m.status = stOk))
  else
    match stepsOneToFour s p m with
    | some none => roleDiscard s
    | some (some x) => if m.opcode = opSnpResp then roleDiscard s else refuseAt s p m x.1 x.2
    | none =>
      if hostAnswer m then admitMsg go (openReq s p m) p m
      else
        match stepsFiveSix s m with
        | some x => refuseAt s p m x.1 x.2
        | none =>
          let x := policeTake s h m.tc
          if !x.1 then refuseAt (policeDrop x.2 h m.tc) p m stRetry dPoliced
          else if classHeld x.2 p m.tc || !bucketOk x.2 h || pathHeld x.2 m then holdAt x.2 p m
          else admitMsg go (bucketCharge (openReq x.2 p m) h m) p m

/-- A message held on a trunk or twin port can be taken by the home again. -/
def fabricRelease (go : State → Nat → Msg → State) (s : State) (p : Nat) (m : Msg) : State :=
  freeSlots (go s p m) p m.tc m.slotCount

/-- Release what can be admitted of a port and class, from its oldest held message on; a released request's time starts
again (R38; log entry 37). -/
def releaseClass (go : State → Nat → Msg → State) (p c : Nat) : Nat → State → State
  | 0, s => s
  | n + 1, s =>
    match s.tm.held.find? (fun x => decide (x.1 = p) && decide (x.2.1.tc = c)) with
    | some x =>
      let m := x.2.1
      let h := peerHost m.peer
      if portRole s p ≠ roleHost then
        (if homeHeld s m then s
         else releaseClass go p c n
           (fabricRelease go (s.onTm (fun t => { t with held := eraseFirst t.held (fun y => decide (y = x)) })) p m))
      else if bucketOk s h && !pathHeld s m then
        let s1 := s.onTm (fun t => { t with
          held := eraseFirst t.held (fun y => decide (y = x))
          hostReqs := updFirst t.hostReqs (fun r => decide (r.host = h) && decide (r.tag = m.tag))
            (fun r => { r with deadline := s.now + 1000 * cfg s 0x221001 }) })
        let s2 := if limitOf s h = 0 then s1 else addStat s1 0x232004 h (s.now - x.2.2)
        releaseClass go p c n (freeSlots (admitMsg go (bucketCharge s2 h m) p m) p m.tc m.slotCount)
      else limitNotice s p h
    | none => s

/-- Release every class whose oldest held message can be admitted now. -/
def releaseAll (go : State → Nat → Msg → State) (s : State) : State :=
  ((s.tm.held.map (fun x => (x.1, x.2.1.tc))).dedup).foldl (fun s k => releaseClass go k.1 k.2 s.tm.held.length s) s

/-- `ADMISSION_HOLD_RELEASE`: the bucket of the host whose message is the oldest held one of a port and class is back at
zero (R263). -/
def admissionHoldRelease (go : State → Nat → Msg → State) (s : State) (p c : Nat) : State :=
  match s.tm.held.find? (fun x => decide (x.1 = p) && decide (x.2.1.tc = c)) with
  | some x =>
    let h := peerHost x.2.1.peer
    let l := bucketLevel s h
    let s1 := if l < 0 ∧ limitOf s h ≠ 0 then { s with now := s.now + ceilDiv (-l).toNat (limitOf s h) } else s
    releaseClass go p c s1.tm.held.length s1
  | none => s

/-! ## Shapers and gate lists (R269-R272) -/

/-- A shaper write: its level then starts at its limit (log entry 41). -/
def shaperWrite (s : State) (w : Requester) (v : Nat) : Acc :=
  let p := selVal s w 0x234001
  let c := selVal s w 0x234002
  if bits v 2 6 ≠ 0 ∨ bits v 56 8 ≠ 0 ∨ shWeight v = 0 ∨ (shEnable v ∧ shRate v = 0) ∨ 25000 * portWidth s p < shRate v ∨
      shBurst v = 0 then (aeRange, s)
  else (aeOk, (setObj s 0x234003 (p + c * 2 ^ 8) v).onTm (fun t => { t with
    shapers := t.shapers.put (p + c * 2 ^ 8) { level := (shBurst v * 32000 : Nat), stamp := s.now } }))

/-- Object 2350.07: the state in [5:0], the running bank in [7:6]. -/
def putGateState (s : State) (p v : Nat) : State := setObj s 0x235007 p (v + 64 * (gateOf s p).running.getD 0)

/-- Store a port's gate. -/
def putGate (s : State) (p : Nat) (g : Gate) : State := s.onTm (fun t => { t with gates := t.gates.put p g })

/-- The standby bank: the one that does not run, or with none running the one selected (log entry 42). -/
def standbyBank (s : State) (w : Requester) (p : Nat) : Nat :=
  match (gateOf s p).running with | some b => 1 - b | none => selVal s w 0x235002

/-- A write of a gate entry or of a bank's length: `BUSY` in the running bank (R272). -/
def gateBankWrite (s : State) (w : Requester) (o v : Nat) : Acc :=
  let p := selVal s w 0x235001
  let b := selVal s w 0x235002
  if o = 0x235004 ∧ geInterval v = 0 then (aeRange, s)
  else if (gateOf s p).running = some b then (aeOk, putGateState s p 4)
  else if o = 0x235004 then (aeOk, setObj s o (gateKey p b + selVal s w 0x235003 * 2 ^ 16) v)
  else (aeOk, setObj s o (gateKey p b) v)

/-- `GATE_SWITCH_TIME_WRITE` (R272). -/
def gateSwitchWrite (s : State) (w : Requester) (t : Nat) : Acc :=
  let p := selVal s w 0x235001
  let g := gateOf s p
  let b := standbyBank s w p
  if t < s.now + 1000 ∨ g.pendingAt.isSome ∨
      ((List.range (gateLength s p b)).any (fun i => decide (geInterval (gateEntryOf s p b i) = 0))) then
    (aeOk, putGateState s p 3)
  else (aeOk, putGateState (putGate (setObj s 0x235006 p t) p { g with pendingAt := some t, nextBank := b }) p 2)

/-- `GATE_BANK_SWITCH`: the standby bank runs from its entry 0; 0x0310 (R272). -/
def gateBankSwitch (s : State) (p : Nat) : State :=
  let g := gateOf s p
  match g.pendingAt with
  | some t =>
    let s1 := reachTime s t
    let s2 := putGate s1 p { running := some g.nextBank, entry := 0, since := t, pendingAt := none, nextBank := g.nextBank }
    post (putGateState s2 p 1) 0x0310 none (pay [(1, p), (1, g.nextBank), (8, t)])
  | none => s

/-- `GATE_ENTRY_CHANGE`: the running bank steps to its next entry (R270). -/
def gateEntryChange (s : State) (p : Nat) : State :=
  let g := gateOf s p
  match g.running with
  | some b =>
    let t := g.since + geInterval (gateEntryOf s p b g.entry)
    putGate (reachTime s t) p { g with entry := (g.entry + 1) % gateLength s p b, since := t }
  | none => s

/-! ## The governor (R274-R276) -/

/-- The object of a resource's budgets and the key of an activity's. -/
def budgetKey (resource quadrant activity : Nat) : Nat :=
  if resource = 0 then objKey 0x236003 (quadrant + activity * 2 ^ 8)
  else if resource = 1 then objKey 0x236004 (quadrant + activity * 2 ^ 8) else objKey 0x236005 activity

/-- A budget as it stands at the start of the next period. -/
def nextBudget (s : State) (resource quadrant activity : Nat) : Nat :=
  match s.dict.nextPeriod.find? (fun x => decide (x.1 = budgetKey resource quadrant activity)) with
  | some x => x.2
  | none => budgetOf s resource quadrant activity

/-- `BUDGET_WRITE` (R276): object 2360.03, 2360.04 or 2360.05. -/
def budgetWrite (s : State) (w : Requester) (sub v : Nat) : Acc :=
  let r := sub - 3
  let q := selVal s w 0x236001
  let a := selVal s w 0x236002
  let sum := (((List.range 8).filter (fun x => decide (1 ≤ x) && decide (x ≠ a))).map (nextBudget s r q)).sum + v
  if capacityOf r * (64 - cfg s 0x236006) / 64 < sum then withStatus s w 0x236009 1
  else
    let k := budgetKey r q a
    withStatus (s.onDict (fun d => { d with nextPeriod := d.nextPeriod.filter (fun x => decide (x.1 ≠ k)) ++ [(k, v)] }))
      w 0x236009 0

/-- The stack slots that each activity used in the period that ends (object 2360.07). -/
def notePeriod (s : State) : State :=
  (List.range 4).foldl (fun s q => (List.range 8).foldl (fun s a =>
    if a = 0 then s else setObj s 0x236007 (q + a * 2 ^ 8) (min (usedOf s 0 q a) (2 ^ 32 - 1))) s) s

/-- The running steward removes records from its queue, oldest first, at a rate that its firmware sets (R367): how many in a
period is a free value. -/
def drainSteward (s : State) : State :=
  if s.power.steward = 2 then
    let (n, s1) := drawFree s
    s1.onDict (fun d => { d with stewardQ := d.stewardQ.drop (Config.stewardTakes n) })
  else s

/-- `GOVERNOR_PERIOD`: local time enters the next period: budgets are fresh, accepted budget writes commit, and what
waited for a budget goes on (R274, R276). -/
def governorPeriod (s : State) : State :=
  let s1 := notePeriod (drainSteward s)
  let s2 := reachTime s1 ((periodOf s.now + 1) * 8192)
  let s3 := s2.dict.nextPeriod.foldl (fun s x => setObj s (x.1 / 2 ^ 64) (x.1 % 2 ^ 64) x.2) s2
  let s4 := s3.onDict (fun d => { d with nextPeriod := [], posted := [] })
  let s5 := s4.onTm (fun t => { t with
    used := [], droppedPrev := t.dropped, dropped := []
    stackHeld := [], stackWait := [], stackWaitPrev := (periodOf s.now, t.stackWait) })
  resumeSearches (resumeMovers (sendUnsent s5))

end Sys2Proof.Machine
end

