-- ==== Sys2Proof/Machine/Twins.lean ====
section
/-! DEFINITION. Twin pairs: messages, mirroring, catch-up, turns, verdicts, takeover and spares (R304-R337). -/

namespace Sys2Proof.Machine

/-! ## Identities and messages -/

/-- An identity byte: pair and side. -/
def identOf (pair side : Nat) : Nat := pair % 64 + 64 * (side % 2)
/-- This ZX964's identity. -/
def ownIdent (s : State) : Nat := identOf (ownPair s) s.twin.side
/-- The identity of the other side of the own pair. -/
def twinIdent (s : State) : Nat := identOf (ownPair s) (1 - s.twin.side)
/-- The `peer` value of an identity's twin logic. -/
def twinPeer (id : Nat) : Nat := agentPeer (id % 64) (id / 64) agentTwin
/-- A twin-range message to an identity, in the class of object 2B00.06 (log entry 43). -/
def twMsg (s : State) (op id body : Nat) : Msg := { opcode := op, tc := cfg s 0x2B0006, peer := twinPeer id, body := body }

/-- The `UP` trunk and twin ports. -/
def fabricPorts (s : State) : List Nat := upPorts s roleTrunk ++ upPorts s roleTwin
/-- The peer that a port's parameter block named. -/
def peerOn (s : State) (p : Nat) : Option Nat := s.twin.portPeer.get? p
/-- The first `UP` trunk or twin port to an identity. -/
def portTo (s : State) (id : Nat) : Option Nat := (fabricPorts s).find? (fun p => decide (peerOn s p = some id))
/-- Every port, of any state, to an identity. -/
def portsTo (s : State) (id : Nat) : List Nat := (s.twin.portPeer.filter (fun x => decide (x.2 = id))).map Prod.fst
/-- The neighbours (R320): every ZX964 linked by an enabled trunk or twin port, and not in the quarantine list. -/
def neighbours (s : State) : List Nat :=
  ((s.twin.portPeer.filter (fun x => decide (2 ≤ portRole s x.1) && decide (getObj s 0x212005 x.1 = 1) &&
    !s.twin.quarantine.has x.2)).map Prod.snd).dedup

/-- Send a twin-range message to a neighbour, or towards its pair. -/
def sendTwin (s : State) (op id body : Nat) : State :=
  match portTo s id with
  | some p => emit s p (twMsg s op id body)
  | none => sendToPair s (id % 64) (twMsg s op id body) false 256

/-- Send a twin-range message to the twin on a twin link that is `UP` (R314). -/
def sendOnTwinLink (s : State) (op body : Nat) : State :=
  match upPorts s roleTwin with
  | p :: _ => emit s p (twMsg s op (twinIdent s) body)
  | [] => s

/-- Send a twin-range message on every `UP` trunk and twin link, but for some ports. -/
def floodTwin (s : State) (op body : Nat) (skip : List Nat) : State :=
  ((fabricPorts s).filter (fun p => !skip.contains p)).foldl
    (fun s p => emit s p (twMsg s op ((peerOn s p).getD 0) body)) s

/-- Put a one-slot message on a link that is about to close, in a flit of its own (R323): a message half sent is cut. -/
def sendLast (s : State) (p : Nat) (m : Msg) : State :=
  let l := linkOf s p
  if linkState s p = lsUp then
    let f : Sent := { ext := l.txExt, slots := (m.header, 0) :: List.replicate 6 (0, 0), cont := 0,
                      cut := !l.rest.isEmpty || decide (l.cont ≠ 0), credits := 0, sentAt := s.now }
    wireSent (setLink s p { l with txExt := l.txExt + 1 }) p f
  else s

/-! ## Failure-domain tags (R317, R318) -/

/-- Whether two tag sets collide (R317). -/
def tagsCollide (a b : Nat) : Bool :=
  (List.range 4).any (fun i => decide (bits a (8 * i) 8 = bits b (8 * i) 8) || decide (bits a (8 * i) 8 = 0) ||
    decide (bits b (8 * i) 8 = 0))

/-- Whether a peer's tags let a pair form (R317). -/
def tagsPass (s : State) (tags : Nat) : Bool := !tagsCollide (cfg s 0x2B0001) tags || decide (cfg s 0x2B0004 = 1)

/-- Event 0x0B07. -/
def tagEvent (s : State) (id tags : Nat) : State := post s 0x0B07 none (pay [(1, id), (4, tags), (1, cfg s 0x2B0004)])

/-- The standing warning as the pair's tags stand (R317): set by a forced pairing, cleared when nothing collides. -/
def tagWarning (s : State) : State :=
  match s.twin.twinTags with
  | some t =>
    if tagsCollide (cfg s 0x2B0001) t then
      (if cfg s 0x2B0004 = 1 ∧ !s.twin.forced then
         (tagEvent s (twinIdent s) t).onTwin (fun x => { x with forced := true, warnAt := some (s.now + 3600000000000) })
       else s)
    else s.onTwin (fun x => { x with forced := false, warnAt := none })
  | none => s.onTwin (fun x => { x with forced := false, warnAt := none })

/-- `TAG_WARNING_REPEAT` (R317). -/
def tagWarningRepeat (s : State) : State :=
  match s.twin.warnAt, s.twin.twinTags with
  | some t, some tags =>
    let s1 := reachTime s t
    (tagEvent s1 (twinIdent s) tags).onTwin (fun x => { x with warnAt := some (t + 3600000000000) })
  | _, _ => s

/-! ## What waits for the twin (R310, R313) -/

/-- What waited goes on. `ap` applies a dictionary access. -/
def releaseItem (ap : State → Deferred → State) (s : State) (x : HeldItem) : State :=
  match x with
  | .resp m via => deliverResp s m via
  | .txn line => match s.home.txns.get? line with | some t => complete s line t | none => s
  | .obj d => ap s d
  | .answer d e => accessAnswer s d e
  | .vector c v => trigger s c v
  | .reduced slot line => resultMirrored s slot line

/-- Release the held items that satisfy p, oldest first. -/
def releaseHeldIf (ap : State → Deferred → State) (p : Option Nat → Bool) (s : State) : State :=
  let go := s.twin.held.filter (fun x => p x.1)
  go.foldl (fun s x => releaseItem ap s x.2) (s.onTwin (fun t => { t with held := t.held.filter (fun x => !p x.1) }))

/-- Release every held item. -/
def releaseHeldAll (ap : State → Deferred → State) (s : State) : State := releaseHeldIf ap (fun _ => true) s

/-! ## Mirror records received (R307, R309, R311) -/

/-- Forget a `POOL` line's copy: it is read from its tray at its first access (R307). -/
def unholdLine (s : State) (line : Nat) : State :=
  updTile s (tileOf line) (fun t => { t with
    dirty := setBits t.dirty (line % 512) 1 0
    missing := setBits t.missing (line % 512) 1 1
    state := .filling })

/-- A line as mirrored: bytes, poison and dirty marks. -/
def applyLine (s : State) (line : Nat) (d : LineBits) (poison dirty : Bool) : State :=
  let s1 := storeLine s line d
  let s2 := if poison then setPoison s1 line 0 else clearPoison s1 line
  match extentAt s line with
  | some (_, e) =>
    if e.isFast then s2
    else
      let t := (tileAt s2 (tileOf line)).getD
        { state := .filling, comp := e.comp, quadrant := quadrantOf s e.comp (tileOf line), missing := 2 ^ 512 - 1 }
      let missing := setBits t.missing (line % 512) 1 0
      putTile s2 (tileOf line) { t with
        missing := missing
        dirty := setBits t.dirty (line % 512) 1 (b2n dirty)
        state := if missing = 0 then .resident else t.state }
  | none => s2

/-- The marks of a tile as mirrored. -/
def applyTile (s : State) (tile : Nat) (resident zero expanded : Bool) : State :=
  let s1 := s.onTier (fun t => { t with
    zero := (if zero then (if t.zero.contains tile then t.zero else t.zero ++ [tile])
      else t.zero.filter (fun x => decide (x ≠ tile))) })
  if resident then
    let c := lineComp s (tile * 512)
    let t := (tileAt s1 tile).getD { state := .filling, comp := c, quadrant := quadrantOf s c tile, missing := 2 ^ 512 - 1 }
    if zero then putTile s1 tile { t with state := .resident, missing := 0, zeroLeft := 2 ^ 512 - 1, expanded := expanded }
    else putTile s1 tile { t with expanded := expanded }
  else if zero then clearTile (dropSlot s1 tile) tile else dropSlot s1 tile

/-- An object of the mirrored set as mirrored. -/
def applyObject (s : State) (o i v : Nat) : State :=
  if o = 0x211002 then
    setExt s i { Extent.ofNat v with
      slotMask := if (extOf s i).state = 0 then getObj s 0x251005 (Extent.ofNat v).comp else (extOf s i).slotMask }
  else if o = 0x2A1002 then
    let k := Comp.ofNat v
    setComp s i { k with state := (compOf s i).state, members := (compOf s i).members, pools := (compOf s i).pools }
  else if o = 0x2A1005 then setComp s i { compOf s i with state := v }
  else if o = 0x2A1102 then
    let c := i % 2 ^ 8
    let h := i / 2 ^ 8
    let k := compOf s c
    setComp s c { k with
      members := if bit v 0 then k.members.put h 1 else k.members.del h
      pools := k.pools.setD h 0 (bits v 1 4) }
  else if o = 0x291002 then putPart s i { partOf s i with desc := v }
  else if o = 0x291005 then
    putPart s i (if v = 0 then {} else if v = 1 then { partOf s i with state := v, entries := [] } else { partOf s i with state := v, destroying := false })
  else if o = 0x291003 then putPart s i { partOf s i with destroying := decide (v = 2) }
  else if o = 0x2E3003 then putKeys s i (if v = 0 then none else some v)
  else setObj s o i v

/-- All slots of a record as one number. -/
def recNat (r : MRec) : Nat := r.data.foldr (fun x acc => x.toNat + 2 ^ 256 * acc) 0

/-- Apply one mirror record. -/
def applyRec (s : State) (r : MRec) : State :=
  let line := r.key % 2 ^ 40
  match r.kind with
  | 1 => applyLine s line (BitVec.ofNat 1024 (recNat r)) (bit r.inline 0) (bit r.inline 1)
  | 2 => unholdLine s line
  | 3 => s.onHome (fun h => { h with filter := match FEntry.ofNat r.inline with
      | some e => h.filter.put line e | none => h.filter.del line })
  | 4 =>
    let k := ledgerKey (r.key % 2 ^ 32) (r.key / 2 ^ 32)
    s.onHome (fun h => { h with ledger := match LEntry.ofNat (recNat r) s.now with
      | some e => h.ledger.put k e | none => h.ledger.del k })
  | 5 => setRec s (r.key % 2 ^ 20) (Rec.ofNat (recNat r))
  | 6 =>
    let p := r.key % 16
    putPart s p { partOf s p with entries := (partOf s p).entries.setD (bits r.key 32 19) 0 (recNat r) }
  | 7 => applyObject s (bits r.key 0 16 * 256 + bits r.key 16 8) (bits r.key 24 32) (recNat r)
  | 8 => applyTile s (r.key % 2 ^ 31) (bit r.inline 0) (bit r.inline 1) (bit r.inline 2)
  | 9 => s.onHome (fun h => { h with floors := h.floors.put (r.key % 2 ^ 32) (r.key / 2 ^ 32) })
  | _ => s

/-- Read mirror records from slots. -/
def readRecs : Nat → List Slot → List MRec
  | 0, _ => []
  | _, [] => []
  | n + 1, h :: r =>
    let v := h.toNat
    let k := bits v 4 3
    { kind := bits v 0 4, copy := bit v 7, comp := bits v 8 7, key := bits v 64 64, inline := bits v 128 128,
      data := r.take k } :: readRecs n (r.drop k)

/-- Whether the lines that a batch copies fit the catch-up activity's stack budget of this period (R274, R335). -/
def copyFits (s : State) (recs : List MRec) : Bool :=
  recs.all (fun r => !(r.copy && decide (r.kind = 1)) || hasBudget s 0 (stackOf s (r.key % 2 ^ 40) / 4) 3 1)

/-- Charge the lines that a batch copies: one stack slot each (R335). -/
def chargeCopy (s : State) (recs : List MRec) : State :=
  (recs.filter (fun r => r.copy && decide (r.kind = 1))).foldl (fun s r => charge s 0 (stackOf s (r.key % 2 ^ 40) / 4) 3 1) s

/-- Whether the tier is at work: in `FULL` and `TRIM` alone. In `QUIET` and through a warm start batches wait (R382, R391). -/
def tierAwake (s : State) : Bool := s.power.state == 1 || s.power.state == 2

/-- The batch that is to be applied next, where it has arrived and its copied lines have budget. -/
def nextBatch (s : State) : Option Batch :=
  (s.twin.inbox.find? (fun b => decide (b.seq = s.twin.applied))).filter (fun b => tierAwake s && copyFits s b.recs)

/-- Apply whole batches in sequence order as far as they have arrived (R309), copied lines within the budget (R335). -/
def applyInbox : Nat → State → State
  | 0, s => s
  | n + 1, s =>
    match nextBatch s with
    | some b =>
      let s1 := b.recs.foldl applyRec (chargeCopy s b.recs)
      let lines := (b.recs.filter (fun r => r.copy && decide (r.kind = 1))).length
      applyInbox n ((addStat s1 0x2B0301 0 lines).onTwin (fun t => { t with
        applied := inc32 t.applied
        inbox := t.inbox.filter (fun x => decide (x.seq ≠ b.seq)) }))
    | none => s

/-- Whether this side takes batches: it receives a catch-up, or is the mirror side of a pair in sync. -/
def takesBatches (s : State) : Bool := s.twin.pair == psRecv || (s.twin.pair == psSync && !s.twin.serving)

/-- Batches that waited for budget are applied and acknowledged, on the first twin link that is `UP`. -/
def resumeInbox (s : State) : State :=
  if takesBatches s && (nextBatch s).isSome then
    let s1 := applyInbox s.twin.inbox.length s
    match upPorts s1 roleTwin with
    | p :: _ => emit s1 p (twMsg s1 opTwMirrorAck (twinIdent s1) s1.twin.applied)
    | [] => s1
  else s

/-- `TW_MIRROR`: at a receiver or mirror side, the batch is kept, applied in its turn, and acknowledged on the link it
came on (R309). A batch that has been applied already is only acknowledged. -/
def twMirror (s : State) (p : Nat) (m : Msg) : State :=
  if portRole s p ≠ roleTwin then roleDiscard s
  else if takesBatches s then
    let b : Batch := { seq := m.fld 0 32, recs := readRecs (m.fld 32 3) m.data }
    let old := reached s.twin.applied (inc32 b.seq)
    let s1 := if old ∨ s.twin.inbox.any (fun x => decide (x.seq = b.seq)) then s
      else s.onTwin (fun t => { t with inbox := t.inbox ++ [b] })
    let s2 := applyInbox (s1.twin.inbox.length) s1
    if tierAwake s then emit s2 p (twMsg s2 opTwMirrorAck (twinIdent s2) s2.twin.applied) else s2
  else s

/-! ## The copy (R334) -/

/-- The rows of the mirrored set, and the states that go with their descriptors (R307). -/
def mirroredObject (o : Nat) : Bool :=
  match objRow o with
  | some r => r.mirrored || decide (o ∈ [0x271007, 0x2E3002])
  | none => false

/-- The composition that an object's selectors name. -/
def objComp (o i : Nat) : Nat :=
  match objRow o with
  | some r => (match r.sels with | x :: _ => if compSelectors.contains x then i % 2 ^ 7 else 0 | [] => 0)
  | none => 0

/-- Bytes of an object's value in a mirror record. -/
def objBytes (o : Nat) : Nat :=
  if o = 0x2E3003 then 96 else match objRow o with | some r => r.bytes | none => 1

/-- The value of an object of the mirrored set now. -/
def mirrorValue (s : State) (o i : Nat) : Nat :=
  if o = 0x211002 then (extOf s i).toNat
  else if o = 0x2A1002 then (compOf s i).toNat
  else if o = 0x2A1005 then (compOf s i).state
  else if o = 0x2A1102 then memberEntry s (i % 2 ^ 8) (i / 2 ^ 8)
  else if o = 0x291002 then partDesc s i
  else if o = 0x291005 then (partOf s i).state
  else if o = 0x291003 then (if (partOf s i).destroying then 2 else 0)
  else if o = 0x2E3003 then s.comps.keys.getD i 0
  else getObj s o i

/-- The record of an object. -/
def copyObject (s : State) (o i : Nat) : MRec := recObject o i (objBytes o) (mirrorValue s o i) (objComp o i)

/-- The configuration objects of the mirrored set, then region descriptors. -/
def copyObjects (s : State) : List MRec :=
  let own := s.dict.objs.filter (fun x => mirroredObject (x.1 / 2 ^ 64))
  let isRegion : Nat × Nat → Bool := fun x => decide (x.1 / 2 ^ 64 = 0x256002)
  (s.comps.comps.map (fun x => [copyObject s 0x2A1002 x.1, copyObject s 0x2A1005 x.1] ++
    ((x.2.members.keys ++ x.2.pools.keys).dedup.map (fun h => copyObject s 0x2A1102 (x.1 + h * 2 ^ 8))))).flatten ++
  s.comps.keys.map (fun x => copyObject s 0x2E3003 x.1) ++
  s.home.exts.map (fun x => copyObject s 0x211002 x.1) ++
  ((own.filter (fun x => !isRegion x)) ++ own.filter isRegion).map (fun x => copyObject s (x.1 / 2 ^ 64) (x.1 % 2 ^ 64))

/-- The lines of the mirrored set in ascending order: `FAST` lines that are not zero-valued, and dirty `POOL` lines. -/
def copyLines (s : State) : List Nat :=
  (s.home.exts.map (fun x =>
    if x.2.state = 0 then []
    else ((List.range x.2.length).map (fun k =>
      let tile := x.2.base + k
      if x.2.isFast then (if s.tier.zero.contains tile then [] else (List.range 512).map (fun j => tile * 512 + j))
      else match tileAt s tile with
        | some t => (setBitList t.dirty 512).map (fun j => tile * 512 + j)
        | none => [])).flatten)).flatten

/-- Every record of the mirrored set in the order of R334. -/
def copyAll (s : State) : List MRec :=
  copyObjects s ++ s.comps.recs.map (fun x => recRecord s x.1) ++
  s.home.ledger.map (fun x => recLedger s (x.1 / 2 ^ 32) (x.1 % 2 ^ 32)) ++ s.home.floors.map (fun x => recFloor s x.1) ++
  (s.search.parts.map (fun x => [copyObject s 0x291002 x.1, copyObject s 0x291005 x.1] ++
    (if x.2.destroying then [copyObject s 0x291003 x.1] else []) ++
    x.2.entries.map (fun e => recEntry s x.1 e.1))).flatten ++
  s.home.filter.map (fun x => recFilter s x.1) ++
  ((s.tier.tiles.keys ++ s.tier.zero).dedup.map (recTile s)) ++ (copyLines s).map (recLine s)

/-- A record of the copy with the value that its item has now. -/
def refreshRec (s : State) (r : MRec) : MRec :=
  let line := r.key % 2 ^ 40
  let x := match r.kind with
    | 1 => recLine s line
    | 3 => recFilter s line
    | 4 => recLedger s (r.key % 2 ^ 32) (r.key / 2 ^ 32)
    | 5 => recRecord s (r.key % 2 ^ 20)
    | 6 => recEntry s (r.key % 16) (bits r.key 32 19)
    | 7 => copyObject s (bits r.key 0 16 * 256 + bits r.key 16 8) (bits r.key 24 32)
    | 8 => recTile s (r.key % 2 ^ 31)
    | 9 => recFloor s (r.key % 2 ^ 32)
    | _ => r
  { x with copy := true }

/-- Whether a record of the copy still belongs to the mirrored set: a line that has become clean, or whose tile is gone, does
not (R307). -/
def stillMirrored (s : State) (r : MRec) : Bool :=
  let line := r.key % 2 ^ 40
  decide (r.kind ≠ 1) ||
  (match extentAt s line with
   | some (_, e) => if e.isFast then !s.tier.zero.contains (tileOf line) else isDirty s line
   | none => false)

/-- Records that fit one message, and the rest. -/
def takeGroup : Nat → List MRec → List MRec × List MRec
  | _, [] => ([], [])
  | room, r :: rest =>
    if r.slots.length ≤ room then
      let x := takeGroup (room - r.slots.length) rest
      (r :: x.1, x.2)
    else ([], r :: rest)

/-! ## Pair states (R313-R316) -/

/-- Change the pair state. -/
def setPair (s : State) (st : Nat) (serving : Bool) : State := s.onTwin (fun t => { t with pair := st, serving := serving })

/-- Whether no twin link is `UP`, retraining or coming up from its parameters on. -/
def twinGone (s : State) : Bool :=
  !((listed s 0x212007).any (fun x => decide (portRole s x.1 = roleTwin) && decide (5 ≤ x.2) && decide (x.2 ≤ 7)))

/-- Whether some twin link is `UP`. -/
def twinUp (s : State) : Bool := !(upPorts s roleTwin).isEmpty

/-- Announce this side as serving (R305, R328). -/
def announceServing (s : State) : State :=
  let s1 := s.onTwin (fun t => { t with
    servingOf := t.servingOf.put (ownPair s) s.twin.side
    servingEpoch := t.servingEpoch.put (ownPair s) (s.twin.epoch % 2 ^ 32)
    takeover := t.takeover.del (ownPair s)
    lostPairs := t.lostPairs.filter (fun x => decide (x ≠ ownPair s)) })
  floodTwin s1 opTwServing (pack [(8, ownIdent s), (32, s.twin.epoch)]) []

/-- The mirrored set is discarded; what R307 does not list stays. -/
def discardMirrored (s : State) : State :=
  let s1 := s.onDict (fun d => { d with objs := d.objs.filter (fun x => !mirroredObject (x.1 / 2 ^ 64)) })
  let s2 := s1.onHome (fun h => { Home.reset with lost := h.lost, hostDown := h.hostDown, admits := h.admits, snoopTag := h.snoopTag })
  let s3 := s2.onTier (fun t => { Tier.reset with fails := t.fails, down := t.down, trayTag := t.trayTag })
  (s3.onComps (fun k => { k with comps := [], recs := [], keys := [] })).onSearch (fun _ => Search.reset)

/-- A receiver gives up its copy (R336, R337): a spare clears its claim. -/
def endReceiving (s : State) : State :=
  let s1 := (discardMirrored s).onTwin (fun t => { t with
      inbox := [], applied := 0, twinTags := none, peerEpoch := none
      claimed := false, forced := false, warnAt := none })
  setPair s1 (if cfg s 0x2B0005 = 1 then psSpare else psUnpaired) false

/-- Spare port entries: valid ones of a rank (object 2B03.04). -/
def sparePorts (s : State) (rank : Nat) : List Nat :=
  (List.range 16).filterMap (fun i =>
    let e := bits (cfg s 0x2B0304) (16 * i) 16
    if bit e 15 && decide (bits e 8 2 = rank) then some (bits e 0 8) else none)

/-- The next rank with a port, from a rank on, wrapping. -/
def nextRank (s : State) (r : Nat) : Option Nat :=
  ([r, r + 1, r + 2, r + 3].map (fun x => x % 4)).find? (fun x => !(sparePorts s x).isEmpty)

/-- Call the spares of a rank (R333 step 1). -/
def callSpares (s : State) (r : Nat) : State :=
  match nextRank s r with
  | some k =>
    let ps := sparePorts s k
    let s1 := ps.foldl portEnable s
    post (s1.onTwin (fun t => { t with call := some (k, s.now + 1000000 * cfg s 0x2B0305) })) 0x0B08 none
      (pay [(1, k), (4, ps.length)])
  | none => s

/-- `SPARE_CALL_TIMEOUT` (R333 steps 2 and 3): no spare on the rank's ports is claimed. -/
def spareCallTimeout (s : State) : State :=
  match s.twin.call with
  | some (r, t) =>
    if s.twin.pair = psAlone ∧ !((sparePorts s r).any (linkUp s)) then
      let s1 := (sparePorts s r).foldl portDisable ((reachTime s t).onTwin (fun x => { x with call := none }))
      callSpares (post s1 0x0B09 none (pay [(1, r)])) ((r + 1) % 4)
    else s.onTwin (fun x => { x with call := none })
  | none => s

/-- A side is alone: held responses go out, the journal ends, spares are called (R313, R333). -/
def goAlone (ap : State → Deferred → State) (s : State) : State :=
  let s1 := (setPair s psAlone true).onTwin (fun t => { t with
      journal := [], copyLeft := [], twinTags := none
      peerTags := t.peerTags.del (twinIdent s), forced := false, warnAt := none })
  callSpares (releaseHeldAll ap s1) 0

/-- The pair goes out of sync: 0x0B04 (R313). -/
def outOfSync (ap : State → Deferred → State) (s : State) (cause : Nat) : State :=
  post (goAlone ap s) 0x0B04 none (pay [(1, ownPair s), (1, cause)])

/-- A catch-up at the sender is abandoned: 0x0B03 (R336). -/
def abandonCatchup (ap : State → Deferred → State) (s : State) (cause : Nat) : State :=
  let n := cfg s 0x2B0301
  post (goAlone ap (addErr s 0x2B0303 0 1)) 0x0B03 none (pay [(1, ownPair s), (1, cause), (4, n)])

/-- Body of `TW_CATCHUP`. -/
def catchupBody (s : State) (step lines : Nat) : Nat := pack [(2, step), (6, 0), (64, s.twin.epoch), (64, lines)]

/-- Start a catch-up as its sender (R314, R334): batches are numbered from 0 (log entry 44). -/
def startCatchup (s : State) : State :=
  let lines := (copyLines s).length
  let s1 := (setPair s psSend true).onTwin (fun t => { t with
      seq := 0, journal := [], copyLeft := copyAll s, copyStart := s.now
      call := none })
  let s2 := setObj (setObj s1 0x2B0301 0 0) 0x2B0302 0 lines
  post (sendOnTwinLink s2 opTwCatchup (catchupBody s 1 lines)) 0x0B02 none
    (pay [(1, ownPair s), (1, twinIdent s), (4, lines)])

/-- Event 0x0B01. -/
def inSyncEvent (s : State) (side : Nat) : State :=
  post s 0x0B01 none (pay [(1, ownPair s), (1, side), (4, s.twin.epoch % 2 ^ 32), (4, cfg s 0x2B0301),
    (4, (s.now - s.twin.copyStart) / 1000000)])

/-- The copy is done and every batch acknowledged: the pair is in sync (R313, R334). -/
def catchupDone (s : State) : State :=
  if s.twin.pair = psSend ∧ s.twin.copyLeft.isEmpty ∧ s.twin.journal.isEmpty then
    let s1 := (setPair s psSync true).onTwin (fun t => { t with epoch := (t.epoch + 1) % 2 ^ 64 })
    let s2 := sendOnTwinLink s1 opTwCatchup (catchupBody s1 2 0)
    inSyncEvent (announceServing s2) s.twin.side
  else s

/-- `CATCHUP_COPY`: the next batch of the copy (R334), within the catch-up activity's stack budget (R335). -/
def catchupCopy (s : State) : State :=
  if s.twin.pair = psSend then
    let left := s.twin.copyLeft.filter (stillMirrored s)
    let x := takeGroup 7 (left.map (refreshRec s))
    let s1 := s.onTwin (fun t => { t with copyLeft := left.drop x.1.length })
    if x.1.isEmpty then catchupDone s1
    else if !copyFits s x.1 then s
    else addStat (journalBatch (chargeCopy s1 x.1) x.1) 0x2B0301 0 (x.1.filter (fun r => decide (r.kind = 1))).length
  else s

/-- `TW_MIRROR_ACK`: batches before a number are applied: what waited for them goes on, oldest first (R309, R310). -/
def twMirrorAck (ap : State → Deferred → State) (s : State) (p : Nat) (m : Msg) : State :=
  let acked := m.fld 0 32
  let gone : Nat → Bool := fun q => reached acked (inc32 q)
  if portRole s p = roleTwin ∧ mirrorsNow s then
    let n := (s.twin.journal.filter (fun b => gone b.seq)).length
    let s1 := addStat s 0x2B0201 0 n
    let s2 := s1.onTwin (fun t => { t with journal := t.journal.filter (fun b => !gone b.seq) })
    catchupDone (releaseHeldIf ap (fun b => match b with | some q => gone q | none => false) s2)
  else s

/-- Whether R313 names this side as the sender, both epochs known. -/
def isSender (s : State) (peer : Nat) : Bool :=
  decide (peer < s.twin.epoch) || (decide (peer = s.twin.epoch) && decide (cfg s 0x2B0003 = s.twin.side))

/-- Whether two `UNPAIRED` sides may form a pair (R313): a twin link is `UP`, the first heartbeat has arrived, R317
passes, and mirroring is enabled (R315). -/
def mayPair (s : State) : Bool :=
  s.twin.pair == psUnpaired && decide (cfg s 0x2B0002 = 1) && twinUp s &&
  (match s.twin.twinTags with | some t => tagsPass s t | none => false)

/-- Send the own epoch (R314). -/
def sendEpoch (s : State) : State := sendOnTwinLink s opTwCatchup (catchupBody s 0 0)

/-- Form the pair when both epochs are known and this side sends (R314). -/
def formPair (s : State) : State :=
  match s.twin.peerEpoch with
  | some e => if mayPair s && isSender s e then startCatchup (tagWarning s) else s
  | none => s

/-- `TW_CATCHUP` `epoch` (R314): discarded outside `UNPAIRED`. -/
def twCatchupEpoch (s : State) (m : Msg) : State :=
  if s.twin.pair = psUnpaired ∧ cfg s 0x2B0002 = 1 then
    formPair (s.onTwin (fun t => { t with peerEpoch := some (m.fld 8 64) }))
  else s

/-- `TW_CATCHUP` `start`: the other side receives (R314). -/
def twCatchupStart (s : State) (m : Msg) : State :=
  if mayPair s ∨ s.twin.pair = psDetached ∨ s.twin.pair = psRecv then
    let began := decide (s.twin.pair = psRecv)
    let s1 := (setPair (tagWarning s) psRecv false).onTwin (fun t => { t with
        applied := if began then t.applied else 0
        inbox := if began then t.inbox else []
        copyStart := s.now, peerEpoch := none })
    setObj (setObj s1 0x2B0301 0 0) 0x2B0302 0 (m.fld 72 64)
  else s

/-- `TW_CATCHUP` `done`: the receiver is the mirror side of a pair in sync (R313). -/
def twCatchupDone (s : State) (m : Msg) : State :=
  if s.twin.pair = psRecv ∧ s.twin.inbox.isEmpty then
    inSyncEvent ((setPair s psSync false).onTwin (fun t => { t with epoch := m.fld 8 64 })) (1 - s.twin.side)
  else s

/-- `TW_CATCHUP` `abort` (R336): a device reset of the sender of the message ends the catch-up. -/
def twCatchupAbort (ap : State → Deferred → State) (s : State) : State :=
  if s.twin.pair = psSend then abandonCatchup ap s 0
  else if s.twin.pair = psRecv then endReceiving s else s

/-- A device reset of this side ends a catch-up: the other side learns it (log entry 49), a sender stays authoritative in
`ALONE`, a receiver discards what it has received (R336). -/
def abortCatchup (s : State) : State :=
  let s1 := sendOnTwinLink s opTwCatchup (catchupBody s 3 0)
  if s.twin.pair = psSend then abandonCatchup (fun t _ => t) s1 0
  else if s.twin.pair = psRecv then endReceiving s1
  else s

/-- Cause of 0x0B06 for a verdict on a side that served alone: 2 with its mirror detached, 1 for a catch-up sender, else 0. -/
def lostCause (s : State) (id pair : Nat) : Nat :=
  if s.twin.peerState.getD (identOf (id % 64) (1 - id / 64)) 0 = psDetached then 2 else if pair = psSend then 1 else 0

/-- Quarantine itself (R324). Cause: 0 verdict, 1 detach refused, 2 no heartbeats. -/
def quarantineSelf (s : State) (cause : Nat) : State :=
  if s.twin.pair = psQuarantined then s
  else
    let lone := s.twin.pair = psAlone ∨ s.twin.pair = psHolding ∨ s.twin.pair = psSend
    let s1 := if cause = 0 ∧ lone then post s 0x0B06 none (pay [(1, ownPair s), (1, lostCause s (ownIdent s) s.twin.pair)]) else s
    let s2 := (setPair s1 psQuarantined false).onTwin (fun t => { t with held := [], journal := [], copyLeft := [], call := none })
    post s2 0x0B32 none (pay [(1, cause)])

/-- `TW_DETACH` `request` (R313): a mirror side promises never to take over; a side that serves refuses. -/
def twDetachRequest (s : State) : State :=
  let answer : State → Nat → State := fun s k => sendTwin s opTwDetach (twinIdent s) (pack [(2, k), (6, 0), (8, ownIdent s)])
  if s.twin.pair = psSync ∧ !s.twin.serving then
    setPair ((discardMirrored (answer s 1)).onTwin (fun t => { t with inbox := [], applied := 0, twinTags := none })) psDetached false
  else if s.twin.pair = psDetached then answer s 1
  else if servesHere s then answer s 2
  else s

/-- `TW_DETACH` `confirm` (R313). -/
def twDetachConfirm (ap : State → Deferred → State) (s : State) : State :=
  if s.twin.pair = psHolding then outOfSync ap s 1 else s

/-- `TW_DETACH` `refuse`: a side that receives it quarantines itself (R313, R324). -/
def twDetachRefuse (s : State) : State := quarantineSelf s 1

/-- `MIRROR_DISABLE`: object 2B00.02 written 0 (R316). -/
def mirrorDisable (ap : State → Deferred → State) (s : State) : Acc :=
  if s.twin.pair = psUnpaired ∨ s.twin.pair = psAlone ∨ s.twin.pair = psHolding then
    let s1 := setPair (setObj s 0x2B0002 0 0) psUnpaired false
    (aeOk, releaseHeldAll ap (s1.onTwin (fun t => { t with
        journal := [], call := none, forced := false, warnAt := none
        twinTags := none, peerEpoch := none })))
  else (aeState, s)

/-! ## Takeover (R328, R329) -/

/-- Running offer timers restart at their full length (R251). -/
def restartOffers (s : State) : State :=
  (s.comps.recs.filter (fun x => decide (x.2.state = 3) && !x.2.producerLost)).foldl (fun s x =>
    setRec s x.1 { x.2 with offerEnd := some (s.now + 1000 * getObj s 0x2A3004 x.2.comp) }) s

/-- Lines that the copy does not hold are read from the trays on first access (R307). -/
def owedLines (s : State) : List Nat :=
  (s.tier.tiles.filter (fun x => decide (x.2.state = .filling))).map (fun x =>
    (setBitList x.2.missing 512).map (fun k => x.1 * 512 + k)) |>.flatten

/-- Every member that is not `LOST` of every composition is unconfirmed (R329). -/
def markUnconfirmed (s : State) : State :=
  s.onHome (fun h => { h with unconfirmed := ((s.comps.comps.map (fun x => (liveMembers s x.1).map (fun m => (x.1, m)))).flatten) })

/-- The compositions with an extent at the pair. -/
def pairComps (s : State) : List Nat := ((s.home.exts.filter (fun x => decide (x.2.state ≠ 0))).map (fun x => x.2.comp)).dedup

/-- The mirror side takes over (R328): every batch held whole is applied, in sequence order (log entry 46). -/
def takeOver (ap : State → Deferred → State) (s : State) : State :=
  let bs := s.twin.inbox.mergeSort (fun a b => decide (a.seq ≤ b.seq))
  let s1 := (bs.foldl (fun s b => b.recs.foldl applyRec s) s).onTwin (fun t => { t with inbox := [], epoch := (t.epoch + 1) % 2 ^ 64 })
  let s2 := s1.onTier (fun t => { t with reissue := t.reissue ++ owedLines s1 })
  let s3 := closeCtxs (breakAll (restartOffers (markUnconfirmed s2))) (fun _ => true)
  let s4 := announceServing (setPair s3 psAlone true)
  let payload := pay [(1, ownPair s), (4, s4.twin.epoch % 2 ^ 32), (4, bs.length), (4, 0)]
  let s5 := post (addErr s4 0x2B3001 0 1) 0x0B20 none payload
  goAlone ap ((pairComps s5).foldl (fun s c => postComp s c 0x0B20 payload) s5)

/-! ## Verdicts (R323, R330) -/

/-- The own pair has no serving side: a `TW_SERVING` within 3 ms would end that (R330, R337). -/
def ownPairLost (s : State) : State := s.onTwin (fun t => { t with takeover := t.takeover.put (ownPair s) (s.now + 3000000) })

/-- What a verdict on the twin does to the own pair (R313). -/
def verdictOnTwin (ap : State → Deferred → State) (s : State) : State :=
  if s.twin.pair = psSync then (if s.twin.serving then outOfSync ap s 0 else takeOver ap s)
  else if s.twin.pair = psHolding then outOfSync ap s 0
  else if s.twin.pair = psSend then abandonCatchup ap s 2
  else if s.twin.pair = psRecv then endReceiving (post (ownPairLost s) 0x0B06 none (pay [(1, ownPair s), (1, 1)]))
  else if s.twin.pair = psDetached then
    setPair (post (ownPairLost s) 0x0B06 none (pay [(1, ownPair s), (1, 2)])) psUnpaired false
  else s

/-- What a verdict on a side of another pair does (R330): a serving side is being replaced; a lone one is lost (0x0B06). -/
def verdictOnOther (s : State) (id : Nat) : State :=
  let pair := id % 64
  let st := s.twin.peerState.getD id 0
  let s1 := if s.twin.servingOf.getD pair 0 = id / 64 then
      s.onTwin (fun t => { t with takeover := t.takeover.put pair (s.now + 3000000) }) else s
  if st = psAlone ∨ st = psHolding ∨ st = psSend then post s1 0x0B06 none (pay [(1, pair), (1, lostCause s id st)]) else s1

/-- A verdict is reached or received (R323). -/
def verdict (ap : State → Deferred → State) (s : State) (subject originator cold agree disagree : Nat) : State :=
  if subject = ownIdent s then quarantineSelf s 0
  else if s.twin.quarantine.has subject then s
  else
    let body := pack [(8, subject), (8, originator), (32, cold)]
    let ps := portsTo s subject
    let s1 := (addErr s 0x2B1003 0 1).onTwin (fun t => { t with
        quarantine := t.quarantine.put subject cold
        neigh := t.neigh.del subject })
    let s2 := ps.foldl (fun s p => portDisable (sendLast s p (twMsg s opTwVerdict subject body)) p) s1
    let s3 := post (floodTwin s2 opTwVerdict body ps) 0x0B31 none
      (pay [(1, subject), (1, originator), (4, agree), (4, disagree)])
    if subject = twinIdent s then verdictOnTwin ap s3 else verdictOnOther s3 subject

/-- `TW_VERDICT` (R323). -/
def twVerdict (ap : State → Deferred → State) (s : State) (m : Msg) : State :=
  verdict ap s (m.fld 0 7) (m.fld 8 7) (m.fld 16 32) 0 0

/-- `PAIR_LOST_TIMEOUT`: no `TW_SERVING` within 3 ms of the verdict (R330). -/
def pairLostTimeout (s : State) (pair : Nat) : State :=
  match s.twin.takeover.get? pair with
  | some t => (reachTime s t).onTwin (fun x => { x with takeover := x.takeover.del pair, lostPairs := x.lostPairs ++ [pair] })
  | none => s

/-- `TW_SERVING`: learned, and passed on once (R305). One that is not newer is discarded. -/
def twServing (s : State) (p : Nat) (m : Msg) : State :=
  let id := m.fld 0 7
  let e := m.fld 8 32
  let pair := id % 64
  let known := match s.twin.servingEpoch.get? pair with | some x => reached x e | none => false
  if known then s
  else
    let s1 := s.onTwin (fun t => { t with
        servingOf := t.servingOf.put pair (id / 64), servingEpoch := t.servingEpoch.put pair e
        takeover := t.takeover.del pair, lostPairs := t.lostPairs.filter (fun x => decide (x ≠ pair)) })
    floodTwin s1 opTwServing (pack [(8, id), (32, e)]) [p]

/-! ## Turns and suspicions (R319-R322, R324, R325) -/

/-- The heartbeat of a turn. -/
def beatBody (s : State) : Nat :=
  pack [(32, cfg s 0x2B1001), (8, ownIdent s), (4, s.twin.pair), (4, 0), (32, cfg s 0x2B0001), (32, cfg s 0x2B1006),
    (32, s.twin.epoch)]

/-- `TW_BEAT` (R318, R320, R325); a lone side starts its catch-up towards a claimed spare or its detached twin, as their pair
state tells (R313). -/
def twBeat (s : State) (p : Nat) (m : Msg) : State :=
  let id := m.fld 32 7
  let cold := m.fld 80 32
  let tags := m.fld 48 32
  let refused := match s.twin.quarantine.get? id with
    | some c => reached c cold
    | none => false
  if refused then post (portDisable s p) 0x0B33 none (pay [(1, p), (1, id), (4, cold)])
  else
    let s1 := s.onTwin (fun t => { t with
      quarantine := t.quarantine.del id
      neigh := t.neigh.put id { heard := true }
      portPeer := t.portPeer.put p id
      peerTags := t.peerTags.put id tags
      peerCold := t.peerCold.put id cold
      peerState := t.peerState.put id (m.fld 40 4)
      silentTurns := 0 })
    if portRole s p = roleTwin ∧ id = twinIdent s then
      let first := decide (s.twin.twinTags ≠ some tags)
      let s2 := s1.onTwin (fun t => { t with twinTags := some tags })
      if !tagsPass s2 tags then
        (if first then
           let s3 := tagEvent s2 id tags
           if s.twin.pair = psRecv ∧ s.twin.claimed then portDisable (endReceiving s3) p else s3
         else s2)
      else if s2.twin.pair = psUnpaired ∧ mayPair s2 then (if first then formPair (sendEpoch s2) else formPair s2)
      else if s2.twin.pair = psAlone ∧ (m.fld 40 4 = psRecv ∨ m.fld 40 4 = psDetached) then startCatchup (tagWarning s2)
      else tagWarning s2
    else s1

/-- A suspicion asks every other neighbour (R320, R322). -/
def askAll (s : State) (subject ask : Nat) : State :=
  ((neighbours s).filter (fun n => decide (n ≠ subject))).foldl
    (fun s n => sendTwin s opTwSuspect n (pack [(8, subject), (8, ownIdent s), (32, ask)])) s

/-- A turn of one neighbour: heard, missed, suspected (R320, R322). -/
def turnOf (s : State) (id : Nat) : State :=
  let n := s.twin.neigh.getD id {}
  let turn := cfg s 0x2B1001
  if n.heard then s.onTwin (fun t => { t with neigh := t.neigh.put id {} })
  else
    let k := n.missed + 1
    let n1 := { n with missed := k }
    if k = 10 then
      let s1 := s.onTwin (fun t => { t with neigh := t.neigh.put id { n1 with ask := some turn } })
      askAll (post (addErr s1 0x2B1002 0 1) 0x0B30 none (pay [(1, id)])) id turn
    else
      let s1 := s.onTwin (fun t => { t with neigh := t.neigh.put id n1 })
      match n.ask with
      | some a =>
        let s2 := if (turn + 2 ^ 32 - a) % 2 ^ 32 = 10 then post s1 0x0B34 none (pay [(1, id), (4, n.answers)]) else s1
        askAll s2 id a
      | none => s1

/-- Whether silence quarantines this ZX964 (R324). -/
def silent (s : State) : Bool :=
  decide (10 ≤ s.twin.silentTurns) &&
  s.twin.wentDown.any (fun p => decide (2 ≤ portRole s p) && decide (getObj s 0x212005 p = 1))

/-- What a side does at each of its turns while its pair forms or holds (R313, R314). -/
def turnPair (s : State) : State :=
  if s.twin.pair = psHolding then sendTwin s opTwDetach (twinIdent s) (pack [(2, 0), (6, 0), (8, ownIdent s)])
  else if mayPair s && s.twin.peerEpoch.isNone then sendEpoch s else s

/-- `TURN`: one every 100 µs of local time (R319). -/
def turn (s : State) : State :=
  let s1 := addSeq (reachTime s ((s.now / 100000 + 1) * 100000)) 0x2B1001 0 1
  if s.twin.pair = psQuarantined then s1
  else
    let s2 := s1.onTwin (fun t => { t with silentTurns := t.silentTurns + 1 })
    let s3 := (neighbours s2).foldl turnOf s2
    if silent s3 then quarantineSelf s3 2
    else turnPair (floodTwin s3 opTwBeat (beatBody s3) [])

/-- `TW_SUSPECT` (R321): answered at once on the link it came on. -/
def twSuspect (s : State) (p : Nat) (m : Msg) : State :=
  let x := m.fld 0 7
  let k := (s.twin.neigh.getD x {}).missed
  let a := if !(neighbours s).contains x then 0 else if 5 ≤ k then 1 else 2
  emit s p (twMsg s opTwConfirm (m.fld 8 7) (pack [(8, x), (8, m.fld 8 8), (32, m.fld 16 32), (2, a), (6, 0), (8, min 255 k)]))

/-- `TW_CONFIRM` (R322): two `agree` answers to one `ask_id` are a verdict. -/
def twConfirm (ap : State → Deferred → State) (s : State) (p : Nat) (m : Msg) : State :=
  let x := m.fld 0 7
  let n := s.twin.neigh.getD x {}
  match peerOn s p with
  | some who =>
    if m.fld 8 7 = ownIdent s ∧ n.ask = some (m.fld 16 32) then
      let a := m.fld 48 2
      let agree := (if a = 1 then who :: n.agree else n.agree).dedup
      let disagree := (if a = 2 then who :: n.disagree else n.disagree).dedup
      let s1 := s.onTwin (fun t => { t with neigh := t.neigh.put x { n with
          agree := agree, disagree := disagree
          answers := n.answers + 1 } })
      if 2 ≤ agree.length then
        verdict ap s1 x (ownIdent s) (s.twin.peerCold.getD x 0) agree.length disagree.length
      else s1
    else s
  | none => s

/-! ## Spares (R332) -/

/-- A peer claims this spare (R332): its pair ID and the other side, everything earlier discarded. -/
def claimSpare (s : State) (b : Nat) : State :=
  let s1 := (discardMirrored s).onTwin (fun t => { t with
      side := 1 - bits (pbIdentity b) 6 1, claimed := true, applied := 0
      inbox := [], twinTags := none })
  setPair (setObj s1 0x210003 0 (pbIdentity b % 64)) psRecv false

/-- Whether an unclaimed spare accepts a peer (R332): covered, and with tags, where known, that pass R317. -/
def spareAccepts (s : State) (b : Nat) : Bool :=
  decide (pbKind b = 2) && bit (cfg s 0x2B0007) (pbIdentity b % 64) &&
  (match s.twin.peerTags.get? (pbIdentity b % 128) with | some t => tagsPass s t | none => true)

/-- `PARAMETER_BLOCK_RECEIVED` (R285, R286, R332). -/
def parameterBlock (s : State) (p : Nat) (block : Slot) : State :=
  if linkState s p ≠ lsParam then s
  else if unclaimedSpare s ∧ portRole s p = roleTwin then
    (if spareAccepts s block.toNat && (paramCause (claimSpare s block.toNat) p block.toNat).isNone then
       paramReceived (claimSpare s block.toNat) p block
     else linkFault (setObj s 0x21200B p block.toNat) p lcPeer)
  else paramReceived s p block

/-! ## Changes by condition (R313) -/

/-- Rows of R313 whose event is a condition on the twin links. -/
def pairConditions (ap : State → Deferred → State) (s : State) : State :=
  if s.twin.pair = psSend ∧ twinGone s then abandonCatchup ap s 1
  else if s.twin.pair = psRecv ∧ twinGone s then endReceiving s
  else if s.twin.pair = psSync ∧ s.twin.serving ∧ twinGone s then
    turnPair (post (setPair s psHolding true) 0x0B05 none (pay [(1, ownPair s)]))
  else if s.twin.pair = psHolding ∧ twinUp s then
    let s1 := setPair s psSync true
    releaseHeldIf ap (fun b => b.isNone) (resendJournal s1)
  else if s.twin.pair = psDetached ∧ twinUp s then
    (setPair s psRecv false).onTwin (fun t => { t with applied := 0, inbox := [], copyStart := s.now })
  else s

/-- Whether none of those rows applies. -/
def pairQuiet (s : State) : Bool :=
  match s.twin.pair with
  | 2 => !twinGone s
  | 3 => !twinGone s
  | 4 => !s.twin.serving || !twinGone s
  | 5 => !twinUp s
  | 7 => !twinUp s
  | _ => true

end Sys2Proof.Machine
end

