-- ==== Sys2Proof/Machine/Drills.lean ====
section
/-! DEFINITION. Score decay and drills (R339, R343-R347). -/

namespace Sys2Proof.Machine

/-! ## Decay (R339) -/

/-- Item of a score key. -/
def decayOne (s : State) (x : Nat × Nat) : State :=
  setScore s (x.1 / 2 ^ 16) (x.1 % 2 ^ 16) (decayed x.2 (cfg s 0x2B4006))

/-- A powered laser input within 1 dB of its threshold adds to its score at each decay step (R338, class 3). -/
def decayLaser (s : State) (f : Nat) : State :=
  let st := getObj s 0x216004 f
  if st ≠ 0 ∧ sint (getObj s 0x216002 f) 32 ≤ sint (getObj s 0x216003 f) 32 + 100 then addScore s 3 f 1 1 else s

/-- `SCORE_DECAY`: the end of a decay step of object 2B40.05. -/
def scoreDecay (s : State) : State :=
  let s1 := reachTime s s.health.decayAt
  let s2 := s1.health.scores.foldl decayOne s1
  let s3 := (List.range 64).foldl decayLaser s2
  s3.onHealth (fun h => { h with decayAt := h.decayAt + 1000000000 * cfg s 0x2B4005 })

/-! ## The dice (R343) -/

/-- One draw of the drill engine's lane. -/
def drawDice (s : State) : Nat × State :=
  let x := if s.health.dice.1 = 0 then seedLane (cfg s 0x2B5004) 0 0 else s.health.dice.2
  (diceNext x, s.onHealth (fun h => { h with dice := (1, diceNext x) }))

/-- The next drill falls after the interval times (0.5 + r ÷ 2^32) from now (R343). -/
def planDrill (s : State) : State :=
  let x := drawDice s
  let i := cfg s 0x2B5002 * 1000000
  x.2.onHealth (fun h => { h with nextDrill := s.now + i / 2 + i * x.1 / 2 ^ 32 })

/-! ## Targets (R343, R344, R346) -/

/-- Whether a composition may be a target of a class. -/
def optedIn (s : State) (c cls : Nat) : Bool := decide ((compOf s c).state = 1) && bit (getObj s 0x2B5101 c) (cls - 1)

/-- Whether a part's score is at or above the warn threshold. -/
def warned (s : State) (cls item : Nat) : Bool := decide (cfg s 0x2B4007 ≤ scoreOf s cls item)

/-- Whether a port and its light engine stand below the warn threshold. -/
def portFit (s : State) (p : Nat) : Bool := !warned s 1 p && !warned s 2 (physOf p / 4)

/-- A target: composition, the record's `target`, and what the drill needs beside it. -/
abbrev Target := Nat × Nat × Nat

/-- Class 1: atomics of opted-in compositions that the home is serving, by line. -/
def replyTargets (s : State) : List Target :=
  (s.home.txns.map (fun x => (x.2.work.reqs.filter (fun r => decide (r.m.opcode = opAtomic) && !fromCore r &&
    optedIn s r.m.composition 1)).map (fun r => (r.m.composition, x.1, r.m.tag + 2 ^ 16 * r.m.peer)))).flatten

/-- Class 2: destinations with two paths on ports below the warn threshold: the other port, and back to the present one. -/
def flapTargets (s : State) : List Target :=
  s.tm.paths.filterMap (fun x =>
    let cs := (candidates s x.1).filter (portFit s)
    if s.tm.changes.has x.1 ∨ !cs.contains x.2 then none
    else (cs.find? (fun p => decide (p ≠ x.2))).map (fun p => (0, p, x.2 + 256 * x.1)))

/-- Class 3: tile slots that no tile holds, while no stack stands at or above the warn threshold (log entry 47). -/
def freeSlotCount (s : State) : Nat :=
  if (List.range 16).any (warned s 4) then 0 else tierSlots - s.tier.tiles.length

/-- Class 4: the partitions of opted-in compositions that may be drilled, and their entries. -/
def parityParts (s : State) : List (Nat × Nat × Nat) :=
  (s.search.parts.filter (fun x => decide (x.2.state = 2) && optedIn s (pdComp x.2.desc) 4)).map
    (fun x => (x.1, pdComp x.2.desc, pdCapacity x.2.desc))

/-- The n-th entry of a list of partitions: partition and index in the record's `target`. -/
def parityTarget : List (Nat × Nat × Nat) → Nat → Target
  | [], _ => (0, 0, 0)
  | (p, c, k) :: r, n => if n < k then (c, n + 2 ^ 32 * p, 0) else parityTarget r (n - k)

/-- Class 5: lines that hosts hold in the drill extents of opted-in compositions. -/
def timeoutTargets (s : State) : List Target :=
  s.home.filter.filterMap (fun x =>
    let c := x.2.comp
    let e := getObj s 0x2B5102 c
    if optedIn s c 5 ∧ e ≠ 0xFFFF ∧ (extOf s e).covers (tileOf x.1) ∧ (extOf s e).state = 1 ∧ (extOf s e).comp = c ∧
      !s.home.txns.has x.1 then some (c, x.1, 0) else none)

/-- How many targets a class has. -/
def targetCount (s : State) (cls : Nat) : Nat :=
  if cls = 1 then (replyTargets s).length
  else if cls = 2 then (flapTargets s).length
  else if cls = 3 then freeSlotCount s
  else if cls = 4 then ((parityParts s).map (fun x => x.2.2)).sum
  else (timeoutTargets s).length

/-- The n-th target of a class, in ascending order. -/
def nthTarget (s : State) (cls n : Nat) : Target :=
  if cls = 1 then (replyTargets s).getD n (0, 0, 0)
  else if cls = 2 then (flapTargets s).getD n (0, 0, 0)
  else if cls = 3 then (0, n, 0)
  else if cls = 4 then parityTarget (parityParts s) n
  else (timeoutTargets s).getD n (0, 0, 0)

/-- What a drill costs the drill activity (R345): resource and units. -/
def drillCost (cls : Nat) : Nat × Nat := if cls = 3 then (0, 3) else if cls = 4 then (2, 1) else (1, 1)

/-! ## Running a drill -/

/-- Whether the drill engine may run (R344). -/
def drillsRun (s : State) : Bool :=
  decide (cfg s 0x2B5001 = 1) && decide (s.twin.pair = psSync) && s.twin.serving && s.health.drill.isNone &&
  (decide (s.power.state = 1) || decide (s.power.state = 2))

/-- The action of a drill's class (R343). -/
def drillAction (s : State) (cls : Nat) (t : Target) : State :=
  if cls = 2 then pathChangeStart s (t.2.2 / 256) t.2.1 0
  else if cls = 4 then
    let p := t.2.1 / 2 ^ 32
    putPart s p { partOf s p with flipped := (partOf s p).flipped ++ [t.2.1 % 2 ^ 32] }
  else if cls = 5 then enqueue s t.2.1 .inval
  else s

/-- A drill that finds no target, or no budget within 1 ms, is skipped and counted (R344, R345). -/
def skipDrill (s : State) : State := planDrill (addErr s 0x2B5203 0 1)

/-- `DRILL_START`: the time of the next drill has come. With the period's budget used it waits for the next, up to 1 ms
(R345). -/
def drillStart (s0 : State) : State :=
  if !drillsRun s0 then s0
  else
    let s := reachTime s0 s0.health.nextDrill
    let cs := [1, 2, 3, 4, 5].filter (fun c => bit (cfg s 0x2B5003) (c - 1) && decide (0 < targetCount s c))
    if cs.isEmpty then skipDrill s
    else
      let (r, s1) := drawDice s
      let cls := cs.getD (r % cs.length) 0
      let (q, s2) := drawDice s1
      let t := nthTarget s2 cls (q % targetCount s2 cls)
      let k := drillCost cls
      if !hasBudget s2 k.1 0 7 k.2 then
        (if k.2 ≤ budgetOf s k.1 0 7 ∧ s.now < s0.health.nextDrill + 1000000 then s else skipDrill s2)
      else
        let d : Drill := { seq := s2.health.drillSeq, cls := cls, comp := t.1, target := t.2.1, started := s2.now, back := t.2.2 }
        let s3 := (charge s2 k.1 0 7 k.2).onHealth (fun h => { h with drill := some d, drillSeq := inc32 h.drillSeq })
        drillAction (post s3 0x0B50 none (pay [(1, cls), (8, t.2.1)])) cls t

/-- `DRILL_PATH_FLAP_RETURN`: 1 ms after its path change a `PATH_FLAP` drill goes back (R343). -/
def drillReturn (s : State) : State :=
  match s.health.drill with
  | some d =>
    if d.cls = 2 ∧ d.phase = 0 then
      let s1 := drillPhase (reachTime s (d.started + 1000000)) 1
      pathChangeStart s1 (d.back / 256) (d.back % 256) 0
    else s
  | none => s

/-- The outcome of a drill: 0 `PASSED`, 1 `FAILED`, 2 `UNOBSERVED`, 3 `ABORTED` (R347). A dropped reply whose atomic the
host never retried is unobserved; a pair that left `IN_SYNC` aborted the drill. -/
def outcomeOf (s : State) (d : Drill) (passed : Bool) : Nat :=
  if s.twin.pair ≠ psSync ∨ (s.power.state ≠ 1 ∧ s.power.state ≠ 2) then 3
  else if d.cls = 1 ∧ d.phase < 2 then 2
  else if passed then 0 else 1

/-- The 32 bytes of a drill record (object 2B50.05). -/
def drillRecord (d : Drill) (outcome now : Nat) : Nat :=
  pack [(32, d.seq), (4, d.cls), (3, outcome), (1, 0), (7, d.comp), (17, 0), (64, d.target), (32, d.started / 1000),
    (32, (now - d.started) / 1000), (64, 0)]

/-- `DRILL_OUTCOME`: the drill in progress ends; `passed` is whether its pass condition was observed. -/
def drillOutcome (s : State) (passed : Bool) : State :=
  match s.health.drill with
  | some d =>
    let o := outcomeOf s d passed
    let s1 := s.onHealth (fun h => { h with drill := none })
    let s2 := setObj s1 0x2B5005 0 (drillRecord d o s.now)
    let s3 := addStat s2 0x2B5201 0 1
    let s4 := if o = 1 then addErr s3 0x2B5202 0 1 else s3
    let p := pay [(4, d.seq), (1, d.cls), (1, o), (8, d.target)]
    let own := decide (d.cls = 1) || decide (d.cls = 4) || decide (d.cls = 5)
    let c := if own then some d.comp else none
    let s5 := post s4 0x0B51 c p
    planDrill (if own then postComp s5 d.comp 0x0B51 p else s5)
  | none => s

end Sys2Proof.Machine
end

