-- ==== Sys2Proof/Machine/Images.lean ====
section
/-! DEFINITION. Signed images, certificate slots, the owner key, SPDM sessions and the test access port (R399-R416, R429). -/

namespace Sys2Proof.Machine

/-! ## Identity (R6, R451) -/

/-- Object 2000.02: 1 stepping B, 2 stepping C. -/
def steppingCode : Nat := if Config.steppingIsC then 2 else 1

/-! ## Image header (15, "Signed images") -/

def ihKind (v : Nat) : Nat := bits v 40 8
def ihVersion (v : Nat) : Nat := bits v 64 32
def ihSecurity (v : Nat) : Nat := bits v 96 32
def ihPayload (v : Nat) : Nat := bits v 128 32
def ihSteppings (v : Nat) : Nat := bits v 160 8
def ihDigest (v : Nat) : Nat := bits v 256 512
def ihSigner (v : Nat) : Nat := bits v 768 456
def ihSignature (v : Nat) : Nat := bits v 1280 912
/-- The payload's bytes. -/
def imagePayload (v : Nat) : Nat := bits v 2304 (8 * ihPayload v)

/-- Check 1 of R407, on the bytes assembled and their number. -/
def imageFormOk (x : Nat × Nat) : Bool :=
  let v := x.2
  decide (bits v 0 32 = 0x3639585A) && decide (bits v 32 8 = 1) && (decide (ihKind v = 1) || decide (ihKind v = 2)) &&
  decide (bits v 48 16 = 0) && decide (bits v 168 88 = 0) && decide (bits v 1224 56 = 0) && decide (bits v 2192 112 = 0) &&
  decide (ihPayload v ≤ 2 ^ 25) && decide (288 + ihPayload v ≤ x.1) && (decide (ihKind v = 1) || decide (ihPayload v % 8 = 0)) &&
  !bit (ihSteppings v) 0 && decide (ihSteppings v < 8)

/-- The installed owner key; 0 for none (R411). -/
def ownerKey (s : State) : Nat := cfg s 0x2E1003

/-- Whether a signer is acceptable for an image (R407 check 3). -/
def signerOk (s : State) (v : Nat) : Bool :=
  let rom := Config.romFirmwareKey (shake256 57 (ihSigner v) 64)
  if ihKind v = 1 then rom else if ownerKey s = 0 then rom else decide (ihSigner v = ownerKey s)

/-- The counter of an image's kind (R409). -/
def securityCounter (s : State) (kind : Nat) : Nat := if kind = 1 then cfg s 0x2E1001 else cfg s 0x2E1002

/-- R407: 0 for a verified image, else the reason of the first check that fails. -/
def verifyImage (s : State) (x : Nat × Nat) : Nat :=
  let v := x.2
  if !imageFormOk x then 1
  else if !bit (ihSteppings v) steppingCode then 2
  else if !signerOk s v then 3
  else if !ed448Verify 1 (ihSigner v) 160 v (ihSignature v) then 4
  else if shake256 (ihPayload v) (imagePayload v) 64 ≠ ihDigest v then 5
  else if ihSecurity v < securityCounter s (ihKind v) then 6
  else 0

/-- Event 0x0D31. -/
def imageFailed (s : State) (v reason : Nat) : State := post s 0x0D31 none (pay [(1, ihKind v), (1, reason), (4, ihVersion v)])

/-- The entry of a kind in the strapped boot image (R410); none: what was shipped (log entry 1). -/
def bootImage (s : State) (kind : Nat) : Option (Nat × Nat) := s.security.images.get? (b2n s.security.bootB * 4 + kind)

/-- The version of an image, the shipped one's being its own. -/
def versionOf (s : State) (kind : Nat) (x : Option (Nat × Nat)) : Nat :=
  match x with
  | some y => ihVersion y.2
  | none => (Config.factoryVersion (b2n s.security.bootB * 4 + kind)).toNat

/-- Object 2000.05: the version of the firmware verified at step 2 (R451). -/
def fwVersion (s : State) : Nat := versionOf s 1 s.security.fwImage

/-- Object 2000.06 (R451). -/
def cfgVersion (s : State) : Nat := if s.security.cfgApplied then versionOf s 2 s.security.cfgImage else 0

/-- The layer-1 measurement (R399). -/
def fwMeasurement (s : State) : Nat :=
  match s.security.fwImage with
  | some y => ihDigest y.2
  | none => (Config.factoryMeasurement (b2n s.security.bootB * 4 + 1)).toNat

/-- The security version of an image in force; the shipped ones count as 0 (log entry 1). -/
def securityOf (x : Option (Nat × Nat)) : Nat := match x with | some y => ihSecurity y.2 | none => 0

/-! ## Pieces and commands (R371, R410) -/

/-- A 128-byte piece put into assembled bytes at an offset. -/
def putPiece (x : Nat × Nat) (offset len piece : Nat) : Nat × Nat :=
  (max x.1 (offset + len), setBits x.2 (8 * offset) (8 * len) piece)

/-- A write of object 2E12.02. -/
def imagePieceWrite (s : State) (w : Requester) (offset len v : Nat) : Acc :=
  let o := selVal s w 0x2E1201 + offset
  (aeOk, s.onSecurity (fun x => { x with building := x.building.put w.key (putPiece (x.building.getD w.key (0, 0)) o len v) }))

/-- `STAGE` (R410). -/
def imageStageCmd (s : State) (w : Requester) : Acc :=
  let x := s.security.building.getD w.key (0, 0)
  let reason := verifyImage s x
  if reason ≠ 0 then withStatus (imageFailed s x.2 reason) w 0x2E1204 (reason + 1)
  else
    let k := b2n s.security.bootB * 4 + ihKind x.2
    withStatus (s.onSecurity (fun y => { y with images := y.images.put k x, building := y.building.del w.key })) w 0x2E1204 0

/-- `ABORT` of an image (R410). -/
def imageAbortCmd (s : State) (w : Requester) : Acc :=
  withStatus (s.onSecurity (fun y => { y with building := y.building.del w.key })) w 0x2E1204 0

/-- A write of object 2C40.02 at the offset of object 2C40.01 (R371). -/
def recoveryPieceWrite (s : State) (offset len v : Nat) : Acc :=
  let o := cfg s 0x2C4001 + offset
  (aeOk, s.onSecurity (fun x => { x with recovery := putPiece x.recovery o len v }))

/-! ## Owner key (R411) -/

/-- Event 0x0D35: the key changes. -/
def putOwner (s : State) (w : Requester) (k : Nat) : State :=
  let s1 := setStaged (setStaged (setObj s 0x2E1003 0 k) w 0x2E1003 0) w 0x2E1004 0
  post s1 0x0D35 none (pay [(8, shake256 57 k 64 % 2 ^ 64)])

/-- `SET`. -/
def ownerSetCmd (s : State) (w : Requester) : Acc :=
  let k := stagedOf s w 0x2E1003
  if ownerKey s = 0 ∧ k ≠ 0 then withStatus (putOwner s w k) w 0x2E1006 0 else withStatus s w 0x2E1006 1

/-- `TRANSFER`. -/
def ownerTransferCmd (s : State) (w : Requester) : Acc :=
  let k := stagedOf s w 0x2E1003
  if ownerKey s ≠ 0 ∧ ed448Verify 0 (ownerKey s) 57 k (stagedOf s w 0x2E1004) then withStatus (putOwner s w k) w 0x2E1006 0
  else withStatus s w 0x2E1006 1

/-! ## Certificate slots (R402) -/

/-- `INSTALL`: slot 1 only. -/
def certInstallCmd (s : State) (w : Requester) : Acc :=
  let v := stagedOf s w 0x2E0104
  if selVal s w 0x2E0101 ≠ 1 then withStatus s w 0x2E0106 2
  else if !Config.chainOk v ∨ 8192 < Config.chainLen v then withStatus s w 0x2E0106 1
  else withStatus ((setStaged s w 0x2E0104 0).onSecurity (fun x => { x with chain := (Config.chainLen v, v) })) w 0x2E0106 0

/-- `ERASE`: slot 1 only. -/
def certEraseCmd (s : State) (w : Requester) : Acc :=
  if selVal s w 0x2E0101 ≠ 1 then withStatus s w 0x2E0106 2
  else withStatus (s.onSecurity (fun x => { x with chain := (0, 0) })) w 0x2E0106 0

/-- A slot's chain: bytes and their number. -/
def certChain (s : State) (slot : Nat) : Nat × Nat :=
  if slot = 1 then s.security.chain else (Config.chainLen (Config.slot0Chain (fwMeasurement s)), Config.slot0Chain (fwMeasurement s))

/-! ## SPDM sessions (R298, R362, R403-R405) -/

/-- What the session on a port reads of the package (R403-R405). -/
def spdmView (s : State) (p : Nat) : Config.SpdmView :=
  { role := portRole s p, mutualAuth := cfg s 0x2E2001, minFw := cfg s 0x2E2002, chain := s.security.chain, fw := s.security.fwImage
    cfg := s.security.cfgImage, bootB := s.security.bootB, fwCounter := cfg s 0x2E1001, cfgCounter := cfg s 0x2E1002 }

/-- A session that fails a check ends (R405). -/
def refuseSession (s : State) (p session msg : Nat) : State :=
  let s1 := addErr (s.onSecurity (fun x => { x with
    sessions := x.sessions.del p
    holdoff := x.holdoff.put p (s.now + 1000000000) })) 0x2E2004 0 1
  post s1 0x0D33 none (pay [(1, p), (1, pbKind (peerParams s p)), (1, Config.spdmError (spdmView s p) session msg)])

/-- An SPDM message moves its port's session, and does to the link what it brings (R298, R405). -/
def spdmMoves (s : State) (p msg : Nat) : State :=
  let session := s.security.sessions.getD p 0
  let s1 := s.onSecurity (fun x => { x with sessions := x.sessions.put p (Config.spdmNext (spdmView s p) session msg) })
  match (Config.spdmOutcome (spdmView s p) session msg).val with
  | 1 => keysInstalled s1 p
  | 2 => refuseSession s1 p session msg
  | 3 => keysUpdated s1 p
  | _ => s1

/-- The message bytes of a `MGMT` `SPDM`. -/
def spdmBytes (m : Msg) : Nat := m.dataNat % 2 ^ (8 * mgLength m)

/-- The response to a `MGMT` `SPDM` (R362): the byte count in `result`[7:0]. -/
def spdmAnswer (s : State) (m : Msg) (x : Nat × Nat) : Msg :=
  let n := min 128 x.1
  { mkResp m stOk 0 (ownAgent s agentSteward) n 1 with
      opcode := opRespData, ext := 4, data := natSlots (x.2 % 2 ^ (8 * n)) 4 }

/-- The steward answers an SPDM request that arrived on a port. While a refused session's holdoff runs, no new attempt
starts (R405). While the steward is down none is answered (R369). -/
def spdmRequest (s : State) (via : Option Nat) (m : Msg) : State :=
  if s.power.steward ≠ 2 then s
  else
    let p := via.getD 256
    if s.security.holdoff.has p ∧ !s.security.sessions.has p then s
    else
      let msg := spdmBytes m
      let session := s.security.sessions.getD p 0
      spdmMoves (deliverResp s (spdmAnswer s m (Config.spdmRespond (spdmView s p) session msg)) via) p msg

/-- A response to an SPDM request of this ZX964: the session goes on with its next request. -/
def spdmResponse (s : State) (p : Nat) (m : Msg) : State :=
  if s.power.steward ≠ 2 ∨ !s.security.sessions.has p then s
  else
    let msg := m.dataNat % 2 ^ (8 * (m.result % 2 ^ 8))
    let session := s.security.sessions.getD p 0
    let s1 := spdmMoves s p msg
    if (Config.spdmOutcome (spdmView s p) session msg).val = 0 then sendSpdm s1 p (Config.spdmRespond (spdmView s p) session msg) else s1

/-- `SESSION_RETRY_HOLDOFF`: 1 s after a refused session a new attempt may start (R405). -/
def sessionRetry (s : State) (p : Nat) : State :=
  match s.security.holdoff.get? p with
  | some t =>
    let s1 := (reachTime s t).onSecurity (fun x => { x with holdoff := x.holdoff.del p })
    if linkState s1 p = lsSecure ∧ requestsSession s1 p then
      sendSpdm (s1.onSecurity (fun x => { x with sessions := x.sessions.put p 1 })) p (Config.spdmStart (peerParams s1 p))
    else s1
  | none => s

/-! ## Test access port (R429) -/

/-- Change the test access port. -/
def onJtag (s : State) (f : Jtag → Jtag) : State := s.onPower (fun x => { x with jtag := f x.jtag })

/-- `BYPASS`: the one-bit bypass register captures 0; nothing is driven. -/
def jtagBypassDo (s : State) : State := onJtag s (fun j => { j with ir := 0, dr := 0, driven := none })

/-- The 32 bits of `IDCODE`. -/
def idcode : Nat := pack [(1, 1), (11, Config.manufacturerCode.toNat), (16, 0x0964), (4, steppingCode)]

/-- `IDCODE`. -/
def jtagIdcodeDo (s : State) : State := onJtag s (fun j => { j with ir := 1, dr := idcode, driven := none })

/-- `SAMPLE/PRELOAD`: the boundary register takes the contacts' levels, and what is shifted in stays for `EXTEST`. -/
def jtagSampleDo (s : State) (pins : Nat) : State :=
  onJtag s (fun j => { j with ir := 2, dr := pins, boundary := pins, driven := none })

/-- `EXTEST`: takes the contacts only while `RESET_N` is asserted; otherwise it is `BYPASS`. -/
def jtagExtestDo (s : State) : State :=
  if s.power.resetLow then onJtag s (fun j => { j with ir := 3, dr := j.boundary, driven := some j.boundary })
  else onJtag s (fun j => { j with ir := 3, dr := 0, driven := none })

end Sys2Proof.Machine
end

