-- ==== Sys2Proof/Machine/Power.lean ====
section
/-! DEFINITION. Power input, power states, starts, resets and journals (R372-R397, R421-R436). -/

namespace Sys2Proof.Machine

/-! ## Power states (object 2D10.01) -/

abbrev pwOff : Nat := 0
abbrev pwFull : Nat := 1
abbrev pwTrim : Nat := 2
abbrev pwQuiet : Nat := 3
abbrev pwWatch : Nat := 4
abbrev pwStarting : Nat := 5
abbrev pwStalled : Nat := 6

/-- Whether local time counts and the timers of the data plane run (R375, R378, R396). -/
def clocked (s : State) : Bool :=
  s.power.losing.isNone && !s.power.halted &&
  (s.power.state == pwFull || s.power.state == pwTrim || s.power.state == pwQuiet || s.power.state == pwStarting)

/-- Whether the device is in `FULL` or `TRIM` and runs. -/
def inService (s : State) : Bool :=
  s.power.losing.isNone && !s.power.halted && (s.power.state == pwFull || s.power.state == pwTrim)

/-- Whether the steward's firmware runs (R356, R369). -/
def stewardUp (s : State) : Bool :=
  s.power.steward == 2 && !s.power.halted && s.power.losing.isNone

/-! ## The cap in force (R373, R374, R435) -/

/-- What the running power stages deliver together. -/
def stageTotal (s : State) : Nat := 700 * (setBitList (cfg s 0x2D0003) 4).length

/-- Object 2D01.03: the smallest of the cap, the stages' total, and 1,400 W while the throttle holds (R435). -/
def capInForce (s : State) : Nat :=
  min (min (cfg s 0x2D0101) (stageTotal s)) (if s.power.throttle.isEmpty then 2 ^ 16 - 1 else 1400)

/-- `POWER_CAP_STEP`: the mean input power over 100 µs (R374). 0x0D03 is posted at most once per 1,024 periods. -/
def powerCapStep (s : State) (watts : Nat) : State :=
  if !inService s then s
  else
    let s1 := setObj s 0x2D0002 0 watts
    let cap := capInForce s1
    let r := s1.power.rate
    let r1 := if cap < watts then r - 1 else if 100 * watts < 95 * cap then min 16 (r + 1) else r
    let s2 := s1.onPower (fun p => { p with rate := r1 })
    let s3 := if r1 < 16 then addStat s2 0x2D0102 0 100 else s2
    let due : Bool := match s3.power.cappedAt with | none => true | some p => decide (p + 1024 ≤ periodOf s3.now)
    if cap < watts ∧ due then
      post (s3.onPower (fun p => { p with cappedAt := some (periodOf s3.now) })) 0x0D03 none (pay [(2, cap), (1, r1)])
    else s3

/-! ## Journals (R393-R396) -/

/-- The error log and the score journal are written (R396 step 4). -/
def writeJournals (s : State) : State :=
  s.onPower (fun p => { p with
    journalOld := p.journal
    journal := s.health.scores
    journalBad := false
    errorLog := s.dict.log })

/-- `SCORE_JOURNAL_PERIOD`: the island writes the score journal (R393). -/
def journalPeriod (s : State) : State :=
  if !clocked s then s
  else
    (reachTime s s.power.journalAt).onPower (fun p => { p with
      journalOld := p.journal
      journal := s.health.scores
      journalAt := p.journalAt + 3600000000000 })

/-! ## The save area (R386) -/

/-- A save: registers, tables and pair; `kept` where the stacks enter self-refresh after it. -/
def saveArea (s : State) (kept : Bool) : State :=
  s.onPower (fun p => { p with
    saveValid := setBits (setBits (setBits p.saveValid 0 1 1) 3 1 1) 4 1 (b2n kept)
    saveFw := fwVersion s
    saveCount := inc32 p.saveCount })

/-! ## What starts and low states clear (R238, R382, R389) -/

/-- Objects that a cold start leaves alone: package flash, straps, the start record, and what sensors and detectors
show. -/
def lastingObjects : List Nat :=
  [0x2B1006, 0x2D5001, 0x2E1001, 0x2E1002, 0x2E1003, 0x2C1001, 0x2D0001, 0x2D0002, 0x2D0003, 0x2D0004, 0x2D0005, 0x2D0006,
   0x2D3003, 0x215103, 0x215105, 0x216002, 0x216102]

/-- What a device-cold reset leaves (R238): package flash, the save area and the world outside. Local time restarts
at 0 (R375). -/
def coldClear (s : State) : State :=
  { State.reset with
    free := s.free
    pending := s.pending
    dict := { Dict.reset with
      objs := s.dict.objs.filter (fun x => lastingObjects.contains (x.1 / 2 ^ 64))
      answers := s.dict.answers
      emcy := s.dict.emcy
      nextStart := s.dict.nextStart
      watchdog := none }
    power := { s.power with rate := 16, cappedAt := none, journalAt := 3600000000000, shake := none }
    security := { s.security with
      building := [], recovery := (0, 0), keyOps := [], sessions := [], holdoff := [], fwImage := none, cfgImage := none
      cfgApplied := false } }

/-- A warm start that does not keep stack contents clears the same, except the save area, which holds the pair epoch, the
side and the quarantine list, and the decode-table slots with their generations (R135, R323, R386, R389). A quarantined
ZX964 stays so. -/
def warmClear (s : State) : State :=
  ((coldClear s).onCodec (fun c => { c with slots := if bit s.power.saveValid 3 then s.codec.slots.mapV (fun _ d => { d with loading := none, loader := none }) else c.slots })).onTwin (fun t => { t with
    epoch := s.twin.epoch
    side := s.twin.side
    quarantine := s.twin.quarantine
    pair := if s.twin.pair = psQuarantined then psQuarantined else t.pair })

/-- Whether a reduce slot has an open round. -/
def openSlots (s : State) : List Nat := (usedSlots s).filter (openRound s)

/-- What `QUIET` and a device-warm reset take from compute and search (R168, R222, R238, R382). -/
def gateLogic (s : State) : State :=
  let s1 := unloadParts (wipeCompute s)
  s1.onCompute (fun x => { x with
    slots := x.slots.mapV (fun _ r => { r with lines := [], opened := none, openedNext := none })
    offers := [] })

/-- Requests that a device-warm reset leaves unanswered: they end at their attached ZX964s (R391). -/
def dropRequests (s : State) : State :=
  (s.onHome (fun h => { h with
    groups := [], txns := [], waiters := [], dwells := [], reserved := [], timedOut := [], ringQ := []
    ledger := h.ledger.keep (fun _ e => decide (e.state ≠ 0)) })).onTwin (fun t => { t with
    held := t.held.filter (fun x => match x.2 with | .txn _ => false | .reduced _ _ => false | _ => true) })

/-- A port goes `DARK` in `QUIET` (R382): transmitters off. -/
def darken (s : State) (p : Nat) : State :=
  let st := linkState s p
  if st = lsDisabled ∨ st = lsFault ∨ st = lsDark then s
  else if portDown s p then enterLink (dropLink s p) p lsDark
  else linkDown s p lcCommand lsDark

/-- Host and tray ports go `DARK`. -/
def darkenEdge (s : State) : State :=
  (((listed s 0x212007).map Prod.fst).filter (fun p => decide (portRole s p < 2))).foldl darken s

/-- The state is entered: event 0x0D10. -/
def enterPower (s : State) (st : Nat) : State :=
  post (s.onPower (fun p => { p with state := st, shake := none })) 0x0D10 none (pay [(1, st)])

/-- Entry to `QUIET` (R382). -/
def enterQuiet (s : State) : State :=
  darkenEdge (gateLogic (enterPower (saveArea s true) pwQuiet))

/-- Entry to `WATCH` (R383): the stacks lose their contents, every logical port is disabled. -/
def enterWatch (s : State) : State :=
  let s1 := ((listed s 0x212007).map Prod.fst).foldl portDisable (saveArea s false)
  let s2 := (enterPower (gateLogic s1) pwWatch).onTier (fun t => { t with mem := [], poison := [] })
  s2.onPower (fun p => { p with steward := 0, watchSeen := [], watchPresent := [], watchHot := false })

/-- The device is `OFF`: the always-on memory, with the save area and the start record, has lost what it held (R386, R390, the
rails table of 14). -/
def powerOff (s : State) : State :=
  (setObj s 0x2D3003 0 0).onPower (fun p => { p with
    state := pwOff, losing := none, shake := none, start := none, steward := 0, halted := false
    saveValid := 0, failWarm := 0, failCold := 0, failures := [] })

/-- Entry to `OFF` by command: the journals, then the power stages stop. -/
def enterOff (s : State) : State := powerOff (writeJournals s)

/-! ## Beginning a start (R387, R391, R392, R400) -/

/-- The first step of a start begins. -/
def beginStart (s : State) (kind cause : Nat) : State :=
  s.onPower (fun p => { p with
    state := pwStarting, start := some { kind := kind, cause := cause, step := 1 }, shake := none, steward := 0
    stewardCause := none, losing := none, halted := false })

/-- A cold start: everything is cleared, and object 2B10.06 counts it (R400). -/
def startCold (s : State) (cause : Nat) : State := beginStart (addSeq (coldClear s) 0x2B1006 0 1) 0 cause

/-- A warm start: what R388 asks is checked when step 1 has read the sensors. A catch-up ends here (R336). -/
def startWarm (s : State) (kind cause : Nat) : State :=
  (beginStart (abortCatchup s) kind cause).onSecurity (fun x => { x with cfgApplied := false })

/-- The device-warm reset of `WARM_RESET` (R391). -/
def doWarmReset (s : State) : State :=
  let s1 := (openSlots s).foldl (breakSlot 1) (saveArea s true)
  startWarm (darkenEdge (dropRequests (gateLogic s1))) 1 3

/-- `INPUT_POWER_UP` (R372, R379): the input has stayed above 44 V. A power-loss sequence that did not reach its commit
record leaves an incomplete journal, and its duration is open (R395; log entry 5). -/
def inputPowerUp (s : State) : State :=
  let s1 := if s.power.losing.isSome then
      let x := drawFree s
      (powerOff x.2).onPower (fun p => { p with
        lost := true, journalBad := true, journalOld := p.journal
        lossReport := some ((Config.freeWord x.1).toNat % 2 ^ 32) })
    else s
  if s1.power.state = pwOff then
    startCold s1 (if s1.power.lost then 9 else 0)
  else s1

/-- `RESET_CONTACT`: `RESET_N` asserted for 10 µs and released (R379, R423). Out of `OFF` it lets the input start the
device. -/
def resetContact (s : State) : State :=
  if s.power.losing.isSome then s
  else
    let cause := if s.power.state ≠ pwOff then 1 else if s.power.lost then 9 else 0
    (startCold s cause).onPower (fun p => { p with resetLow := true })

/-- `ISLAND_BROWN_OUT` (R384): a cold reset with cause 7; the always-on memory is invalid. -/
def brownOut (s : State) : State :=
  if s.power.state = pwOff ∨ s.power.losing.isSome then s
  else
    startCold ((setObj s 0x2D3003 0 0).onPower (fun p => { p with
      brownOut := true, saveValid := 0, failWarm := 0, failCold := 0, failures := [] })) 7

/-! ## Power loss (R372, R373, R395, R396, R424, R436) -/

/-- The power-loss sequence begins: nothing is admitted, sent or kept from then on (R396). -/
def beginLoss (s : State) : State :=
  if s.power.state = pwOff ∨ s.power.losing.isSome then s
  else (addSeq s 0x2D5001 0 1).onPower (fun p => { p with losing := some s.now, shake := none })

/-- `PGOOD_LOW`: sampled from the end of start step 1 (R424). -/
def pgoodLow (s : State) : State :=
  match s.power.start with
  | some st => if s.power.state = pwStarting ∧ st.step = 1 then s else beginLoss s
  | none => beginLoss s

/-- `POWER_LOSS_WRITES_COMPLETE`: the commit record is written; the device is `OFF` (R395, R396). -/
def lossComplete (s : State) (us : Nat) : State :=
  if s.power.losing.isSome then
    (powerOff (writeJournals s)).onPower (fun p => { p with lost := true, lossReport := some us })
  else s

/-- `POWER_STAGE_FAILURE` (R373): the stage is switched out; with one left the power-loss sequence begins. -/
def stageFailure (s : State) (stage : Nat) : State :=
  if s.power.state ≠ pwOff ∧ stage < 4 ∧ bit (cfg s 0x2D0003) stage then
    let s1 := setObj s 0x2D0003 0 (setBits (cfg s 0x2D0003) stage 1 0)
    let s2 := post s1 0x0D02 none (pay [(1, stage), (2, capInForce s1)])
    if (setBitList (cfg s2 0x2D0003) 4).length ≤ 1 then beginLoss s2 else s2
  else s

/-! ## Reference clocks (R378, R428) -/

/-- `REFERENCE_LOSS`: the 100 MHz reference is absent for 10 µs: the device halts; `WATCH` and `OFF` do not use it. -/
def referenceLoss (s : State) : State :=
  if s.power.state = pwOff ∨ s.power.state = pwWatch ∨ s.power.losing.isSome then s
  else s.onPower (fun p => { p with halted := true, shake := none })

/-- `REFERENCE_RETURN`: a halted device makes a cold start with cause 8. -/
def referenceReturn (s : State) : State := if s.power.halted ∧ s.power.losing.isNone then startCold s 8 else s

/-- One link loses its light-engine clock (R378). -/
def lose156 (s : State) (p : Nat) : State :=
  let st := linkState s p
  if st = lsDisabled ∨ st = lsFault ∨ st = lsDark then s
  else if portDown s p then enterLink (dropLink s p) p lsDark
  else linkDown s p lcPresence lsDark

/-- `REFERENCE_156_LOSS`: every link goes down with cause `PRESENCE`. -/
def reference156Loss (s : State) : State :=
  ((listed s 0x212007).map Prod.fst).foldl lose156 (s.onPower (fun p => { p with ref156 := false }))

/-- Every `DARK` port tries to train. -/
def wakeDark (s : State) : State := ((listed s 0x212007).map Prod.fst).foldl tryDark s

/-- `REFERENCE_156_RETURN`: the links return under R285. -/
def reference156Return (s : State) : State := wakeDark (s.onPower (fun p => { p with ref156 := true }))

/-! ## Thermal limits (R435, R436) -/

/-- The object in which a sensor class is read. -/
def sensorObj (s : State) (cls item : Nat) (t : Int) : State :=
  if cls = 0 then setObj s 0x2D0004 0 (i32 t) else if cls = 1 then setObj s 0x2D0005 0 (i32 t) else setObj s 0x216102 item (i32 t)

/-- Throttle temperature of a sensor class, in 0.01 °C. -/
def throttleAt (cls : Nat) : Int := if cls = 0 then 10000 else if cls = 1 then 9500 else 7500

/-- Trip temperature of a sensor class, in 0.01 °C. -/
def tripAt (cls : Nat) : Int := throttleAt cls + 1000

/-- `THERMAL_THROTTLE`: a sensor reaches its throttle temperature (R435). -/
def thermalThrottle (s : State) (cls item : Nat) (t : Int) : State :=
  if cls < 3 ∧ throttleAt cls ≤ t ∧ s.power.state ≠ pwOff ∧ s.power.state ≠ pwWatch then
    let s1 := sensorObj s cls item t
    let s2 := (setObj s1 0x2D0006 0 (setBits (cfg s1 0x2D0006) 0 1 1)).onPower (fun p => { p with
      throttle := if p.throttle.contains (cls, item) then p.throttle else p.throttle ++ [(cls, item)] })
    post s2 0x0D40 none (pay [(1, cls), (1, item), (4, i32 t), (2, capInForce s2)])
  else s

/-- `THERMAL_THROTTLE_END`: every sensor has stayed 5 K below its throttle temperature for 100 ms (R435). -/
def throttleEnd (s : State) : State :=
  (setObj s 0x2D0006 0 (setBits (cfg s 0x2D0006) 0 1 0)).onPower (fun p => { p with throttle := [] })

/-- `THERMAL_TRIP`: steps 2 to 4 of the power-loss sequence (R436); in `WATCH` the island's wake applies instead. -/
def thermalTrip (s : State) (cls item : Nat) (t : Int) : State :=
  if cls < 3 ∧ tripAt cls ≤ t ∧ s.power.state ≠ pwOff ∧ s.power.state ≠ pwWatch ∧ s.power.losing = none then
    let s1 := sensorObj s cls item t
    beginLoss ((setObj s1 0x2D0006 0 (setBits (cfg s1 0x2D0006) 1 1 1)).onPower (fun p => { p with tripped := some (cls, item, t) }))
  else s

/-! ## `WATCH` (R384, R385) -/

/-- A wake: a warm start when R388 allows; 0x0D12 is posted at its end. Source: 0 presence, 1 temperature, 2 CAN. -/
def wakeUp (s : State) (source port : Nat) : State := (startWarm s 2 5).onPower (fun p => { p with wake := some (source, port) })

/-- `WATCH_WAKE_PERIOD`: one sampling of the island: the received power of lanes, by physical port and lane, and the die
temperature. A sampled port is at its threshold when every lane of it is (R284, R385). -/
def watchPeriod (s : State) (readings : List (Nat × Int)) (temp : Int) : State :=
  if s.power.state ≠ pwWatch then s
  else
    let sampled := setBitList (cfg s 0x2D2004) 256
    let at' : Nat → Nat → Bool := fun f l =>
      (readings.find? (fun r => decide (r.1 = laneKey f l))).any (fun r => powerPresent s f l r.2)
    let seen := sampled.filter (fun p => (portLanes s p).all (at' (physOf p)))
    let here := seen.filter (fun p => s.power.watchSeen.contains p)
    let fresh := here.filter (fun p => !s.power.watchPresent.contains p)
    let hot := decide (sint (cfg s 0x2D2005) 32 < temp)
    let rises := hot && !s.power.watchHot
    let s0 := (readings.filter (fun r => sampled.any (fun p => (portLanes s p).any (fun l => decide (laneKey (physOf p) l = r.1))))).foldl
      (fun s r => setObj s 0x215103 r.1 (i32 r.2)) s
    let s1 := (setObj s0 0x2D0004 0 (i32 temp)).onPower (fun p => { p with watchSeen := seen, watchPresent := here, watchHot := hot })
    let s2 := sampled.foldl (fun s p => (portLanes s p).foldl (fun s l =>
      putPresence s (physOf p) l (here.contains p)) s) s1
    match fresh with
    | p :: _ =>
      if bit (cfg s2 0x2D2002) 0 then wakeUp s2 0 p
      else if rises ∧ bit (cfg s2 0x2D2002) 1 then wakeUp s2 1 0
      else pushCan s2 0x0D13 none (pay [(4, i32 temp)])
    | [] =>
      if rises then (if bit (cfg s2 0x2D2002) 1 then wakeUp s2 1 0 else pushCan s2 0x0D13 none (pay [(4, i32 temp)])) else s2

/-- Peak draw of the island in mA, rounded up (object 2D20.06, R384): 47.2 mA and 2.5 mA for each detector of a group. -/
def islandPeak (s : State) : Nat := ceilDiv (472 + 25 * cfg s 0x2D2003) 10

/-! ## The steward die (R369, R371) -/

/-- The steward die restarts alone. Cause: 0 watchdog, 1 command, 2 die fault. -/
def stewardRestartDo (s : State) (cause : Nat) : State :=
  (addSeq s 0x2C3004 0 1).onPower (fun p => { p with steward := 4, stewardCause := some cause })
    |>.onDict (fun d => { d with watchdog := none })

/-- `STEWARD_WATCHDOG_EXPIRY`. -/
def watchdogExpiry (s : State) : State :=
  match s.dict.watchdog with
  | some t => if stewardUp s then stewardRestartDo (reachTime s t) 0 else s
  | none => s

/-- `STEWARD_DIE_FAULT`. -/
def stewardFault (s : State) : State := if s.power.steward = 2 ∨ s.power.steward = 1 then stewardRestartDo s 2 else s

/-- The watchdog's next deadline. -/
def armWatchdog (s : State) : State := s.onDict (fun d => { d with watchdog := some (s.now + 1000000 * cfg s 0x2C3001) })

/-- A write of object 2C30.05. -/
def aliveWrite (s : State) : State := if stewardUp s then armWatchdog s else s

/-- The monitor takes over (R371): event 0x0C02. Cause: 0 verification, 1 `STALLED`, 2 command. -/
def enterRecoveryDo (s : State) (cause : Nat) : State :=
  post ((s.onPower (fun p => { p with steward := 3, stewardCause := none })).onDict (fun d => { d with watchdog := none }))
    0x0C02 none (pay [(1, cause)])

/-- Steward-class selectors and status objects return to their defaults (R369). -/
def clearSteward (s : State) : State :=
  s.onDict (fun d => { d with
    sel := d.sel.filter (fun x => decide (x.1 / 2 ^ 24 ≠ Requester.key .steward))
    status := d.status.filter (fun x => decide (x.1 / 2 ^ 24 ≠ Requester.key .steward)) })

/-- The firmware runs: its watchdog is armed. -/
def stewardRuns (s : State) : State :=
  armWatchdog ((clearSteward s).onPower (fun p => { p with steward := 2, stewardCause := none }))

/-- What waited for the steward is applied, oldest first (R369). -/
def applyWaiting (wr : State → Access → State) (s : State) : State :=
  s.dict.stewardWait.foldl wr (s.onDict (fun d => { d with stewardWait := [] }))

/-- `STEWARD_RUNNING`: 0x0C01, and 0x0801 again for every itinerary in `CHECKING` (R369). -/
def stewardRunningDo (wr : State → Access → State) (s : State) : State :=
  if s.power.steward = 4 then
    let s1 := post (stewardRuns s) 0x0C01 none (pay [(1, s.power.stewardCause.getD 0)])
    let s2 := (s1.compute.itins.filter (fun x => decide (x.2.state = 2))).foldl (fun s x =>
      post s 0x0801 (some (itComp x.2.desc)) (pay [(1, x.1), (4, itCount x.2.desc)])) s1
    applyWaiting wr s2
  else s

/-! ## Failed starts (R390) -/

/-- A start holds in `STALLED`: only the CAN server and the monitor answer. -/
def stall (s : State) (cause : Nat) : State :=
  let s1 := s.onPower (fun p => { p with state := pwStalled, start := none })
  enterRecoveryDo (s1.onSecurity (fun x => { x with cfgApplied := false })) cause

/-- The payload of event 0x0D20 for a failure as object 2D30.03 holds it. -/
def failPayload (f : Nat) : Nat := pay [(1, bits f 0 2), (1, bits f 8 8), (1, bits f 16 16)]

/-- A start fails in its present step, with a detail: 1 limit, 2 self-test, 3 training, 4 key derivation, 5 verification,
6 image (R390). In the error log the failure is the record of its event 0x0D20 (DESIGN CHOICE, log entry 122). -/
def failStart (s : State) (st : Start) (detail : Nat) : State :=
  let rec_ := st.kind + 2 ^ 8 * st.step + 2 ^ 16 * detail
  let s1 := (setObj s 0x2D3003 0 rec_).onPower (fun p => { p with
    failures := p.failures ++ [rec_]
    errorLog := latest 2048 (p.errorLog ++ [mkEvent s s.dict.stewardSeq 0x0D20 none (failPayload rec_) false])
    failWarm := if st.kind = 0 then p.failWarm else p.failWarm + 1
    failCold := if st.kind = 0 then p.failCold + 1 else p.failCold })
  if st.step = 2 ∧ detail = 5 then stall s1 0
  else if st.kind ≠ 0 then (if 3 ≤ s1.power.failWarm then startCold s1 6 else beginStart s1 st.kind st.cause)
  else if 3 ≤ s1.power.failCold then post (stall s1 1) 0x0D21 none (pay [(1, 1)])
  else startCold s1 st.cause

/-- `START_STEP_FAILED`. -/
def stepFailed (s : State) (detail : Nat) : State :=
  match s.power.start with
  | some st => if s.power.losing.isNone ∧ !s.power.halted ∧ 1 ≤ detail ∧ detail ≤ 6 then failStart s st detail else s
  | none => s

/-! ## Start steps (R387-R389) -/

/-- Whether R388 allows a warm start. -/
def warmAllowed (s : State) (i : StartInfo) : Bool :=
  let w : Int := cfg s 0x2D3005
  let near : Int → Int → Bool := fun a b => decide (a - b ≤ w) && decide (b - a ≤ w)
  bit s.power.saveValid 0 && bit s.power.saveValid 1 && bit s.power.saveValid 2 &&
  decide (s.power.saveFw = versionOf s 1 (bootImage s 1)) && near i.stackTemp s.power.trainTemp &&
  near i.engineTemp s.power.calTemp && decide (s.power.failWarm < 3)

/-- Writes that commit at the next start take effect (R354). -/
def commitNext (s : State) : State :=
  s.dict.nextStart.foldl (fun s a => setObj s (a.idx * 256 + a.sub) 0 a.value) (s.onDict (fun d => { d with nextStart := [] }))

/-- Step 1: straps, the brown-out latch, and for a warm start R388 (R387, R422). -/
def stepOne (s : State) (st : Start) (i : StartInfo) : State × Start :=
  let s1 := (setObj s 0x2C1001 0 (i.node % 128)).onSecurity (fun x => { x with bootB := i.bootB })
  let s2 := s1.onPower (fun p => { p with
    resetLow := false, brownOut := false, saveValid := if i.brownOut then 0 else p.saveValid })
  let s3 := if i.node % 128 = 0 then post s2 0x0C21 none (pay [(1, 0)]) else s2
  if st.kind = 0 then (commitNext s3, { st with step := 2 })
  else if !warmAllowed s3 i then (commitNext (addSeq (coldClear s3) 0x2B1006 0 1), { st with kind := 0, step := 2 })
  else if st.kind = 1 ∧ bit s3.power.saveValid 4 then (commitNext s3, { st with step := 2 })
  else (commitNext (warmClear s3), { st with kind := 2, step := 2 })

/-- Step 5: training and calibration write their results, with the light engines whose calibration fails; a warm start loads
them (R386, R387, R390). -/
def stepFive (s : State) (kind : Nat) (i : StartInfo) : State :=
  let s1 := if kind = 0 then s.onPower (fun p => { p with
      saveValid := setBits p.saveValid 1 2 3, trainTemp := i.stackTemp, calTemp := i.engineTemp, badEngines := i.badEngines }) else s
  (List.range 16).foldl (fun s e => setObj s 0x216103 e (b2n !(s.power.badEngines.contains e))) s1

/-- Step 6: tables are clear, lines are fresh; the error log is read, and the scores come from the journal (R387, R395). -/
def stepSix (s : State) : State :=
  (s.onHealth (fun h => { h with scores := if s.power.journalBad then s.power.journalOld else s.power.journal })).onDict
    (fun d => { d with log := latest 2048 (s.power.errorLog ++ d.log) })

/-- A cold start leaves the ports of a light engine that failed calibration in `FAULT`, where the image enables them (R390);
the cause list names none for it (log entry 122). -/
def faultEngines (s : State) : State :=
  ((listed s 0x212007).filter (fun x => decide (x.2 = lsDark) && s.power.badEngines.contains (physOf x.1 / 4))).foldl
    (fun s x => linkFault s x.1 0) s

/-- What the wrapped keys of the metadata reservation unwrap to; none where one fails its integrity check (R414). -/
def unwrapKeys (s : State) : Option (SMap Nat) :=
  s.comps.wrapped.foldr (fun x r => match keyUnwrap (wrapKey (cfg s 0x2B1006)) 12 x.2, r with
    | some v, some l => some ((x.1, v) :: l)
    | _, _ => none) (some [])

/-- Step 2: a warm start that keeps stack contents unwraps the composition keys (R414); the strapped firmware is verified (R399,
R408): the state, or the detail of the failure. -/
def stepTwo (s : State) (kind : Nat) : State ⊕ Nat :=
  let im := bootImage s 1
  let bad := im.any (fun x => decide (verifyImage s x ≠ 0))
  match if kind = 1 then unwrapKeys s else some s.comps.keys with
  | none => .inr 4
  | some ks => if bad then .inr 5 else .inl ((s.onComps (fun k => { k with keys := ks })).onSecurity (fun x => { x with fwImage := im }))

/-- A record of a configuration image (R370), and the rest of the payload. -/
def imageRecord (v : Nat) : Access × Nat :=
  let len := bits v 32 16
  ({ who := .steward, idx := bits v 0 16, sub := bits v 16 8, len := len, value := bits v 64 (8 * len) }, 8 + 8 * ceilDiv len 8)

/-- Apply the records of an image in order; none when one ends with an access error (R370). -/
def applyRecords (wr : State → Access → Nat × State) : Nat → Nat → Nat → State → Option State
  | 0, _, _, s => some s
  | n + 1, v, left, s =>
    if left < 8 then some s
    else
      let x := imageRecord v
      let y := wr s x.1
      if y.1 ≠ aeOk then none else applyRecords wr n (v / 2 ^ (8 * x.2)) (left - x.2) y.2

/-- Step 7: the configuration image is verified and applied (R370, R408): the state, or the detail of the failure. -/
def stepSeven (wr : State → Access → Nat × State) (s : State) : State ⊕ Nat :=
  let im := bootImage s 2
  let s1 := s.onSecurity (fun x => { x with cfgImage := im, cfgApplied := true })
  match im with
  | none => .inl s1
  | some x =>
    if verifyImage s x ≠ 0 then .inr 5
    else
      match applyRecords wr (ihPayload x.2 / 8) (imagePayload x.2) (ihPayload x.2) s1 with
      | some s2 => .inl s2
      | none => .inr 6

/-- A counter is raised to the security version in force: 0x0D32 (R409). -/
def raiseCounter (s : State) (o kind v : Nat) : State :=
  if cfg s o < v then post (setObj s o 0 v) 0x0D32 none (pay [(1, kind), (4, v)]) else s

/-- Events that a start posts on reaching `FULL` besides 0x0D01 (R385, R390, R395, R436). -/
def startReports (s : State) (p : Power) : State :=
  let s1 := p.failures.foldl (fun s f => post s 0x0D20 none (failPayload f)) s
  let s2 := match p.wake with | some w => post s1 0x0D12 none (pay [(1, w.1), (1, w.2)]) | none => s1
  let s3 := match p.lossReport with | some d => post (setObj s2 0x2D5002 0 d) 0x0D23 none (pay [(4, d)]) | none => s2
  let s4 := if p.journalBad then post (addErr s3 0x2D5003 0 1) 0x0D22 none 0 else s3
  match p.tripped with
  | some (c, i, t) => post (setObj s4 0x2D0006 0 (setBits (cfg s4 0x2D0006) 1 1 0)) 0x0D41 none (pay [(1, c), (1, i), (4, i32 t)])
  | none => s4

/-- The pair state with which a start that kept no stack contents ends (R313, R331). -/
def startPair (s : State) (kind : Nat) : State :=
  if kind = 1 ∨ s.twin.pair = psQuarantined then s
  else s.onTwin (fun t => { t with pair := if cfg s 0x2B0005 = 1 then psSpare else psUnpaired })

/-- A woken spare enables its twin ports (R331). -/
def spareTwins (s : State) (cause : Nat) : State :=
  if s.twin.pair = psSpare ∧ cause = 5 then
    (((listed s 0x212004).filter (fun x => decide (x.2 = roleTwin))).map Prod.fst).foldl portEnable s
  else s

/-- Step 8: the device is in `FULL`; suspended timers restart from 0 (R381, R387). -/
def reachFull (s : State) (st : Start) (ms : Nat) : State :=
  let p := s.power
  let s1 := (startPair s st.kind).onPower (fun q => { q with
    state := pwFull, start := none, lastStart := st.kind + 2 ^ 8 * st.cause, failWarm := 0, failCold := 0, failures := []
    wake := none, lossReport := none, journalBad := false, tripped := none, lost := false })
  let s2 := post (setObj s1 0x2D3004 0 ms) 0x0D01 none (pay [(1, st.kind), (1, st.cause), (4, ms), (4, p.failures.length)])
  let s3 := startReports s2 p
  let s4 := raiseCounter (raiseCounter s3 0x2E1001 1 (securityOf s3.security.fwImage)) 0x2E1002 2 (securityOf s3.security.cfgImage)
  let s5 := (s4.onHome (fun h => { h with hostDown := h.hostDown.mapV (fun _ _ => s.now) })).onTier (fun t => { t with
    down := t.down.mapV (fun _ _ => s.now) })
  let s5 := ((listed s5 0x212004).map Prod.fst).foldl watchTray s5
  wakeDark (if st.kind = 0 then faultEngines (spareTwins s5 st.cause) else spareTwins s5 st.cause)

/-- The next step of a start. -/
def putStart (s : State) (st : Start) : State := s.onPower (fun p => { p with start := some st })

/-- `START_STEP_COMPLETE`: the present step is done within its limit. -/
def stepComplete (wr : State → Access → Nat × State) (s : State) (i : StartInfo) : State :=
  match s.power.start with
  | some st =>
    if s.power.losing.isSome ∨ s.power.halted then s
    else
      let next := { st with step := st.step + 1 }
      match st.step with
      | 1 =>
        let x := stepOne s st i
        putStart (x.1.onPower (fun p => { p with steward := 1 })) x.2
      | 2 =>
        (match stepTwo s st.kind with
         | .inl s1 => putStart s1 next
         | .inr d => failStart s st d)
      | 3 => putStart (applyWaiting (fun s a => (wr s a).2) (stewardRuns s)) next
      | 5 => putStart (stepFive s st.kind i) next
      | 6 => putStart (if st.kind = 1 then s else stepSix s) next
      | 7 =>
        if st.kind = 1 then putStart s next
        else
          match stepSeven wr s with
          | .inl s1 => putStart s1 next
          | .inr d => failStart s st d
      | 8 => reachFull s st i.durationMs
      | _ => putStart s next
  | none => s

/-! ## The entry handshake (R380) -/

/-- Whether a steward-class command still reads `BUSY`. -/
def stewardBusy (s : State) : Bool :=
  [0x260004, 0x291004, 0x2A1004, 0x2E1204].any (fun o => decide (statusOf s .steward o = 1))

/-- The first block that refuses a target, with its reason. -/
def shakeRefusal (s : State) (target : Nat) : Option (Nat × Nat) :=
  let deep := decide (target = pwWatch) || decide (target = 5)
  if deep && !(upPorts s roleTrunk ++ upPorts s roleTwin).isEmpty then some (0x01, 1)
  else if deep && s.home.exts.any (fun x => decide (x.2.state ≠ 0) && homedHere s (x.2.base * 512)) then some (0x04, 1)
  else if (tierComps s).any (aboveThreshold s) then some (0x05, 1)
  else if s.twin.pair = psSend ∨ s.twin.pair = psRecv ∨ s.twin.pair = psHolding ∨ s.twin.pair = psSync then some (0x0B, 1)
  else none

/-- The first block that delays. -/
def shakeDelay (s : State) : Option Nat :=
  if !s.tm.hostReqs.isEmpty then some 0x03
  else if !s.home.txns.isEmpty || !s.home.walk.isEmpty then some 0x04
  else if !s.tier.reqs.isEmpty || !s.tier.flushes.isEmpty || !s.tier.reissue.isEmpty ||
      s.tier.tiles.any (fun x => decide (x.2.state = .filling) || decide (x.2.state = .evicting)) then some 0x05
  else if !(openSlots s).isEmpty then some 0x07
  else if s.compute.cores.any (fun x => !x.2.queue.isEmpty) then some 0x08
  else if s.search.parts.any (fun x => !x.2.queue.isEmpty) then some 0x09
  else if stewardBusy s then some 0x0C
  else none

/-- Results of object 2D10.04. -/
abbrev tsDone : Nat := 0
abbrev tsBusy : Nat := 1
abbrev tsRefused : Nat := 2
abbrev tsTimedOut : Nat := 3
abbrev tsBadState : Nat := 4

/-- A handshake starts: every block is asked (R380). -/
def startShake (s : State) (w : Requester) (target : Nat) : Acc :=
  withStatus (s.onPower (fun p => { p with
    shake := some { target := target, deadline := s.now + 1000000 * cfg s 0x2D1005, who := w } })) w 0x2D1004 tsBusy

/-- The move that a handshake was for. -/
def completeShake (s : State) (h : Shake) : State :=
  let s1 := setStatus s h.who 0x2D1004 tsDone
  if h.target = 3 then enterQuiet s1
  else if h.target = 4 then enterWatch s1
  else if h.target = 5 then enterOff s1
  else doWarmReset s1

/-- A handshake is abandoned; a warm reset goes on all the same (R380, R391). -/
def abandonShake (s : State) (h : Shake) (block reason timedOut : Nat) : State :=
  let s1 := setObj (s.onPower (fun p => { p with shake := none })) 0x2D1006 0 (block + 2 ^ 8 * reason)
  if h.target = 6 then completeShake s1 h
  else
    post (setStatus s1 h.who 0x2D1004 (if timedOut = 1 then tsTimedOut else tsRefused)) 0x0D11 none
      (pay [(1, h.target), (1, block), (1, reason), (1, timedOut)])

/-- The target whose blocks are asked: a warm reset asks as for `QUIET` (R391). -/
def Shake.asks (h : Shake) : Nat := if h.target = 6 then 3 else h.target

/-- `HANDSHAKE_ACCEPTED`: every block accepts. -/
def shakeAccepted (s : State) : State :=
  match s.power.shake with
  | some h => if (shakeRefusal s h.asks).isNone ∧ (shakeDelay s).isNone then completeShake s h else s
  | none => s

/-- `HANDSHAKE_REFUSED`: a block refuses. -/
def shakeRefused (s : State) : State :=
  match s.power.shake with
  | some h =>
    match shakeRefusal s h.asks with
    | some x => abandonShake s h x.1 x.2 0
    | none => s
  | none => s

/-- `HANDSHAKE_TIMEOUT`: a block still delays after object 2D10.05. -/
def shakeTimeout (s : State) : State :=
  match s.power.shake with
  | some h =>
    match shakeRefusal s h.asks, shakeDelay s with
    | none, some b => abandonShake (reachTime s h.deadline) h b 0 1
    | _, _ => s
  | none => s

/-! ## Commands (R379) -/

/-- A command that the table does not list, or that comes while a handshake runs. -/
def powerGuard (s : State) (w : Requester) (ok : Bool) (f : Unit → Acc) : Acc :=
  if s.power.shake.isSome then withStatus s w 0x2D1004 tsBusy
  else if s.power.losing.isSome ∨ s.power.halted ∨ !ok then withStatus s w 0x2D1004 tsBadState
  else f ()

/-- `FULL` stops the gating of `TRIM` and restores port widths (R300, R377). -/
def ungate (s : State) : State :=
  let s1 := (s.onCompute (fun x => { x with cores := x.cores.mapV (fun _ k => { k with pllOff := false }) })).onSearch
    (fun x => { x with gated := [] })
  (s1.links.keys).foldl fullWidth (s1.onPower (fun p => { p with state := pwFull }))

/-- `FULL` and `TRIM` out of `QUIET` and `WATCH` (R379, R385). -/
def leaveLow (s : State) (w : Requester) : Acc :=
  if s.power.state = pwQuiet then (aeOk, startWarm (setStatus s w 0x2D1004 tsDone) 1 4)
  else (aeOk, wakeUp (setStatus s w 0x2D1004 tsDone) 2 0)

/-- `POWER_FULL`. -/
def powerFullCmd (s : State) (w : Requester) : Acc :=
  powerGuard s w (s.power.state == pwTrim || s.power.state == pwQuiet || s.power.state == pwWatch) (fun _ =>
    if s.power.state = pwTrim then withStatus (ungate s) w 0x2D1004 tsDone else leaveLow s w)

/-- `POWER_TRIM`. -/
def powerTrimCmd (s : State) (w : Requester) : Acc :=
  powerGuard s w (s.power.state == pwFull || s.power.state == pwQuiet || s.power.state == pwWatch) (fun _ =>
    if s.power.state = pwFull then withStatus (s.onPower (fun p => { p with state := pwTrim })) w 0x2D1004 tsDone
    else leaveLow s w)

/-- `POWER_QUIET`. -/
def powerQuietCmd (s : State) (w : Requester) : Acc := powerGuard s w (inService s) (fun _ => startShake s w 3)

/-- `POWER_WATCH`. -/
def powerWatchCmd (s : State) (w : Requester) : Acc :=
  powerGuard s w (inService s || s.power.state == pwQuiet) (fun _ => startShake s w 4)

/-- `POWER_OFF`. -/
def powerOffCmd (s : State) (w : Requester) : Acc :=
  powerGuard s w (inService s || s.power.state == pwQuiet) (fun _ => startShake s w 5)

/-- `WARM_RESET` (R391). -/
def warmResetCmd (s : State) (w : Requester) : Acc := powerGuard s w (inService s) (fun _ => startShake s w 6)

/-- `COLD_RESET` (R392): the journals first. A halted device obeys it too. -/
def coldResetCmd (s : State) (w : Requester) : Acc :=
  if s.power.shake.isSome then withStatus s w 0x2D1004 tsBusy
  else if s.power.state = pwOff ∨ s.power.losing.isSome then withStatus s w 0x2D1004 tsBadState
  else (aeOk, startCold (setStatus (writeJournals s) w 0x2D1004 tsDone) 2)

/-- `COLD_START` in `STALLED` (R379): the failure counts are cleared. -/
def coldStartCmd (s : State) (w : Requester) : Acc :=
  powerGuard s w (s.power.state == pwStalled) (fun _ =>
    (aeOk, startCold ((setStatus s w 0x2D1004 tsDone).onPower (fun p => { p with failWarm := 0, failCold := 0 })) 10))

/-! ## Recovery (R371) -/

/-- `INSTALL`: the image that CAN assembled is verified, installed, and a cold start follows. -/
def recoveryInstallCmd (s : State) (w : Requester) : Acc :=
  let x := s.security.recovery
  let reason := verifyImage s x
  if s.power.steward ≠ 3 then (aeState, s)
  else if reason ≠ 0 then withStatus (imageFailed s x.2 reason) w 0x2C4004 (if reason = 6 then 3 else 2)
  else
    let k := b2n s.security.bootB * 4 + ihKind x.2
    let s1 := s.onSecurity (fun y => { y with images := y.images.put k x, recovery := (0, 0) })
    let s2 := startCold (s1.onPower (fun p => { p with failWarm := 0, failCold := 0 })) 10
    (aeOk, post s2 0x0C03 none (pay [(4, ihVersion x.2)]))

/-- `ABORT` of a recovery image. -/
def recoveryAbortCmd (s : State) (w : Requester) : Acc :=
  if s.power.steward ≠ 3 then (aeState, s)
  else withStatus (s.onSecurity (fun y => { y with recovery := (0, 0) })) w 0x2C4004 0

/-- `ENTER_RECOVERY`. -/
def enterRecoveryCmd (s : State) : Acc := (aeOk, if s.power.steward = 3 then s else enterRecoveryDo s 2)

/-- `RESTART` of the steward die. -/
def stewardRestartCmd (s : State) : Acc := (aeOk, stewardRestartDo s 1)

/-- `CAN_BUS_OFF`: counted, 0x0C20. -/
def canBusOffDo (s : State) : State := post (addErr s 0x2C1004 0 1) 0x0C20 none 0

end Sys2Proof.Machine
end

