-- ==== Sys2Proof/Machine/Hosts.lean ====
section
/-! DEFINITION. Host loss as seen where a host is attached, its notices, and readmission (R79-R83, R329, R452). -/

namespace Sys2Proof.Machine

/-- The pairs that the home map names (R14, R79). -/
def mapPairs (s : State) : List Nat :=
  (((listed s 0x210002).filter (fun x => bit x.2 0)).map (fun x =>
    (List.range (2 ^ bits x.2 1 2)).map (fun k => bits x.2 (8 + 6 * k) 6))).flatten.dedup

/-- The host-loss notice to a pair: from agent 27, with `either` = 1 (R79, R454; log entry 35). -/
def lossNotice (s : State) (pair host : Nat) : Msg :=
  { opcode := opMgmt, tc := cfg s 0x2B0006, peer := ownAgent s agentPorts,
    body := pack [(6, pair), (1, 0), (1, 1), (4, 3), (68, 0), (10, host)] }

/-- Send the notices: to every pair of the home map but one that this ZX964 serves. -/
def sendNotices (s : State) (host : Nat) : State :=
  ((mapPairs s).filter (fun p => !(decide (p = ownPair s) && servesHere s))).foldl
    (fun s p => sendToPair s p (lossNotice s p host) true 256) s

/-- A host is `LOST` here: a serving home acts on it, another ZX964 only refuses its requests (R79, R81, R452). -/
def loseHost (s : State) (host cause : Nat) : State :=
  if isLost s host then s
  else if servesHere s then hostLost hostGone s host cause
  else s.onHome (fun h => { h with lost := h.lost ++ [host], hostDown := h.hostDown.del host })

/-- `HOST_LOSS_HOLD_EXPIRY`: every port of an `AUTO` host has been down for object 2420.01 (R79). -/
def hostHoldExpiry (s : State) (host : Nat) : State :=
  match s.home.hostDown.get? host with
  | some t =>
    if getObj s 0x242005 host = 0 ∧ !isLost s host ∧ inService s then
      let s1 := reachTime s (t + 1000 * cfg s 0x242001)
      sendNotices (loseHost s1 host 0) host
    else s
  | none => s

/-- `DECLARE_LOST` of the selected host (R79); of a lost one it changes nothing (R83). -/
def hostLostCmd (s : State) (w : Requester) : Acc :=
  let h := selVal s w 0x242002
  if isLost s h then (aeOk, s)
  else if attached s h then (aeOk, sendNotices (loseHost s h 1) h)
  else (aeOk, loseHost s h 1)

/-- `READMIT` of the selected host (R83). -/
def readmitCmd (s : State) (w : Requester) : Acc :=
  let h := selVal s w 0x242002
  (aeOk, if isLost s h then refreshDown (readmitHost s h) else s)

/-- A notice reaches the home that serves its pair (R79, R81, R362). -/
def noticeAtHome (s : State) (via : Option Nat) (m : Msg) : State := serviceAnswer (loseHost s (m.fld 80 10) 2) via m stOk 0 0

/-- A host has dropped its shared lines: it is confirmed (R329). -/
def sharersDropped (s : State) (w : Requester) (v : Nat) : Acc :=
  match w with
  | .inband p c =>
    (aeOk, if v = 1 then s.onHome (fun h => { h with unconfirmed := h.unconfirmed.filter (fun x => decide (x ≠ (c, peerHost p))) })
           else s)
  | _ => (aeOk, s)

end Sys2Proof.Machine
end

