-- ==== Sys2Proof/Machine/Objects.lean ====
section
/-! DEFINITION. Access checks of the dictionary and the values that reads return (R349-R351, R358-R364). -/

namespace Sys2Proof.Machine

/-! ## Access checks (R351) -/

/-- The number that names an object: index and subindex. -/
def objNo (idx sub : Nat) : Nat := idx * 256 + sub % 256

/-- Whether an index exists (R351 step 1, R355). -/
def indexKnown (idx : Nat) : Bool := objRows.any (fun r => r.obj / 256 == idx)

/-- The highest subindex in use at an index (R349). -/
def highestSub (idx : Nat) : Nat := ((objRows.filter (fun r => r.obj / 256 == idx)).map (fun r => r.obj % 256)).foldl max 0

/-- Whether an object is subindex 00 under R349. -/
def isSubZero (o : Nat) : Bool := decide (o % 256 = 0) && decide (0x2000 ≤ o / 256)

/-- The access entry of a class: bit 0 read, bit 1 write. -/
def classBits (r : ObjRow) (cls : Nat) : Nat :=
  match cls with
  | 0 => r.acc.1
  | 1 => r.acc.2.1
  | 2 => r.acc.2.2.1
  | _ => r.acc.2.2.2

/-- Whether an object addresses a composition (R361). -/
def addressesComp (r : ObjRow) : Bool := r.sels.any (fun o => compSelectors.contains o) || r.obj == 0x2B3003

/-- Whether a requester is a host that is no member of the composition its message names (R361). -/
def outsider (s : State) (w : Requester) : Bool :=
  match w with
  | .inband p c => !isMember s c (peerHost p)
  | _ => false

/-- Steps 1 to 4 of R351, and R361. -/
def accessCheck (s : State) (w : Requester) (o : Nat) (write : Bool) : Nat :=
  if !indexKnown (o / 256) then aeNoObject
  else if isSubZero o then (if write then aeReadOnly else aeOk)
  else
    match objRow o with
    | none => aeNoSubindex
    | some r =>
      let a := classBits r (clsOf s w)
      if outsider s w && addressesComp r then aeNoAccess
      else if a = 0 then aeNoAccess
      else if write && !bit a 1 then aeReadOnly
      else if !write && !bit a 0 then aeWriteOnly
      else aeOk

/-- The longest piece that a transport carries (R357, R358); CAN carries objects whole (R363). -/
def pieceLimit (w : Requester) : Nat := match w with | .can => 2 ^ 14 | _ => 128

/-- Whether a piece lies in an object as R359 asks. -/
def pieceOk (bytes offset len : Nat) : Bool :=
  decide (1 ≤ len) && decide (offset + len ≤ bytes) && (decide (offset % len = 0) || decide (offset + len = bytes))

/-- Step 5 of R351: length and offset suit the type (R350, R359). `limit` is the transport's longest piece. -/
def lengthOk (r : ObjRow) (whole write : Bool) (limit offset len : Nat) : Bool :=
  let all := decide (offset = 0) && decide (len = r.bytes)
  match r.kind with
  | .bytes =>
    if whole || (write && !r.staged) then all && decide (len ≤ max limit 128) else pieceOk r.bytes offset len && decide (len ≤ limit)
  | _ => all

/-- The range of step 6 that the object table states for every kind but BYTES. -/
def rangeOk (r : ObjRow) (v : Nat) : Bool :=
  match r.kind with
  | .bytes => true
  | .str => true
  | _ => decide (r.lo ≤ v) && decide (v ≤ r.hi)

/-- Command objects whose work changes the mirrored set (R306). -/
def mirroredCommands : List Nat :=
  [0x211003, 0x251008, 0x252010, 0x256003, 0x271005, 0x291003, 0x291102, 0x2A1003, 0x2A1103, 0x2A3003, 0x271009]

/-- Whether a write belongs to the serving side alone (R306). -/
def servingOnly (r : ObjRow) : Bool := r.mirrored || mirroredCommands.contains r.obj

/-- The always-on objects (R364). -/
def alwaysOn (o : Nat) : Bool :=
  let i := o / 256
  (decide (0x1000 ≤ i) && decide (i < 0x2000)) || decide (i = 0x2000) || (decide (0x2C00 ≤ i) && decide (i ≤ 0x2CFF)) ||
  [0x2D0001, 0x2D0002, 0x2D0003, 0x2D0004, 0x2D0006, 0x2D1001, 0x2D1002, 0x2D1003, 0x2D1004, 0x2D1102, 0x2D2001, 0x2D2002,
   0x2D2003, 0x2D2004, 0x2D2005, 0x2D2006, 0x2D3001, 0x2D3002, 0x2D3003, 0x2D4003, 0x2E1001, 0x2E1002].contains o

/-! ## What reads return -/

/-- Whether an object is a selector: it is held per requester (R29, R361). -/
def isSelector (o : Nat) : Bool := objRows.any (fun r => r.sels.contains o) || o == 0x2E1201

/-- The status objects of R353: one copy per requester. -/
def statusObjects : List Nat :=
  [0x211004, 0x212009, 0x230006, 0x236009, 0x254007, 0x256004, 0x260004, 0x271006, 0x281006, 0x291004, 0x2A1004, 0x2C4004,
   0x2D1004, 0x2E0106, 0x2E1006, 0x2E1204]

/-- Legs in no itinerary (object 2800.02). -/
def legsFree (s : State) : Nat :=
  65536 - ((s.compute.itins.filter (fun p => decide (p.2.state ≠ 0))).map (fun p => itCount p.2.desc)).sum

/-- The largest contiguous free range of the leg store (object 2800.03): from the end of an itinerary, or from leg 0, to the
next itinerary or the end. -/
def legsLargest (s : State) : Nat :=
  let used := (s.compute.itins.filter (fun p => decide (p.2.state ≠ 0))).map (fun p => (itBase p.2.desc, itCount p.2.desc))
  let gap : Nat → Nat := fun a =>
    if used.any (fun u => decide (u.1 ≤ a) && decide (a < u.1 + u.2)) then 0
    else (used.filter (fun u => decide (a ≤ u.1))).foldl (fun n u => min n (u.1 - a)) (65536 - a)
  (0 :: used.map (fun u => u.1 + u.2)).foldl (fun n a => max n (gap a)) 0

/-- An identity as its pair × 2 + side, as selectors 2B10.04 and 2B10.07 name it. -/
def identOfSelect (v : Nat) : Nat := identOf (v / 2) (v % 2)

/-- The 32 counters of a core (object 2821.02). -/
def coreCounters (s : State) (c : Nat) : Nat := pack ((List.range 32).map (fun i => (32, counterOf s c i)))

/-- Object 2520.04 with its `state` (R456). -/
def memberRead (s : State) (i : Nat) : Nat :=
  setBits (stripeMember s (i % 2 ^ 8) (i / 2 ^ 8)) 56 2 (memberState s (i % 2 ^ 8) (i / 2 ^ 8))

/-- Object 2600.06: references of a retiring slot (R134). -/
def tableRefs (s : State) (i : Nat) : Nat :=
  let d := dslot s i
  if d.state = 2 then decodeRefs s d.before + moverRefs s d.before else 0

/-- Object 2D11.02. -/
def clockSources (s : State) : Nat :=
  b2n s.power.crystal + 2 * b2n (decide (s.power.steward ≠ 0)) + 4 * b2n (!s.power.halted) + 8 * b2n s.power.ref156

/-- Values of 01 to 05 that the state holds elsewhere than in the object store. -/
def readData (s : State) (o i : Nat) : Option Nat :=
  match o with
  | 0x211002 => some (extOf s i).toNat
  | 0x235008 => some (guardBand s i)
  | 0x235009 => some (s.now % 2 ^ 64)
  | 0x240002 => some s.home.filter.length
  | 0x240003 => some (s.home.filter.filter (fun x => decide (x.2.mode = 2))).length
  | 0x240006 => some s.home.txns.length
  | 0x242004 => some (hostState s i)
  | 0x248002 => some s.home.ledger.length
  | 0x250003 => some (tierSlots - (quotaSum s + fastTiles s))
  | 0x251006 => some (dirtyLines s i)
  | 0x251007 => some (residentTiles s i)
  | 0x251009 => some (b2n (s.tier.flushes.has i))
  | 0x252004 => some (memberRead s i)
  | 0x254004 => some (winCursor (getObj s 0x254003 i))
  | 0x260002 => some (dslot s i).image
  | 0x260005 => some ((dslot s i).state + 2 ^ 16 * (dslot s i).gen)
  | 0x260006 => some (tableRefs s i)
  | 0x260204 => some (actRatio s)
  | _ => none

/-- Values of 06 to 09. -/
def readCompute (s : State) (o i : Nat) : Option Nat :=
  match o with
  | 0x280002 => some (legsFree s)
  | 0x280003 => some (legsLargest s)
  | 0x281002 => some (itinOf s i).desc
  | 0x281004 => some (legAt s (i % 2 ^ 8) (i / 2 ^ 8))
  | 0x281007 => some (itinOf s i).state
  | 0x282102 => some (coreCounters s i)
  | 0x290002 => some (s.search.parts.filter (fun x => decide (x.2.state ≠ 0))).length
  | 0x290108 => some (enabledFraction s.search.recent)
  | 0x291002 => some (partDesc s i)
  | 0x291005 => some (partOf s i).state
  | 0x291102 => some ((partOf s (i % 2 ^ 8)).entries.getD (i / 2 ^ 8) 0)
  | 0x292002 => some s.search.ctxs.length
  | 0x2A0001 => some (s.comps.comps.filter (fun x => decide (x.2.state ≠ 0))).length
  | 0x2A1002 => some (compOf s i).toNat
  | 0x2A1005 => some (compOf s i).state
  | 0x2A1102 => some (memberEntry s (i % 2 ^ 8) (i / 2 ^ 8))
  | 0x2A1104 => some (compOf s i).members.length
  | 0x2A3002 => some (recOf s i).shown.toNat
  | _ => none

/-- Values of 12. -/
def readTwin (s : State) (o i : Nat) : Option Nat :=
  match o with
  | 0x2B0101 => some s.twin.pair
  | 0x2B0102 => some ((if servesHere s then s.twin.side else if peerServes s then 1 - s.twin.side else 0) +
      2 * b2n (servesHere s))
  | 0x2B0103 => some s.twin.epoch
  | 0x2B0104 => some (s.twin.twinTags.getD 0)
  | 0x2B0105 => some (b2n s.twin.forced)
  | 0x2B0202 => some s.twin.journal.length
  | 0x2B1005 =>
    some (match s.twin.quarantine.get? (identOfSelect i) with | some n => 1 + 2 ^ 32 * n | none => 0)
  | 0x2B1008 => some (s.twin.peerTags.getD (identOfSelect i) 0)
  | 0x2B3002 => some (s.home.unconfirmed.filter (fun x => decide (x.1 = i))).length
  | 0x2B4003 => some (scoreOf s (i % 2 ^ 8) (i / 2 ^ 8))
  | _ => none

/-- Values of 13 to 15. -/
def readControl (s : State) (o i : Nat) : Option Nat :=
  match o with
  | 0x200005 => some (fwVersion s)
  | 0x200006 => some (cfgVersion s)
  | 0x200007 => some (b2n s.security.bootB)
  | 0x2C2001 => some s.dict.stewardQ.length
  | 0x2C2102 => some (match s.dict.canQ with | e :: _ => e.toNat | [] => 0)
  | 0x2C2104 => some s.dict.canQ.length
  | 0x2C3002 => some s.power.steward
  | 0x2C3101 => some (if s.power.steward = 2 then 2 else if s.power.steward = 0 then 0 else 1)
  | 0x2D0001 => some (Config.inputMillivolts s.now % 2 ^ 32)
  | 0x2D0103 => some (capInForce s)
  | 0x2D1001 => some s.power.state
  | 0x2D1102 => some (clockSources s)
  | 0x2D2006 => some (islandPeak s)
  | 0x2D3001 => some s.power.lastStart
  | 0x2D3002 => some (s.power.failWarm + 2 ^ 8 * s.power.failCold)
  | 0x2D4002 => some (Config.saveListEntry i).toNat
  | 0x2D4003 => some s.power.saveValid
  | 0x2E0001 => some deviceKey
  | 0x2E0002 => some (aliasKey (fwMeasurement s))
  | 0x2E0102 => some (certChain s i).1
  | 0x2E0103 => some (certChain s i).2
  | 0x2E0104 => some (certChain s i).2
  | 0x2E2003 => some s.security.sessions.length
  | _ => none

/-- The value that a read of an object returns to a requester; write-only objects are never read. -/
def readValue (s : State) (w : Requester) (o : Nat) : Nat :=
  if isSubZero o then highestSub (o / 256)
  else if isSelector o then selVal s w o
  else if statusObjects.contains o then statusOf s w o
  else
    match objRow o with
    | none => 0
    | some r =>
      let i := instOf s w r
      let kept := if o = 0x21200A then grantsOf s i else getObj s o i
      (((readData s o i).or (readCompute s o i)).or ((readTwin s o i).or (readControl s o i))).getD kept

/-- The checks of a read (R351 steps 1 to 5). -/
def readCheck (s : State) (w : Requester) (o offset len : Nat) : Nat :=
  let e := accessCheck s w o false
  if e ≠ aeOk then e
  else if isSubZero o then (if offset = 0 ∧ len = 1 then aeOk else aeLength)
  else
    match objRow o with
    | none => aeNoSubindex
    | some r => if lengthOk r (decide (w = .can)) false (pieceLimit w) offset len then aeOk else aeLength

/-- The bytes that a read returns. -/
def readPiece (s : State) (w : Requester) (o offset len : Nat) : Nat := bits (readValue s w o) (8 * offset) (8 * len)

end Sys2Proof.Machine
end

