-- ==== Sys2Proof/Machine/Dictionary.lean ====
section
/-! DEFINITION. Writes of objects: what the owning chapters make of each (R351 steps 6 and 7, R353, R354, R359). -/

namespace Sys2Proof.Machine

/-! ## Selectors (R29, R202, R224, R254, R361) -/

/-- Items of a score class (12): lanes, ports, light engines, laser inputs, stacks, channels. -/
def scoreItems (cls : Nat) : Nat := [512, 256, 16, 64, 16, 256].getD cls 0

/-- Whether a selector admits a value beyond the range of its table row. -/
def selectorRange (s : State) (w : Requester) (o v : Nat) : Bool :=
  if o = 0x212003 ∨ o = 0x230201 ∨ o = 0x234001 ∨ o = 0x235001 then portExists s v
  else if o = 0x281003 then decide (v < itCount (itinOf s (selVal s w 0x281001)).desc)
  else if o = 0x291101 then decide (v < pdCapacity (partOf s (selVal s w 0x291001)).desc)
  else if o = 0x2B4002 then decide (v < scoreItems (selVal s w 0x2B4001))
  else if o = 0x2E1201 then decide (v % 128 = 0)
  else true

/-- Whether a composition owner may select a value (R202, R224, R254, R453). -/
def selectorMay (s : State) (w : Requester) (o v : Nat) : Bool :=
  match w with
  | .inband p c =>
    if compSelectors.contains o then decide (v = c)
    else if clsOf s (.inband p c) ≠ 1 then true
    else if o = 0x281001 then decide ((itinOf s v).state = 0) || decide (itComp (itinOf s v).desc = c)
    else if o = 0x282101 ∨ o = 0x2A4001 then coreGranted s c v
    else if o = 0x291001 then decide ((partOf s v).state ≠ 0) && decide (pdComp (partOf s v).desc = c)
    else if o = 0x2A3001 then
      decide ((compOf s c).recordBase ≤ v) && decide (v < (compOf s c).recordBase + (compOf s c).recordCount)
    else true
  | _ => true

/-- A write of a selector. -/
def selectorWrite (s : State) (w : Requester) (o v : Nat) : Acc :=
  if !selectorRange s w o v then (aeRange, s)
  else if !selectorMay s w o v then (aeNoAccess, s)
  else (aeOk, setSel s w o v)

/-! ## Extents, home map, tile descriptors (01) -/

/-- A piece merges into a requester's staged value (R359). -/
def stagePiece (s : State) (w : Requester) (o offset len v : Nat) : Nat := setBits (stagedOf s w o) (8 * offset) (8 * len) v

/-- The reserved bits of an extent descriptor. -/
def extReserved (v : Nat) : Bool :=
  bit v 31 || bit v 63 || bit v 67 || decide (bits v 86 2 ≠ 0) || decide (bits v 94 2 ≠ 0) || decide (bits v 160 96 ≠ 0)

/-- A write of object 2110.02: staged, only while the extent is `FREE`. -/
def extStage (s : State) (w : Requester) (offset len v : Nat) : Acc :=
  let x := stagePiece s w 0x211002 offset len v
  if extReserved x then (aeRange, s)
  else if (extOf s (selVal s w 0x211001)).state ≠ 0 then (aeState, s)
  else (aeOk, setStaged s w 0x211002 x)

/-- `BIND` (R21). -/
def bindCmd (s : State) (w : Requester) : Acc :=
  let id := selVal s w 0x211001
  let v := stagedOf s w 0x211002
  let c := bindCheck s id v
  if c ≠ xsDone then withStatus s w 0x211004 c
  else withStatus (setStaged (bindExt s id v) w 0x211002 0) w 0x211004 xsDone

/-- `REVOKE` (R21). -/
def revokeCmd (s : State) (w : Requester) : Acc :=
  let id := selVal s w 0x211001
  if revokeRefused s id then withStatus s w 0x211004 xsBadState else withStatus (revokeExt s id) w 0x211004 xsDone

/-- `RESTORE` (R21). -/
def restoreCmd (s : State) (w : Requester) : Acc :=
  let id := selVal s w 0x211001
  if (extOf s id).state ≠ 3 then withStatus s w 0x211004 xsBadState else withStatus (restoreExt s id) w 0x211004 xsDone

/-- `RELEASE` (R21). -/
def releaseCmd (s : State) (w : Requester) : Acc :=
  let id := selVal s w 0x211001
  if (extOf s id).state ≠ 3 then withStatus s w 0x211004 xsBadState else withStatus (releaseExt s id) w 0x211004 xsDone

/-- A write of the selected home map entry: reserved bits zero (R9). -/
def homeMapWrite (s : State) (w : Requester) (v : Nat) : Acc :=
  if bits v 3 5 ≠ 0 ∨ bits v 56 8 ≠ 0 then (aeRange, s) else (aeOk, setObj s 0x210002 (selVal s w 0x210001) v)

/-! ## Objects with no rule of their own -/

/-- Store an object, mirrored if it belongs to the mirrored set (R306). -/
def plainWrite (s : State) (w : Requester) (r : ObjRow) (v : Nat) : Acc :=
  let i := instOf s w r
  let s1 := setObj s r.obj i v
  (aeOk, if r.mirrored then mirrorObject s1 r.obj i r.bytes (objComp r.obj i) else s1)

/-- Values that an object of the plain kind refuses beyond its table range. -/
def plainRange (s : State) (w : Requester) (o v : Nat) : Bool :=
  match o with
  | 0x211203 => tileDescOk v
  | 0x221003 => decide (2 * cfg s 0x221002 + 2 ≤ v)
  | 0x281008 => decide (bits v 13 3 = 0) && decide (bits v 24 8 = 0)
  | 0x2B0304 => (List.range 16).all (fun n => decide (bits v (16 * n + 10) 5 = 0))
  | 0x2B4004 => decide (selVal s w 0x2B4001 = 1) || decide (selVal s w 0x2B4001 = 2) || decide (bits v 32 16 = 0)
  | 0x2C1002 => [125, 250, 500, 1000].contains v
  | 0x2C1003 => [1000, 2000, 5000].contains v
  | 0x2C2101 => !bit v 0
  | 0x2C4001 => decide (v % 128 = 0)
  | _ => true

/-- The objects whose writes commit at the next start (R354). -/
def nextStartObjects : List Nat := [0x2C1002, 0x2C1003, 0x2D3005]

/-! ## Control (13) and power (14) -/

/-- A pop of the CAN queue (R368); the overflow notice of a queue that lost records enters as soon as there is room
(R367). -/
def canPop (s : State) (v : Nat) : Acc :=
  (aeOk, if v = 1 then
      let s1 := s.onDict (fun d => { d with canQ := d.canQ.tail })
      overflowNotice s1 s1.dict.canLost 1
    else s)

/-- Whether the recovery monitor answers (R371). -/
def monitorUp (s : State) : Bool := decide (s.power.steward = 3) || decide (s.power.state = pwStalled)

/-- Power commands by value (object 2D10.02). -/
def powerCommand (s : State) (w : Requester) (v : Nat) : Acc :=
  match v with
  | 1 => powerFullCmd s w
  | 2 => powerTrimCmd s w
  | 3 => powerQuietCmd s w
  | 4 => powerWatchCmd s w
  | _ => powerOffCmd s w

/-- Reset commands by value (object 2D10.03). -/
def resetCommand (s : State) (w : Requester) (v : Nat) : Acc :=
  match v with
  | 1 => warmResetCmd s w
  | 2 => coldResetCmd s w
  | _ => coldStartCmd s w

/-! ## Writes by chapter -/

/-- Writes of 01, 02 and 03; none: the object has no rule of its own. -/
def writeHome (s : State) (w : Requester) (o offset len v : Nat) : Option Acc :=
  match o with
  | 0x210002 => some (homeMapWrite s w v)
  | 0x211002 => some (extStage s w offset len v)
  | 0x211003 => some (match v with
    | 1 => bindCmd s w | 2 => revokeCmd s w | 3 => restoreCmd s w | _ => releaseCmd s w)
  | 0x242003 => some (if v = 1 then hostLostCmd s w else readmitCmd s w)
  | _ => none

/-- The reserved bits of a region descriptor. -/
def regionReserved (v : Nat) : Bool :=
  bit v 31 || bit v 63 || decide (bits v 88 8 ≠ 0) || decide (bits v 136 8 ≠ 0) || decide (bits v 208 48 ≠ 0) ||
  (List.range 8).any (fun i => decide (bits v (256 + 32 * i + 27) 5 ≠ 0))

/-- A write of object 2560.02: staged. -/
def regionStage (s : State) (w : Requester) (offset len v : Nat) : Acc :=
  let x := stagePiece s w 0x256002 offset len v
  if regionReserved x then (aeRange, s) else (aeOk, setStaged s w 0x256002 x)

/-- Writes of 04 and 05. -/
def writeTier (s : State) (w : Requester) (o offset len v : Nat) : Option Acc :=
  match o with
  | 0x251002 => some (quotaWrite s w v)
  | 0x251008 => some (flushCmd s w)
  | 0x252002 => some (stripeHeaderWrite s w v)
  | 0x252004 => some (stripeMemberWrite s w v)
  | 0x252010 => some (if v = 1 then declareLostCmd s w else replaceCmd s w)
  | 0x254003 => some (windowWrite s w v)
  | 0x254004 => some (cursorWrite s w v)
  | 0x254006 => some (layerWrite s w v)
  | 0x256002 => some (regionStage s w offset len v)
  | 0x256003 => some (if v = 1 then regionCreateCmd s w else regionDestroyCmd s w)
  | 0x260002 => some (aeOk, setStaged s w o (stagePiece s w o offset len v))
  | 0x260003 => some (if v = 1 then tableLoadCmd s w else tableRetireCmd moverRefs s w)
  | _ => none

/-- Itinerary commands by value (object 2810.05). -/
def itinCommand (s : State) (w : Requester) (v : Nat) : Acc :=
  match v with
  | 1 => allocCmd s w
  | 2 => closeCmd s w
  | 3 => acceptCmd s w
  | 4 => rejectCmd s w
  | 5 => retireCmd s w
  | _ => freeCmd s w

/-- Writes of 06, 07 and 08. -/
def writeCompute (s : State) (w : Requester) (o offset len v : Nat) : Option Acc :=
  match o with
  | 0x271002 => some (slotWrite s w v)
  | 0x271004 => some (slotMemberWrite s w v)
  | 0x271005 => some (match v with | 1 => armCmd s w | 2 => rearmCmd s w | _ => disarmCmd s w)
  | 0x271009 => some (reserveWrite s v)
  | 0x281002 => some (itinWrite s w offset len v)
  | 0x281004 => some (legWrite s w v)
  | 0x281005 => some (itinCommand s w v)
  | 0x291002 => some (partDescWrite s w v)
  | 0x291003 => some (if v = 1 then partitionCreateCmd s w else partitionDestroyCmd s w)
  | _ => none

/-- Composition commands by value: an owner may write only `RESET` (object 2A10.03). -/
def compCommand (s : State) (w : Requester) (v : Nat) : Acc :=
  if w.isInband ∧ v ≠ 2 then (aeNoAccess, s)
  else match v with | 1 => compositionCreateCmd s w | 2 => compositionResetCmd s w | _ => compositionDestroyCmd s w

/-- Writes of 09. -/
def writeComps (s : State) (w : Requester) (o offset len v : Nat) : Option Acc :=
  match o with
  | 0x2A1002 => some (descriptorWrite s w offset len v)
  | 0x2A1003 => some (compCommand s w v)
  | 0x2A1102 => some (memberWrite s w v)
  | 0x2A1103 => some (if v = 1 then joinCmd s w else leaveCmd hostGone s w)
  | 0x2A1202 => some (vectorWriteCmd s w v)
  | 0x2A1301 => some (shareWrite s w o v)
  | 0x2A1302 => some (shareWrite s w o v)
  | 0x2A1303 => some (shareWrite s w o v)
  | 0x2A1304 => some (grantWrite s w o v)
  | 0x2A1305 => some (grantWrite s w o v)
  | 0x2A3003 => some (forceFreeCmd s w)
  | 0x2A4002 => some (coreResetCmd s w)
  | _ => none

/-- Writes of 10 and 11. -/
def writePorts (s : State) (w : Requester) (o v : Nat) : Option Acc :=
  match o with
  | 0x212002 => some (breakoutWrite s w v)
  | 0x212004 => some (portRoleWrite s w v)
  | 0x212005 => some (enableWrite s w v)
  | 0x212006 => some (if v = 1 then portResetCmd s w else portRetrainCmd s w)
  | 0x21200A => some (creditsWrite s w v)
  | 0x213001 => some (encryptWrite s w v)
  | 0x221002 => some (residencyWrite s v)
  | 0x230202 => some (bindingWrite s w v)
  | 0x231003 => some (policerWrite s w v)
  | 0x232002 => some (limitWrite s w v)
  | 0x232003 => some (limitBurstWrite s w v)
  | 0x234003 => some (shaperWrite s w v)
  | 0x235004 => some (gateBankWrite s w o v)
  | 0x235005 => some (gateBankWrite s w o v)
  | 0x235006 => some (gateSwitchWrite s w v)
  | 0x236003 => some (budgetWrite s w 3 v)
  | 0x236004 => some (budgetWrite s w 4 v)
  | 0x236005 => some (budgetWrite s w 5 v)
  | _ => none

/-- Writes of 12. `ap` applies an access that waited for the twin. -/
def writeTwin (ap : State → Deferred → State) (s : State) (w : Requester) (o v : Nat) : Option Acc :=
  match o with
  | 0x2B0001 => some (aeOk, tagWarning (setObj s o 0 v))
  | 0x2B0002 => some (if v = 0 then mirrorDisable ap s else (aeOk, setObj s o 0 v))
  | 0x2B0004 => some (aeOk, tagWarning (setObj s o 0 v))
  | 0x2B3003 => some (sharersDropped s w v)
  | 0x2B4003 => some (aeOk, setScore s (selVal s w 0x2B4001) (selVal s w 0x2B4002) 0)
  | 0x2B5004 => some (aeOk, (setObj s o 0 v).onHealth (fun h => { h with dice := (0, 0) }))
  | _ => none

/-- Writes of 13, 14 and 15. -/
def writeControl (s : State) (w : Requester) (o offset len v : Nat) : Option Acc :=
  match o with
  | 0x2C2103 => some (canPop s v)
  | 0x2C3003 => some (if v = 1 then stewardRestartCmd s else enterRecoveryCmd s)
  | 0x2C3005 => some (aeOk, aliveWrite s)
  | 0x2C4001 => some (if monitorUp s then (aeOk, setObj s o 0 v) else (aeState, s))
  | 0x2C4002 => some (if monitorUp s then recoveryPieceWrite s offset len v else (aeState, s))
  | 0x2C4003 => some (if v = 1 then recoveryInstallCmd s w else recoveryAbortCmd s w)
  | 0x2D1002 => some (powerCommand s w v)
  | 0x2D1003 => some (resetCommand s w v)
  | 0x2E0104 => some (aeOk, setStaged s w o (stagePiece s w o offset len v))
  | 0x2E0105 => some (if v = 1 then certInstallCmd s w else certEraseCmd s w)
  | 0x2E1003 => some (aeOk, setStaged s w o (stagePiece s w o offset len v))
  | 0x2E1004 => some (aeOk, setStaged s w o (stagePiece s w o offset len v))
  | 0x2E1005 => some (if v = 1 then ownerSetCmd s w else ownerTransferCmd s w)
  | 0x2E1202 => some (imagePieceWrite s w offset len v)
  | 0x2E1203 => some (if v = 1 then imageStageCmd s w else imageAbortCmd s w)
  | _ => none

/-- A write after R351 steps 1 to 5 and the table's range: the owning chapter's meaning. -/
def writeObject (ap : State → Deferred → State) (s : State) (a : Access) (r : ObjRow) (v : Nat) : Acc :=
  let w := a.who
  let o := r.obj
  if isSelector o then selectorWrite s w o v
  else if !plainRange s w o v then (aeRange, s)
  else if nextStartObjects.contains o then (aeOk, s.onDict (fun d => { d with nextStart := d.nextStart ++ [{ a with value := v }] }))
  else
    let ofData := (writeHome s w o a.offset a.len v).or (writeTier s w o a.offset a.len v)
    let ofUnits := (writeCompute s w o a.offset a.len v).or (writeComps s w o a.offset a.len v)
    let ofLinks := (writePorts s w o v).or (writeTwin ap s w o v)
    (((ofData.or ofUnits).or ofLinks).or (writeControl s w o a.offset a.len v)).getD (plainWrite s w r v)

end Sys2Proof.Machine
end

