-- ==== Sys2Proof/Machine/Package.lean ====
section
/-! DEFINITION. The package as a whole: dictionary accesses on their transports (R306, R352-R364), what becomes of a received
message on each kind of port (R256, R305, R324, R380, R382), and what follows of itself after a command. -/

namespace Sys2Proof.Machine

/-! ## Writes (R351, R370) -/

/-- The checks of a write before the owning chapter's (R351 steps 1 to 5, the table's range, R306): an access error, and the
row of the object. `limit` is the transport's longest piece. -/
def writeCheck (s : State) (a : Access) (limit : Nat) : Nat × Option ObjRow :=
  let o := objNo a.idx a.sub
  let e := accessCheck s a.who o true
  if e ≠ aeOk then (e, none)
  else
    match objRow o with
    | none => (aeNoSubindex, none)
    | some r =>
      if peerServes s && servingOnly r then (aeNotServing, none)
      else if !lengthOk r (decide (a.who = .can)) true limit a.offset a.len then (aeLength, none)
      else if !rangeOk r (a.value % 2 ^ (8 * a.len)) then (aeRange, none)
      else (aeOk, some r)

/-- A write with every check, applied at once. An access error changes nothing. -/
def writeNow (ap : State → Deferred → State) (limit : Nat) (s : State) (a : Access) : Acc :=
  match writeCheck s a limit with
  | (_, some r) =>
    let x := writeObject ap s a r (a.value % 2 ^ (8 * a.len))
    if x.1 = aeOk then x else (x.1, s)
  | (e, none) => (e, s)

/-! ## Writes that wait for the twin (R306, R352, R354) -/

/-- The mirror records that a change of state has added to the journal. -/
def newRecords (s t : State) : List MRec := ((t.twin.journal.drop s.twin.journal.length).map Batch.recs).flatten

/-- Answer an access, or keep the answer while the pair holds every response (R313). -/
def answerOrHold (s : State) (d : Deferred) (e : Nat) : State :=
  if d.via.isSome ∧ s.twin.pair = psHolding then holdItem s none (.answer d e) else accessAnswer s d e

/-- A write's outcome: a change of the mirrored set of a pair that holds responses is sent to the twin, and takes effect when
the twin has it (R306); any other takes effect now. -/
def commitWrite (s : State) (d : Deferred) (x : Acc) : State :=
  let recs := newRecords s x.2
  if x.1 ≠ aeOk then answerOrHold s d x.1
  else if holdsNow s && !recs.isEmpty then
    let y := mirror s recs
    holdItem y.1 y.2 (.obj { d with sent := some recs })
  else answerOrHold x.2 d x.1

/-- What an access of a requester must wait for: the batch of an earlier access of the same requester (R352). -/
def waitsBehind (s : State) (w : Requester) : Option (Option Nat) :=
  ((s.twin.held.filter (fun x => match x.2 with | .obj d => decide (d.access.who.key = w.key) | _ => false)).getLast?).map
    Prod.fst

/-- One write reaches the dictionary (R351, R352). -/
def dictWrite (ap : State → Deferred → State) (s : State) (d : Deferred) : State :=
  match waitsBehind s d.access.who with
  | some b => holdItem s b (.obj { d with sent := none })
  | none =>
    let a := d.access
    if objNo a.idx a.sub = 0x291102 then
      (match writeCheck s a (pieceLimit a.who) with
       | (_, some _) =>
         (match entryWrite s d (a.value % 2 ^ (8 * a.len)) with
          | (some e, s1) => answerOrHold s1 d e
          | (none, s1) => s1)
       | (e, none) => answerOrHold s d e)
    else commitWrite s d (writeNow ap (pieceLimit a.who) s a)

/-- The state with its mirroring put aside, and the twin fields put back. -/
def unmirrored (s : State) (f : State → Acc) : Acc :=
  let x := f (s.onTwin (fun t => { t with pair := psAlone }))
  (x.1, x.2.onTwin (fun t => { t with pair := s.twin.pair }))

/-- What waited for the twin takes effect (R306): with nothing more to mirror where the records that the twin holds still
say what it does, else mirrored as live changes (log entry 18). -/
def applyDeferred (ap : State → Deferred → State) (s : State) (d : Deferred) : State :=
  match d.sent with
  | none => dictWrite ap s d
  | some recs =>
    let f := fun t => writeNow ap (pieceLimit d.access.who) t d.access
    let x := f s
    if newRecords s x.2 = recs then
      (let y := unmirrored s f; accessAnswer y.2 d y.1)
    else accessAnswer x.2 d x.1

/-- `applyDeferred`, where an applied access may itself release others; the depth never passes 64. -/
def applyFuel : Nat → State → Deferred → State
  | 0 => fun s _ => s
  | n + 1 => applyDeferred (applyFuel n)

/-- An access that waited for the twin takes effect. -/
def ap (s : State) (d : Deferred) : State := applyFuel 64 s d

/-! ## Transports (R356, R364, R369) -/

/-- Whether steward accesses wait: the steward is down, or the ZX964 is quarantined (R324, R369). -/
def stewardWaits (s : State) : Bool := !stewardUp s || s.twin.pair == psQuarantined

/-- Whether the CAN server can be reached: in every state but `OFF`, with a node ID (R356, R363). -/
def canReached (s : State) : Bool :=
  decide (s.power.state ≠ pwOff) && s.power.losing.isNone && decide (cfg s 0x2C1001 ≠ 0)

/-- Whether the island serves CAN alone, with the always-on objects (R364). -/
def canLimited (s : State) : Bool := s.power.state == pwQuiet || s.power.state == pwWatch

/-- A write arrives on its transport. -/
def submit (s : State) (d : Deferred) : State :=
  match d.access.who with
  | .steward =>
    if stewardWaits s then s.onDict (fun k => { k with stewardWait := k.stewardWait ++ [d.access] }) else dictWrite ap s d
  | .can =>
    if !canReached s then s
    else if canLimited s && !alwaysOn (objNo d.access.idx d.access.sub) then accessAnswer s d aePowerState
    else dictWrite ap s d
  | .inband _ _ => if inService s && servesHere s then dictWrite ap s d else s

/-- A write of the steward class that waited (R369). -/
def stewardWrite (s : State) (a : Access) : State := submit s { access := a }

/-- A record of the configuration image is a steward-class write (R370); one of object 2911.02 queues its `WRITE` (R218), which
is counted and answered when it commits. -/
def imageWrite (s : State) (a : Access) : Acc :=
  let whole : Acc → Acc := fun x => (x.1, countAccess x.2 x.1)
  if objNo a.idx a.sub = 0x291102 then
    match writeCheck s a (2 ^ 16) with
    | (_, some _) =>
      (match entryWrite s { access := a } (a.value % 2 ^ (8 * a.len)) with
       | (some e, s1) => whole (e, s1)
       | (none, s1) => (aeOk, s1))
    | (e, none) => whole (e, s)
  else whole (writeNow ap (2 ^ 16) s a)

/-! ## `MGMT` at the home (R358, R360, R362) -/

/-- Fields of a `MGMT` message. -/
def mgIndex (m : Msg) : Nat := m.fld 16 16
def mgSub (m : Msg) : Nat := m.fld 32 8
def mgOffset (m : Msg) : Nat := m.fld 48 14

/-- The write that a `MGMT` `WRITE` asks for. -/
def mgAccess (m : Msg) : Access :=
  { who := .inband m.peer m.composition, idx := mgIndex m, sub := mgSub m, offset := mgOffset m, len := mgLength m,
    value := m.dataNat % 2 ^ (8 * mgLength m) }

/-- The answer of a read: the value in `result`, or in the slots of a `RESP_DATA` (R360). -/
def readAnswer (s : State) (m : Msg) (v : Nat) : Msg :=
  if mgLength m ≤ 8 then mkResp m stOk 0 (ownAgent s agentHome) v 1
  else { mkResp m stOk 0 (ownAgent s agentHome) 0 1 with opcode := opRespData, ext := 4, data := natSlots v 4 }

/-- `READ` (R360). -/
def mgRead (s : State) (p : Nat) (m : Msg) : State :=
  let w : Requester := .inband m.peer m.composition
  let o := objNo (mgIndex m) (mgSub m)
  let e := readCheck s w o (mgOffset m) (mgLength m)
  if e ≠ aeOk then
    answerOrHold s { access := mgAccess m, via := some (p, m) } e
  else
    respondAfter (countAccess s e) none (raiseLoad s (readAnswer s m (readPiece s w o (mgOffset m) (mgLength m))) true) (some p)

/-- A `MGMT` message at the serving side of its pair. -/
def mgmtAt (s : State) (p : Nat) (m : Msg) : State :=
  let d : Deferred := { access := mgAccess m, via := some (p, m) }
  if m.func = 3 then (if peerIsAgent m.peer then noticeAtHome s (some p) m else answerOrHold s d aeNoAccess)
  else if mgLength m = 0 ∨ 128 < mgLength m then answerOrHold s d aeLength
  else if m.func = 4 then spdmRequest s (some p) m
  else if peerIsAgent m.peer then answerOrHold s d aeNoAccess
  else if m.func = 1 then mgRead s p m
  else submit s d

/-- Crossbar slots of a `MGMT` message and its answer: the spec gives management a budget and no cost (DESIGN CHOICE, log
entry 108). -/
def mgmtCost (m : Msg) : Nat := m.slotCount + 1

/-- Whether the management budget has room for a message in this period. -/
def mgmtFree (s : State) (p : Nat) (m : Msg) : Bool := hasBudget s 1 (portQuadrant p) 6 (mgmtCost m)

/-- A `MGMT` message meets the management budget (R274): it is handled, or waits in order for the next period. -/
def mgmtMeet (s : State) (p : Nat) (m : Msg) : State :=
  if s.tm.mgmtWait.isEmpty && mgmtFree s p m then mgmtAt (charge s 1 (portQuadrant p) 6 (mgmtCost m)) p m
  else s.onTm (fun t => { t with mgmtWait := t.mgmtWait ++ [(p, m)] })

/-- Whether the oldest `MGMT` message that waits can go on. -/
def mgmtDue (s : State) : Bool := match s.tm.mgmtWait with | (p, m) :: _ => mgmtFree s p m | [] => false

/-- `MGMT` messages that waited go on, at most n. -/
def mgmtResume : Nat → State → State
  | 0, s => s
  | n + 1, s =>
    match s.tm.mgmtWait with
    | (p, m) :: rest =>
      if mgmtFree s p m then
        mgmtResume n (mgmtAt (charge (s.onTm (fun t => { t with mgmtWait := rest })) 1 (portQuadrant p) 6 (mgmtCost m)) p m)
      else s
    | [] => s

/-! ## Routing (R14-R16, R305, R315, R324, R326, R330) -/

/-- A service request at the serving side. -/
def serviceAt (s : State) (p : Nat) (m : Msg) : State :=
  if m.opcode = opSearch then searchAt s (some p) m
  else if m.opcode = opHandoff then handoffAt s (some p) m
  else if m.opcode = opDoorbell then (if m.func = 1 then launchAt s (some p) m else countAt s (some p) m)
  else mgmtMeet s p m

/-- Whether an `SPDM` message is for this very device: it names it and not its pair (R298, R362). -/
def spdmHere (s : State) (m : Msg) : Bool :=
  m.opcode == opMgmt && decide (m.func = 4) && !m.either && decide (identOf m.targetPair m.targetSide = ownIdent s)

/-- A service request goes to the pair it names. -/
def routeService (s : State) (p : Nat) (m : Msg) : State :=
  let r : Req := { m := m, port := some p }
  if spdmHere s m then mgmtMeet s p m
  else if !m.either && s.twin.quarantine.has (identOf m.targetPair m.targetSide) then
    routeAnswer s r stQuarantined dPeerQuarantined
  else
    match pairVerdict s m.targetPair with
    | some x => verdictAnswer s r x
    | none =>
      if m.targetPair ≠ ownPair s then sendToPair s m.targetPair m true p
      else if servesHere s then serviceAt s p m
      else if peerServes s then sendToPair s (ownPair s) m true p
      else routeAnswer s r stRetry dPairForming

/-- An `SNP_RESP` goes to the home of its line. -/
def routeSnoop (s : State) (p : Nat) (m : Msg) : State :=
  match homePair s m.line with
  | none => s
  | some q => if q = ownPair s ∧ servesHere s then snpRespAtHome s m else sendToPair s q m true p

/-- An admitted message goes on its way. A quarantined ZX964 answers every request itself (R324). -/
def go (s : State) (p : Nat) (m : Msg) : State :=
  if s.twin.pair = psQuarantined then
    (if m.opcode = opSnpResp then s else routeAnswer s { m := m, port := some p } stQuarantined dSelfQuarantined)
  else if m.opcode = opFence then fenceEffect s p m
  else if m.opcode = opSnpResp then routeSnoop s p m
  else if m.isAddressed then routeReq s { m := m, port := some p }
  else routeService s p m

/-! ## Trunk and twin ports -/

/-- A response on its way, or to an agent of this ZX964 (R31, R43, R235). -/
def respMessage (s : State) (p : Nat) (m : Msg) : State :=
  if peerIsAgent m.peer then
    (if identOf (bits m.peer 0 6) (bits m.peer 6 1) = ownIdent s then
       (if bits m.peer 7 5 = agentPorts then milestoneAnswered s m
        else if bits m.peer 7 5 = agentSteward then spdmResponse s p m
        else deliverResp s m none)
     else deliverResp s m none)
  else if attached s (peerHost m.peer) then deliverResp s m none
  else if isVecAnswer s m then vecDone s (peerHost m.peer) m.tag (decide (m.status = stOk))
  else deliverResp s m none

/-- Whether the identity on a port is quarantined (R323). -/
def fromQuarantined (s : State) (p : Nat) : Bool :=
  match peerOn s p with | some id => s.twin.quarantine.has id | none => false

/-- Whether a twin-range message holds a reserved encoding: an opcode that the table does not list, a pair state, an answer or
a step (R10). -/
def twinReserved (m : Msg) : Bool :=
  decide (opTwCatchup < m.opcode) || (m.opcode == opTwBeat && decide (8 < m.fld 40 4)) ||
  (m.opcode == opTwConfirm && decide (m.fld 48 2 = 3)) || (m.opcode == opTwDetach && decide (m.fld 0 2 = 3))

/-- The answer to a message of the fabric that R10 or R32 refuses: counted with those refused at host ports (log entry 107). -/
def fabricRefuse (s : State) (p : Nat) (m : Msg) (x : Nat × Nat) : State :=
  emit (addStat s 0x230002 0 1) p (raiseLoad s (mkResp m x.1 x.2 (ownAgent s agentPorts) 0 1) false)

/-- A twin-range message names its destination in `peer`: the answer to a reserved encoding goes to the twin agent of the
ZX964 on the port (R10; log entry 107). -/
def twinRefuse (s : State) (p : Nat) (m : Msg) : State :=
  match peerOn s p with
  | some id => fabricRefuse s p { m with peer := agentPeer (id % 64) (id / 64) agentTwin } (stDenied, 0)
  | none => addStat s 0x230002 0 1

/-- A twin-range message for this ZX964. Batches travel on twin ports only. -/
def twinHere (s : State) (p : Nat) (m : Msg) : State :=
  if twinReserved m then twinRefuse s p m
  else if m.opcode = opTwMirror ∨ m.opcode = opTwMirrorAck then
    (if portRole s p ≠ roleTwin then roleDiscard s
     else if m.opcode = opTwMirror then twMirror s p m else twMirrorAck ap s p m)
  else if m.opcode = opTwBeat then twBeat s p m
  else if m.opcode = opTwSuspect then twSuspect s p m
  else if m.opcode = opTwConfirm then twConfirm ap s p m
  else if m.opcode = opTwVerdict then twVerdict ap s m
  else if m.opcode = opTwServing then twServing s p m
  else if m.opcode = opTwDetach then
    (match m.fld 0 2 with
     | 0 => twDetachRequest s
     | 1 => twDetachConfirm ap s
     | 2 => twDetachRefuse s
     | _ => s)
  else if m.opcode = opTwCatchup then
    (match m.fld 0 2 with
     | 0 => twCatchupEpoch s m
     | 1 => twCatchupStart s m
     | 2 => twCatchupDone s m
     | _ => twCatchupAbort ap s)
  else roleDiscard s

/-- A twin-range message: handled here, or passed on towards the ZX964 that it names. -/
def twinMessage (s : State) (p : Nat) (m : Msg) : State :=
  if fromQuarantined s p && m.opcode != opTwBeat then s
  else if identOf (bits m.peer 0 6) (bits m.peer 6 1) = ownIdent s then twinHere s p m
  else sendToPair s (bits m.peer 0 6) m false p

/-- A request of a host that came over a trunk or twin link: its way back is known. -/
def learnVia (s : State) (p : Nat) (m : Msg) : State :=
  if peerIsAgent m.peer then s else s.onTm (fun t => { t with hostVia := t.hostVia.put (peerHost m.peer) p })

/-- A request of the fabric whose form is right goes on its way. -/
def fabricGo (s : State) (p : Nat) (m : Msg) : State :=
  if m.isAddressed then routeReq s { m := m, port := some p } else routeService s p m

/-- A request of the fabric: its way back is known; where the home is full, it waits in its class, and what comes behind it
in the class too (R68, R260). -/
def fabricRequest (s : State) (p : Nat) (m : Msg) : State :=
  let s1 := learnVia s p m
  if !hostAnswer m && (classHeld s1 p m.tc || homeHeld s1 m) then holdMsg s1 p m else fabricGo s1 p m

/-- A message on a trunk or twin port (R10, R32, R256 last paragraph, R305). -/
def fabricMessage (s : State) (p : Nat) (m : Msg) : State :=
  if m.opcode = opEmpty ∨ s.twin.pair = psQuarantined then s
  else if m.isTwin then twinMessage s p m
  else if fromQuarantined s p then s
  else if m.opcode = opResp ∨ m.opcode = opRespData then respMessage s p m
  else
    match badForm m with
    | some x => if m.opcode = opSnpResp then roleDiscard s else fabricRefuse s p m x
    | none =>
      if m.opcode = opMilestone then milestoneEffect s p m
      else if m.opcode = opSnpInv ∨ m.opcode = opSnpShare ∨ m.opcode = opStashFill then toHost s (peerHost m.peer) m
      else if m.opcode = opSnpResp then routeSnoop s p m
      else if m.opcode = opWrNc ∧ !peerIsAgent m.peer ∧ attached s (peerHost m.peer) then toHost s (peerHost m.peer) m
      else if m.isAnswered then fabricRequest s p m
      else s

/-! ## Every port -/

/-- Whether the link keeper answers for the switch: in `QUIET`, and through a warm start that keeps stack contents (R382). -/
def linkKeeper (s : State) : Bool :=
  s.power.state == pwQuiet ||
  (s.power.state == pwStarting && (match s.power.start with | some st => decide (st.kind = 1) | none => false))

/-- A message that the link keeper sees: twin-range messages pass, a request is answered (R382). -/
def keeperMessage (s : State) (p : Nat) (m : Msg) : State :=
  if m.isTwin then twinMessage s p m
  else if m.opcode = opEmpty ∨ 0x30 ≤ m.opcode then s
  else emit s p (mkResp m stRetry dPowerTransition (ownAgent s agentPorts) 0 1)

/-- A message on a link in `SECURE`: only SPDM passes (R285, R362). -/
def secureMessage (s : State) (p : Nat) (m : Msg) : State :=
  if m.opcode = opRespData ∧ s.security.sessions.has p then spdmResponse s p m
  else if m.opcode = opMgmt ∧ m.func = 4 then spdmRequest s (some p) m
  else if m.opcode = opEmpty then s
  else roleDiscard s

/-- A message on a host port; during a handshake every new request is sent away (R380). -/
def hostPortMessage (s : State) (p : Nat) (m : Msg) : State :=
  if s.power.shake.isSome ∧ m.opcode ≠ opEmpty ∧ m.opcode < 0x30 then refuseAt s p m stRetry dPowerTransition
  else hostMessage go s p m

/-- A message held on a port goes on its way: a host's as admitted, another's as it came. -/
def goOn (s : State) (p : Nat) (m : Msg) : State := if portRole s p = roleHost then go s p m else fabricGo s p m

/-- A message has been received whole on a port; its reserved bits are ignored from here on (R9). -/
def receive (s : State) (p : Nat) (m0 : Msg) : State :=
  let m := m0.heard
  if s.power.losing.isSome ∨ s.power.halted then s
  else if linkKeeper s then keeperMessage s p m
  else if !inService s then s
  else if linkState s p = lsSecure then secureMessage s p m
  else if portRole s p = roleHost then hostPortMessage s p m
  else if portRole s p = roleTray then
    (if m.opcode = opResp ∨ m.opcode = opRespData then trayAnswer s p m else if m.opcode = opEmpty then s else roleDiscard s)
  else fabricMessage s p m

/-! ## What follows of itself -/

/-- The logical ports that a saturated item concerns (R342): classes 0 lane, 1 port, 2 light engine, 3 laser input. -/
def itemPorts (s : State) (k : Nat) : List Nat :=
  let cls := k / 2 ^ 16
  let item := k % 2 ^ 16
  if cls = 0 then (lportsOf s (item / 8)).filter (fun p => (portLanes s p).contains (item % 8))
  else if cls = 1 then [item]
  else if cls = 2 then ((List.range 4).map (fun i => lportsOf s (4 * item + i))).flatten
  else lportsOf s item

/-- A saturated item's ports are disabled once no path change leaves them (R342). -/
def retireItem (s : State) (k : Nat) : State :=
  let ps := itemPorts s k
  if s.tm.changes.any (fun c => ps.contains c.2.oldPort) then s
  else
    ps.foldl portDisable (s.onHealth (fun h => { h with retire := eraseFirst h.retire (fun x => decide (x = k)) }))

/-- Whether a path should leave its port (R341): the port is drained and another is not. -/
def shouldMove (s : State) (x : Nat × Nat) : Option Nat :=
  if drained s x.2 ∧ !s.tm.changes.has x.1 then
    (candidates s x.1).find? (fun q => decide (q ≠ x.2) && !drained s q)
  else none

/-- Paths leave drained ports with cause 1 (R341). -/
def leaveDrained (s : State) : State :=
  s.tm.paths.foldl (fun s x => match shouldMove s x with | some q => pathChangeStart s x.1 q 1 | none => s) s

/-- Whether nothing more follows of itself. -/
def quiet (s : State) : Bool :=
  s.compute.inbox.isEmpty && !(takesBatches s && (nextBatch s).isSome) && s.home.ringQ.isEmpty && s.health.retire.isEmpty && s.tm.held.isEmpty && !mgmtDue s && pairQuiet s &&
  (s.health.scores.isEmpty || s.tm.paths.all (fun x => (shouldMove s x).isNone))

/-- One round of what follows of itself: responses that cores have received, event-ring records, held messages, paths of
drained ports, saturated items, and the twin's conditions. -/
def followUp (s : State) : State :=
  let s1 := flushRings (handleInbox 4096 (resumeInbox s))
  let s2 := leaveDrained (releaseAll goOn (mgmtResume s1.tm.mgmtWait.length s1))
  pairConditions ap (s2.health.retire.foldl retireItem s2)

/-- Rounds until nothing more follows, at most n. -/
def settleFuel : Nat → State → State
  | 0, s => s
  | n + 1, s => if quiet s then s else settleFuel n (followUp s)

/-- What follows of itself after a command. -/
def settle (s : State) : State := settleFuel 4 s

/-- The contact `EVENT_N` follows the CAN queue: asserted, which is low, while it holds a record, and released in `OFF` (R368,
R425). -/
def drivePins (s : State) : State :=
  s.onPower (fun p => { p with eventN := !s.dict.canQ.isEmpty && decide (p.state ≠ pwOff) })

/-- The outcome of a command: the state after it and after what follows of itself, with the queue as it was. -/
def done (s t : State) : Host.Outcome State Fault Refusal := .next { drivePins (settle t) with pending := s.pending }

end Sys2Proof.Machine
end

