-- ==== Sys2Proof/Machine/Commands.lean ====
section
/-! DEFINITION. What the rows share: a write of one object, and when the device's own events can happen. -/

namespace Sys2Proof.Machine

/-- A write of a piece of an object by a requester, on that requester's transport. -/
def piece (s : State) (w : Requester) (o offset len v : Nat) : State :=
  submit s { access := { who := w, idx := o / 2 ^ 8, sub := o % 2 ^ 8, offset := offset, len := len, value := v } }

/-- A write of a whole object by a requester. -/
def command (s : State) (w : Requester) (o len v : Nat) : State := piece s w o 0 len v

/-- An event of a timer, a link or an engine that works only while local time counts (R375, R378, R396). -/
def timed (s : State) (f : State → State) : State := if clocked s then f s else s

/-- An event of a block that works only in `FULL` and `TRIM` (R379, R382). -/
def running (s : State) (f : State → State) : State := if inService s then f s else s

/-- An event of a part that works in every state but `OFF` (R377, R379). -/
def powered (s : State) (f : State → State) : State := if s.power.state = pwOff then s else f s

/-- No command waits: one nanosecond of local time passes, where local time counts (R12, R375; log entry 50). -/
def idle (s : State) : State := timed s (fun s => reachTime s (s.now + 1))

end Sys2Proof.Machine
end

