-- ==== Sys2Proof/Machine/RowComputeEvents.lean ====
section
/-! DEFINITION. Meanings: the compute cores: legs, reduce rounds and idle engines (R155-R200). -/

namespace Sys2Proof.Machine

/-- `REDUCE_ROUND_COMPLETE` (R156). -/
def execReduceRoundComplete (slot : Nat) (s : State) : Host.Outcome State Fault Refusal :=
  done s (timed s (fun s => roundComplete s slot))

/-- `REDUCE_ROUND_TIMEOUT` (R160). -/
def execReduceRoundTimeout (slot : Nat) (s : State) : Host.Outcome State Fault Refusal :=
  done s (timed s (fun s => roundTimeout s slot))

/-- `ENGINE_IDLE` (R166). -/
def execEngineIdle (engine : Nat) (s : State) : Host.Outcome State Fault Refusal :=
  done s (running s (fun s => engineIdle s engine))

/-- `CORE_PLL_IDLE` (R377). -/
def execCorePllIdle (core : Nat) (s : State) : Host.Outcome State Fault Refusal :=
  done s (running s (fun s => corePllIdle s core))

/-- `MOVE` (R177). -/
def execMove (core : Nat) (s : State) : Host.Outcome State Fault Refusal :=
  done s (running s (fun s => moveLeg s core))

/-- `GATHER` (R178). -/
def execGather (core : Nat) (s : State) : Host.Outcome State Fault Refusal :=
  done s (running s (fun s => gatherLeg s core))

/-- `ARRAY` (R179). -/
def execArray (core : Nat) (s : State) : Host.Outcome State Fault Refusal :=
  done s (running s (fun s => arrayLeg s core))

/-- `VECTOR` (R180). -/
def execVector (core : Nat) (s : State) : Host.Outcome State Fault Refusal :=
  done s (running s (fun s => vectorLeg s core))

/-- `SELECT` (R181). -/
def execSelect (core : Nat) (s : State) : Host.Outcome State Fault Refusal :=
  done s (running s (fun s => selectLeg s core))

/-- `SEND` (R182). -/
def execSend (core : Nat) (s : State) : Host.Outcome State Fault Refusal :=
  done s (running s (fun s => sendLeg s core))

/-- `STASH` (R182). -/
def execStash (core : Nat) (s : State) : Host.Outcome State Fault Refusal :=
  done s (running s (fun s => stashLeg s core))

/-- `SIGNAL` (R183). -/
def execSignal (core : Nat) (s : State) : Host.Outcome State Fault Refusal :=
  done s (running s (fun s => signalLeg s core))

/-- `AWAIT` (R185). -/
def execAwait (core : Nat) (s : State) : Host.Outcome State Fault Refusal :=
  done s (running s (fun s => awaitLeg s core))

/-- `REPEAT` (R175). -/
def execRepeatLeg (core : Nat) (s : State) : Host.Outcome State Fault Refusal :=
  done s (running s (fun s => repeatLeg s core))

/-- `END` (R188). -/
def execEndLeg (core : Nat) (s : State) : Host.Outcome State Fault Refusal :=
  done s (running s (fun s => endLeg s core))

/-- `AWAIT_TIMEOUT` (R185). -/
def execAwaitTimeout (core : Nat) (s : State) : Host.Outcome State Fault Refusal :=
  done s (timed s (fun s => awaitTimeout s core))

end Sys2Proof.Machine
end

