-- ==== Sys2Proof/Machine/RowHomeEvents.lean ====
section
/-! DEFINITION. Meanings: the home's and the fabric's own events (R21, R37-R84). -/

namespace Sys2Proof.Machine

/-- `DRAIN_COMPLETE` (R21). -/
def execDrainComplete (ext : Nat) (s : State) : Host.Outcome State Fault Refusal :=
  done s (timed s (fun s => drainComplete s ext))

/-- `DRAIN_TIMER_EXPIRY` (R21). -/
def execDrainTimerExpiry (ext : Nat) (s : State) : Host.Outcome State Fault Refusal :=
  done s (timed s (fun s => drainTimerExpiry s ext))

/-- `TILE_ZERO_MARK` (R21). -/
def execTileZeroMark (ext : Nat) (s : State) : Host.Outcome State Fault Refusal :=
  done s (timed s (fun s => tileZeroMark s ext))

/-- `MERGE_HOLD_EXPIRY` (R47). -/
def execMergeHoldExpiry (line : Nat) (s : State) : Host.Outcome State Fault Refusal :=
  done s (timed s (fun s => mergeHoldExpiry s line))

/-- `RESIDENCY_LIMIT` (R37). -/
def execResidencyLimit (pos : Nat) (s : State) : Host.Outcome State Fault Refusal :=
  done s (timed s (fun s => residencyLimit s pos))

/-- `REQUEST_TIMEOUT` (R38). -/
def execRequestTimeout (peer tag : Nat) (s : State) : Host.Outcome State Fault Refusal :=
  done s (timed s (fun s => if peerIsAgent peer then coreTimeout s (bits peer 7 5 - 1) tag else requestTimeout s peer tag))

/-- `PATH_CHANGE_START` (R43). -/
def execPathChangeStart (pair newPort cause : Nat) (s : State) : Host.Outcome State Fault Refusal :=
  done s (timed s (fun s => pathChangeStart s pair newPort cause))

/-- `MILESTONE_TIMEOUT` (R43). -/
def execMilestoneTimeout (pair : Nat) (s : State) : Host.Outcome State Fault Refusal :=
  done s (timed s (fun s => milestoneTimeout s pair))

/-- `LEDGER_ENTRY_EXPIRY` (R52). -/
def execLedgerEntryExpiry (host id : Nat) (s : State) : Host.Outcome State Fault Refusal :=
  done s (timed s (fun s => ledgerExpiry s host id))

/-- `DWELL_EXPIRY` (R70). -/
def execDwellExpiry (line : Nat) (s : State) : Host.Outcome State Fault Refusal :=
  done s (timed s (fun s => dwellExpiry s line))

/-- `HOME_TIMEOUT` (R71). -/
def execHomeTimeout (line : Nat) (s : State) : Host.Outcome State Fault Refusal :=
  done s (timed s (fun s => homeTimeout s line))

/-- `STASH_OFFER_TIMEOUT` (R75). -/
def execStashOfferTimeout (line : Nat) (s : State) : Host.Outcome State Fault Refusal :=
  done s (timed s (fun s => stashOfferTimeout s line))

/-- `TIER_ACCESS_DONE` (R69). -/
def execTierAccessDone (line errs : Nat) (s : State) : Host.Outcome State Fault Refusal :=
  done s (timed s (fun s => tierAccessDone s line errs))

/-- `FILTER_WALK_COMPLETE` (R78). -/
def execFilterWalkComplete (s : State) : Host.Outcome State Fault Refusal :=
  done s (timed s (fun s => walkComplete s))

/-- `HOST_LOSS_HOLD_EXPIRY` (R79). -/
def execHostLossHoldExpiry (host : Nat) (s : State) : Host.Outcome State Fault Refusal :=
  done s (hostHoldExpiry s host)

end Sys2Proof.Machine
end

