-- ==== Sys2Proof/Machine/RowMessages.lean ====
section
/-! DEFINITION. Meanings: the rows that are received messages (R10, R16, R31, R256, R305). -/

namespace Sys2Proof.Machine

/-- `RD_SHARED`: message RD_SHARED has arrived on a port (R69). -/
def execRdShared (port : Nat) (m : Msg) (s : State) : Host.Outcome State Fault Refusal :=
  done s (receive s port (m.withOp opRdShared))

/-- `RD_OWN`: message RD_OWN has arrived on a port (R69). -/
def execRdOwn (port : Nat) (m : Msg) (s : State) : Host.Outcome State Fault Refusal :=
  done s (receive s port (m.withOp opRdOwn))

/-- `RD_NC`: message RD_NC has arrived on a port (R73). -/
def execRdNc (port : Nat) (m : Msg) (s : State) : Host.Outcome State Fault Refusal :=
  done s (receive s port (m.withOp opRdNc))

/-- `WR_NC`: message WR_NC has arrived on a port (R73). -/
def execWrNc (port : Nat) (m : Msg) (s : State) : Host.Outcome State Fault Refusal :=
  done s (receive s port (m.withOp opWrNc))

/-- `WR_STASH`: message WR_STASH has arrived on a port (R74). -/
def execWrStash (port : Nat) (m : Msg) (s : State) : Host.Outcome State Fault Refusal :=
  done s (receive s port (m.withOp opWrStash))

/-- `WB_DIRTY`: message WB_DIRTY has arrived on a port (R67). -/
def execWbDirty (port : Nat) (m : Msg) (s : State) : Host.Outcome State Fault Refusal :=
  done s (receive s port (m.withOp opWbDirty))

/-- `EVICT_CLEAN`: message EVICT_CLEAN has arrived on a port (R67). -/
def execEvictClean (port : Nat) (m : Msg) (s : State) : Host.Outcome State Fault Refusal :=
  done s (receive s port (m.withOp opEvictClean))

/-- `ATOMIC`: message ATOMIC has arrived on a port (R54). -/
def execAtomic (port : Nat) (m : Msg) (s : State) : Host.Outcome State Fault Refusal :=
  done s (receive s port (m.withOp opAtomic))

/-- `FENCE`: message FENCE has arrived on a port (R39). -/
def execFence (port : Nat) (m : Msg) (s : State) : Host.Outcome State Fault Refusal :=
  done s (receive s port (m.withOp opFence))

/-- `MILESTONE`: message MILESTONE has arrived on a port (R43). -/
def execMilestone (port : Nat) (m : Msg) (s : State) : Host.Outcome State Fault Refusal :=
  done s (receive s port (m.withOp opMilestone))

/-- `SNP_INV`: message SNP_INV has arrived on a port (R64). -/
def execSnpInv (port : Nat) (m : Msg) (s : State) : Host.Outcome State Fault Refusal :=
  done s (receive s port (m.withOp opSnpInv))

/-- `SNP_SHARE`: message SNP_SHARE has arrived on a port (R64). -/
def execSnpShare (port : Nat) (m : Msg) (s : State) : Host.Outcome State Fault Refusal :=
  done s (receive s port (m.withOp opSnpShare))

/-- `STASH_FILL`: message STASH_FILL has arrived on a port (R74). -/
def execStashFill (port : Nat) (m : Msg) (s : State) : Host.Outcome State Fault Refusal :=
  done s (receive s port (m.withOp opStashFill))

/-- `SNP_RESP`: message SNP_RESP has arrived on a port (R64). -/
def execSnpResp (port : Nat) (m : Msg) (s : State) : Host.Outcome State Fault Refusal :=
  done s (receive s port (m.withOp opSnpResp))

/-- `RESP`: message RESP has arrived on a port (R31). -/
def execResp (port : Nat) (m : Msg) (s : State) : Host.Outcome State Fault Refusal :=
  done s (receive s port (m.withOp opResp))

/-- `RESP_DATA`: message RESP_DATA has arrived on a port (R31). -/
def execRespData (port : Nat) (m : Msg) (s : State) : Host.Outcome State Fault Refusal :=
  done s (receive s port (m.withOp opRespData))

/-- `NOTICE`: service request NOTICE has arrived on a port (R81). -/
def execNotice (port : Nat) (m : Msg) (s : State) : Host.Outcome State Fault Refusal :=
  done s (receive s port (m.withFunc opMgmt 3))

/-- `LAUNCH`: service request LAUNCH has arrived on a port (R193). -/
def execLaunch (port : Nat) (m : Msg) (s : State) : Host.Outcome State Fault Refusal :=
  done s (receive s port (m.withFunc opDoorbell 1))

/-- `COUNT`: service request COUNT has arrived on a port (R195). -/
def execCount (port : Nat) (m : Msg) (s : State) : Host.Outcome State Fault Refusal :=
  done s (receive s port (m.withFunc opDoorbell 2))

/-- `LOOKUP`: service request LOOKUP has arrived on a port (R208). -/
def execLookup (port : Nat) (m : Msg) (s : State) : Host.Outcome State Fault Refusal :=
  done s (receive s port (m.withFunc opSearch 1))

/-- `WALK`: service request WALK has arrived on a port (R212). -/
def execWalk (port : Nat) (m : Msg) (s : State) : Host.Outcome State Fault Refusal :=
  done s (receive s port (m.withFunc opSearch 2))

/-- `SEARCH_WRITE`: service request SEARCH_WRITE has arrived on a port (R214). -/
def execSearchWrite (port : Nat) (m : Msg) (s : State) : Host.Outcome State Fault Refusal :=
  done s (receive s port (m.withFunc opSearch 3))

/-- `SEARCH_CLEAR`: service request SEARCH_CLEAR has arrived on a port (R214). -/
def execSearchClear (port : Nat) (m : Msg) (s : State) : Host.Outcome State Fault Refusal :=
  done s (receive s port (m.withFunc opSearch 4))

/-- `OPEN`: service request OPEN has arrived on a port (R250). -/
def execOpenRec (port : Nat) (m : Msg) (s : State) : Host.Outcome State Fault Refusal :=
  done s (receive s port (m.withFunc opHandoff 1))

/-- `SEAL`: service request SEAL has arrived on a port (R250). -/
def execSeal (port : Nat) (m : Msg) (s : State) : Host.Outcome State Fault Refusal :=
  done s (receive s port (m.withFunc opHandoff 2))

/-- `OFFER`: service request OFFER has arrived on a port (R250). -/
def execOffer (port : Nat) (m : Msg) (s : State) : Host.Outcome State Fault Refusal :=
  done s (receive s port (m.withFunc opHandoff 3))

/-- `WITHDRAW`: service request WITHDRAW has arrived on a port (R250). -/
def execWithdraw (port : Nat) (m : Msg) (s : State) : Host.Outcome State Fault Refusal :=
  done s (receive s port (m.withFunc opHandoff 4))

/-- `CLAIM`: service request CLAIM has arrived on a port (R250). -/
def execClaim (port : Nat) (m : Msg) (s : State) : Host.Outcome State Fault Refusal :=
  done s (receive s port (m.withFunc opHandoff 5))

/-- `HANDOFF_RELEASE`: service request HANDOFF_RELEASE has arrived on a port (R250). -/
def execHandoffRelease (port : Nat) (m : Msg) (s : State) : Host.Outcome State Fault Refusal :=
  done s (receive s port (m.withFunc opHandoff 6))

/-- `DISCARD`: service request DISCARD has arrived on a port (R250). -/
def execDiscard (port : Nat) (m : Msg) (s : State) : Host.Outcome State Fault Refusal :=
  done s (receive s port (m.withFunc opHandoff 7))

/-- `QUERY`: service request QUERY has arrived on a port (R248). -/
def execQuery (port : Nat) (m : Msg) (s : State) : Host.Outcome State Fault Refusal :=
  done s (receive s port (m.withFunc opHandoff 8))

/-- `TW_MIRROR`: message TW_MIRROR has arrived on a port (R309). -/
def execTwMirror (port : Nat) (m : Msg) (s : State) : Host.Outcome State Fault Refusal :=
  done s (receive s port (m.withOp opTwMirror))

/-- `TW_MIRROR_ACK`: message TW_MIRROR_ACK has arrived on a port (R309). -/
def execTwMirrorAck (port : Nat) (m : Msg) (s : State) : Host.Outcome State Fault Refusal :=
  done s (receive s port (m.withOp opTwMirrorAck))

/-- `TW_BEAT`: message TW_BEAT has arrived on a port (R320). -/
def execTwBeat (port : Nat) (m : Msg) (s : State) : Host.Outcome State Fault Refusal :=
  done s (receive s port (m.withOp opTwBeat))

/-- `TW_SUSPECT`: message TW_SUSPECT has arrived on a port (R321). -/
def execTwSuspect (port : Nat) (m : Msg) (s : State) : Host.Outcome State Fault Refusal :=
  done s (receive s port (m.withOp opTwSuspect))

/-- `TW_CONFIRM`: message TW_CONFIRM has arrived on a port (R322). -/
def execTwConfirm (port : Nat) (m : Msg) (s : State) : Host.Outcome State Fault Refusal :=
  done s (receive s port (m.withOp opTwConfirm))

/-- `TW_VERDICT`: message TW_VERDICT has arrived on a port (R323). -/
def execTwVerdict (port : Nat) (m : Msg) (s : State) : Host.Outcome State Fault Refusal :=
  done s (receive s port (m.withOp opTwVerdict))

/-- `TW_SERVING`: message TW_SERVING has arrived on a port (R305). -/
def execTwServing (port : Nat) (m : Msg) (s : State) : Host.Outcome State Fault Refusal :=
  done s (receive s port (m.withOp opTwServing))

/-- `TW_DETACH_REQUEST`: message TW_DETACH_REQUEST has arrived on a port (R313). -/
def execTwDetachRequest (port : Nat) (m : Msg) (s : State) : Host.Outcome State Fault Refusal :=
  done s (receive s port (m.withStep opTwDetach 0))

/-- `TW_DETACH_CONFIRM`: message TW_DETACH_CONFIRM has arrived on a port (R313). -/
def execTwDetachConfirm (port : Nat) (m : Msg) (s : State) : Host.Outcome State Fault Refusal :=
  done s (receive s port (m.withStep opTwDetach 1))

/-- `TW_DETACH_REFUSE`: message TW_DETACH_REFUSE has arrived on a port (R313). -/
def execTwDetachRefuse (port : Nat) (m : Msg) (s : State) : Host.Outcome State Fault Refusal :=
  done s (receive s port (m.withStep opTwDetach 2))

/-- `TW_CATCHUP_EPOCH`: message TW_CATCHUP_EPOCH has arrived on a port (R314). -/
def execTwCatchupEpoch (port : Nat) (m : Msg) (s : State) : Host.Outcome State Fault Refusal :=
  done s (receive s port (m.withStep opTwCatchup 0))

/-- `TW_CATCHUP_START`: message TW_CATCHUP_START has arrived on a port (R314). -/
def execTwCatchupStart (port : Nat) (m : Msg) (s : State) : Host.Outcome State Fault Refusal :=
  done s (receive s port (m.withStep opTwCatchup 1))

/-- `TW_CATCHUP_DONE`: message TW_CATCHUP_DONE has arrived on a port (R313). -/
def execTwCatchupDone (port : Nat) (m : Msg) (s : State) : Host.Outcome State Fault Refusal :=
  done s (receive s port (m.withStep opTwCatchup 2))

/-- `TW_CATCHUP_ABORT`: message TW_CATCHUP_ABORT has arrived on a port (R336). -/
def execTwCatchupAbort (port : Nat) (m : Msg) (s : State) : Host.Outcome State Fault Refusal :=
  done s (receive s port (m.withStep opTwCatchup 3))

/-- `SPDM`: service request SPDM has arrived on a port (R362). -/
def execSpdm (port : Nat) (m : Msg) (s : State) : Host.Outcome State Fault Refusal :=
  done s (receive s port (m.withFunc opMgmt 4))

end Sys2Proof.Machine
end

