-- ==== Sys2Proof/Machine/RowObjects.lean ====
section
/-! DEFINITION. Meanings: the rows that are dictionary writes of one object (R351-R364). -/

namespace Sys2Proof.Machine

/-- `OBJECT_WRITE`: a write of any object, in any piece that its transport carries (R351). -/
def execObjectWrite (a : Access) (s : State) : Host.Outcome State Fault Refusal :=
  done s (submit s { access := a })

/-- `BIND`: a write of 1 to object 2110.03 (R21). -/
def execBind (who : Requester) (s : State) : Host.Outcome State Fault Refusal :=
  done s (command s who 0x211003 1 1)

/-- `REVOKE`: a write of 2 to object 2110.03 (R21). -/
def execRevoke (who : Requester) (s : State) : Host.Outcome State Fault Refusal :=
  done s (command s who 0x211003 1 2)

/-- `RESTORE`: a write of 3 to object 2110.03 (R21). -/
def execRestore (who : Requester) (s : State) : Host.Outcome State Fault Refusal :=
  done s (command s who 0x211003 1 3)

/-- `EXTENT_RELEASE`: a write of 4 to object 2110.03 (R21). -/
def execExtentRelease (who : Requester) (s : State) : Host.Outcome State Fault Refusal :=
  done s (command s who 0x211003 1 4)

/-- `HOST_DECLARE_LOST`: a write of 1 to object 2420.03 (R79). -/
def execHostDeclareLost (who : Requester) (s : State) : Host.Outcome State Fault Refusal :=
  done s (command s who 0x242003 1 1)

/-- `READMIT`: a write of 2 to object 2420.03 (R83). -/
def execReadmit (who : Requester) (s : State) : Host.Outcome State Fault Refusal :=
  done s (command s who 0x242003 1 2)

/-- `SHARERS_DROPPED`: a write of 1 to object 2B30.03 (R329). -/
def execSharersDropped (who : Requester) (s : State) : Host.Outcome State Fault Refusal :=
  done s (command s who 0x2B3003 1 1)

/-- `MEMBER_DECLARE_LOST`: a write of 1 to object 2520.10 (R98). -/
def execMemberDeclareLost (who : Requester) (s : State) : Host.Outcome State Fault Refusal :=
  done s (command s who 0x252010 1 1)

/-- `REPLACE`: a write of 2 to object 2520.10 (R100). -/
def execReplace (who : Requester) (s : State) : Host.Outcome State Fault Refusal :=
  done s (command s who 0x252010 1 2)

/-- `FLUSH`: a write of 1 to object 2510.08 (R105). -/
def execFlush (who : Requester) (s : State) : Host.Outcome State Fault Refusal :=
  done s (command s who 0x251008 1 1)

/-- `CACHE_QUOTA_WRITE`: a write of object 2510.02 (R92). -/
def execCacheQuotaWrite (who : Requester) (tiles : Nat) (s : State) : Host.Outcome State Fault Refusal :=
  done s (command s who 0x251002 4 tiles)

/-- `WINDOW_DESCRIPTOR_WRITE`: a write of object 2540.03 (R107). -/
def execWindowDescriptorWrite (who : Requester) (value : Nat) (s : State) : Host.Outcome State Fault Refusal :=
  done s (command s who 0x254003 16 value)

/-- `WINDOW_CURSOR_WRITE`: a write of object 2540.04 (R110). -/
def execWindowCursorWrite (who : Requester) (value : Nat) (s : State) : Host.Outcome State Fault Refusal :=
  done s (command s who 0x254004 2 value)

/-- `REGION_CREATE`: a write of 1 to object 2560.03 (R113). -/
def execRegionCreate (who : Requester) (s : State) : Host.Outcome State Fault Refusal :=
  done s (command s who 0x256003 1 1)

/-- `REGION_DESTROY`: a write of 2 to object 2560.03 (R119). -/
def execRegionDestroy (who : Requester) (s : State) : Host.Outcome State Fault Refusal :=
  done s (command s who 0x256003 1 2)

/-- `TABLE_LOAD`: a write of 1 to object 2600.03 (R135). -/
def execTableLoad (who : Requester) (s : State) : Host.Outcome State Fault Refusal :=
  done s (command s who 0x260003 1 1)

/-- `TABLE_RETIRE`: a write of 2 to object 2600.03 (R135). -/
def execTableRetire (who : Requester) (s : State) : Host.Outcome State Fault Refusal :=
  done s (command s who 0x260003 1 2)

/-- `ARM`: a write of 1 to object 2710.05 (R155). -/
def execArm (who : Requester) (s : State) : Host.Outcome State Fault Refusal :=
  done s (command s who 0x271005 1 1)

/-- `REARM`: a write of 2 to object 2710.05 (R156). -/
def execRearm (who : Requester) (s : State) : Host.Outcome State Fault Refusal :=
  done s (command s who 0x271005 1 2)

/-- `DISARM`: a write of 3 to object 2710.05 (R156). -/
def execDisarm (who : Requester) (s : State) : Host.Outcome State Fault Refusal :=
  done s (command s who 0x271005 1 3)

/-- `ALLOC`: a write of 1 to object 2810.05 (R189). -/
def execAlloc (who : Requester) (s : State) : Host.Outcome State Fault Refusal :=
  done s (command s who 0x281005 1 1)

/-- `CLOSE`: a write of 2 to object 2810.05 (R189). -/
def execClose (who : Requester) (s : State) : Host.Outcome State Fault Refusal :=
  done s (command s who 0x281005 1 2)

/-- `ACCEPT`: a write of 3 to object 2810.05 (R191). -/
def execAccept (who : Requester) (s : State) : Host.Outcome State Fault Refusal :=
  done s (command s who 0x281005 1 3)

/-- `REJECT`: a write of 4 to object 2810.05 (R191). -/
def execReject (who : Requester) (s : State) : Host.Outcome State Fault Refusal :=
  done s (command s who 0x281005 1 4)

/-- `ITINERARY_RETIRE`: a write of 5 to object 2810.05 (R189). -/
def execItineraryRetire (who : Requester) (s : State) : Host.Outcome State Fault Refusal :=
  done s (command s who 0x281005 1 5)

/-- `ITINERARY_FREE`: a write of 6 to object 2810.05 (R189). -/
def execItineraryFree (who : Requester) (s : State) : Host.Outcome State Fault Refusal :=
  done s (command s who 0x281005 1 6)

/-- `CORE_RESET`: a write of 1 to object 2A40.02 (R200). -/
def execCoreReset (who : Requester) (s : State) : Host.Outcome State Fault Refusal :=
  done s (command s who 0x2A4002 1 1)

/-- `ENTRY_RECORD_WRITE`: a write of object 2911.02 (R218). -/
def execEntryRecordWrite (who : Requester) (value : Nat) (s : State) : Host.Outcome State Fault Refusal :=
  done s (command s who 0x291102 96 value)

/-- `PARTITION_CREATE`: a write of 1 to object 2910.03 (R222). -/
def execPartitionCreate (who : Requester) (s : State) : Host.Outcome State Fault Refusal :=
  done s (command s who 0x291003 1 1)

/-- `PARTITION_DESTROY`: a write of 2 to object 2910.03 (R222). -/
def execPartitionDestroy (who : Requester) (s : State) : Host.Outcome State Fault Refusal :=
  done s (command s who 0x291003 1 2)

/-- `COMPOSITION_CREATE`: a write of 1 to object 2A10.03 (R228). -/
def execCompositionCreate (who : Requester) (s : State) : Host.Outcome State Fault Refusal :=
  done s (command s who 0x2A1003 1 1)

/-- `COMPOSITION_RESET`: a write of 2 to object 2A10.03 (R239). -/
def execCompositionReset (who : Requester) (s : State) : Host.Outcome State Fault Refusal :=
  done s (command s who 0x2A1003 1 2)

/-- `COMPOSITION_DESTROY`: a write of 3 to object 2A10.03 (R228). -/
def execCompositionDestroy (who : Requester) (s : State) : Host.Outcome State Fault Refusal :=
  done s (command s who 0x2A1003 1 3)

/-- `COMPOSITION_DESCRIPTOR_WRITE`: a write of a piece of object 2A10.02 (R227). -/
def execCompositionDescriptorWrite (who : Requester) (offset len value : Nat) (s : State) : Host.Outcome State Fault Refusal :=
  done s (piece s who 0x2A1002 offset len value)

/-- `JOIN`: a write of 1 to object 2A11.03 (R230). -/
def execJoin (who : Requester) (s : State) : Host.Outcome State Fault Refusal :=
  done s (command s who 0x2A1103 1 1)

/-- `LEAVE`: a write of 2 to object 2A11.03 (R231). -/
def execLeave (who : Requester) (s : State) : Host.Outcome State Fault Refusal :=
  done s (command s who 0x2A1103 1 2)

/-- `FORCE_FREE`: a write of 1 to object 2A30.03 (R250). -/
def execForceFree (who : Requester) (s : State) : Host.Outcome State Fault Refusal :=
  done s (command s who 0x2A3003 1 1)

/-- `GATE_SWITCH_TIME_WRITE`: a write of object 2350.06 (R272). -/
def execGateSwitchTimeWrite (who : Requester) (time : Nat) (s : State) : Host.Outcome State Fault Refusal :=
  done s (command s who 0x235006 8 time)

/-- `BUDGET_WRITE`: a write of one of the budget objects 2360.03 to 2360.06 (R276). -/
def execBudgetWrite (who : Requester) (sub value : Nat) (s : State) : Host.Outcome State Fault Refusal :=
  done s (command s who (0x236000 + sub) (if sub = 6 then 1 else 4) value)

/-- `PORT_ENABLE`: a write of 1 to object 2120.05 (R285). -/
def execPortEnable (who : Requester) (s : State) : Host.Outcome State Fault Refusal :=
  done s (command s who 0x212005 1 1)

/-- `PORT_DISABLE`: a write of 0 to object 2120.05 (R285). -/
def execPortDisable (who : Requester) (s : State) : Host.Outcome State Fault Refusal :=
  done s (command s who 0x212005 1 0)

/-- `PORT_RESET`: a write of 1 to object 2120.06 (R285). -/
def execPortReset (who : Requester) (s : State) : Host.Outcome State Fault Refusal :=
  done s (command s who 0x212006 1 1)

/-- `PORT_RETRAIN`: a write of 2 to object 2120.06 (R285). -/
def execPortRetrain (who : Requester) (s : State) : Host.Outcome State Fault Refusal :=
  done s (command s who 0x212006 1 2)

/-- `BREAKOUT_WRITE`: a write of object 2120.02 (R279). -/
def execBreakoutWrite (who : Requester) (value : Nat) (s : State) : Host.Outcome State Fault Refusal :=
  done s (command s who 0x212002 1 value)

/-- `PORT_ROLE_WRITE`: a write of object 2120.04 (R280). -/
def execPortRoleWrite (who : Requester) (value : Nat) (s : State) : Host.Outcome State Fault Refusal :=
  done s (command s who 0x212004 1 value)

/-- `MIRROR_DISABLE`: a write of 0 to object 2B00.02 (R316). -/
def execMirrorDisable (who : Requester) (s : State) : Host.Outcome State Fault Refusal :=
  done s (command s who 0x2B0002 1 0)

/-- `CAN_EVENT_POP`: a write of 1 to object 2C21.03 (R368). -/
def execCanEventPop (who : Requester) (s : State) : Host.Outcome State Fault Refusal :=
  done s (command s who 0x2C2103 1 1)

/-- `STEWARD_ALIVE`: a write to object 2C30.05; any value refreshes the watchdog (R369). -/
def execStewardAlive (who : Requester) (s : State) : Host.Outcome State Fault Refusal :=
  done s (command s who 0x2C3005 1 0)

/-- `STEWARD_RESTART`: a write of 1 to object 2C30.03 (R369). -/
def execStewardRestart (who : Requester) (s : State) : Host.Outcome State Fault Refusal :=
  done s (command s who 0x2C3003 1 1)

/-- `ENTER_RECOVERY`: a write of 2 to object 2C30.03 (R371). -/
def execEnterRecovery (who : Requester) (s : State) : Host.Outcome State Fault Refusal :=
  done s (command s who 0x2C3003 1 2)

/-- `RECOVERY_INSTALL`: a write of 1 to object 2C40.03 (R371). -/
def execRecoveryInstall (who : Requester) (s : State) : Host.Outcome State Fault Refusal :=
  done s (command s who 0x2C4003 1 1)

/-- `RECOVERY_ABORT`: a write of 2 to object 2C40.03 (R371). -/
def execRecoveryAbort (who : Requester) (s : State) : Host.Outcome State Fault Refusal :=
  done s (command s who 0x2C4003 1 2)

/-- `POWER_FULL`: a write of 1 to object 2D10.02 (R379). -/
def execPowerFull (who : Requester) (s : State) : Host.Outcome State Fault Refusal :=
  done s (command s who 0x2D1002 1 1)

/-- `POWER_TRIM`: a write of 2 to object 2D10.02 (R379). -/
def execPowerTrim (who : Requester) (s : State) : Host.Outcome State Fault Refusal :=
  done s (command s who 0x2D1002 1 2)

/-- `POWER_QUIET`: a write of 3 to object 2D10.02 (R379). -/
def execPowerQuiet (who : Requester) (s : State) : Host.Outcome State Fault Refusal :=
  done s (command s who 0x2D1002 1 3)

/-- `POWER_WATCH`: a write of 4 to object 2D10.02 (R379). -/
def execPowerWatch (who : Requester) (s : State) : Host.Outcome State Fault Refusal :=
  done s (command s who 0x2D1002 1 4)

/-- `POWER_OFF`: a write of 5 to object 2D10.02 (R379). -/
def execPowerOff (who : Requester) (s : State) : Host.Outcome State Fault Refusal :=
  done s (command s who 0x2D1002 1 5)

/-- `WARM_RESET`: a write of 1 to object 2D10.03 (R391). -/
def execWarmReset (who : Requester) (s : State) : Host.Outcome State Fault Refusal :=
  done s (command s who 0x2D1003 1 1)

/-- `COLD_RESET`: a write of 2 to object 2D10.03 (R392). -/
def execColdReset (who : Requester) (s : State) : Host.Outcome State Fault Refusal :=
  done s (command s who 0x2D1003 1 2)

/-- `COLD_START`: a write of 3 to object 2D10.03 (R379). -/
def execColdStart (who : Requester) (s : State) : Host.Outcome State Fault Refusal :=
  done s (command s who 0x2D1003 1 3)

/-- `CERT_INSTALL`: a write of 1 to object 2E01.05 (R402). -/
def execCertInstall (who : Requester) (s : State) : Host.Outcome State Fault Refusal :=
  done s (command s who 0x2E0105 1 1)

/-- `CERT_ERASE`: a write of 2 to object 2E01.05 (R402). -/
def execCertErase (who : Requester) (s : State) : Host.Outcome State Fault Refusal :=
  done s (command s who 0x2E0105 1 2)

/-- `OWNER_SET`: a write of 1 to object 2E10.05 (R411). -/
def execOwnerSet (who : Requester) (s : State) : Host.Outcome State Fault Refusal :=
  done s (command s who 0x2E1005 1 1)

/-- `OWNER_TRANSFER`: a write of 2 to object 2E10.05 (R411). -/
def execOwnerTransfer (who : Requester) (s : State) : Host.Outcome State Fault Refusal :=
  done s (command s who 0x2E1005 1 2)

/-- `IMAGE_STAGE`: a write of 1 to object 2E12.03 (R410). -/
def execImageStage (who : Requester) (s : State) : Host.Outcome State Fault Refusal :=
  done s (command s who 0x2E1203 1 1)

/-- `IMAGE_ABORT`: a write of 2 to object 2E12.03 (R410). -/
def execImageAbort (who : Requester) (s : State) : Host.Outcome State Fault Refusal :=
  done s (command s who 0x2E1203 1 2)

end Sys2Proof.Machine
end

