-- ==== Sys2Proof/Machine/RowPortEvents.lean ====
section
/-! DEFINITION. Meanings: the traffic manager's and the ports' own events (R263-R300, R405). -/

namespace Sys2Proof.Machine

/-- `ADMISSION_HOLD_RELEASE` (R263). -/
def execAdmissionHoldRelease (port tc : Nat) (s : State) : Host.Outcome State Fault Refusal :=
  done s (running s (fun s => admissionHoldRelease goOn s port tc))

/-- `GATE_ENTRY_CHANGE` (R270). -/
def execGateEntryChange (port : Nat) (s : State) : Host.Outcome State Fault Refusal :=
  done s (timed s (fun s => gateEntryChange s port))

/-- `GATE_BANK_SWITCH` (R272). -/
def execGateBankSwitch (port : Nat) (s : State) : Host.Outcome State Fault Refusal :=
  done s (timed s (fun s => gateBankSwitch s port))

/-- `LASER_INPUT_LOW` (R283). -/
def execLaserInputLow (input : Nat) (power : Int) (s : State) : Host.Outcome State Fault Refusal :=
  done s (timed s (fun s => laserLow s input power))

/-- `LASER_INPUT_RESTORED` (R283). -/
def execLaserInputRestored (input : Nat) (power : Int) (s : State) : Host.Outcome State Fault Refusal :=
  done s (timed s (fun s => laserRestored s input power))

/-- `LANE_PRESENCE_CHANGE` (R284). -/
def execLanePresenceChange (phys lane : Nat) (power : Int) (s : State) : Host.Outcome State Fault Refusal :=
  done s (lanePresence s phys lane power)

/-- `RECEIVERS_ADAPTED` (R285). -/
def execReceiversAdapted (port : Nat) (s : State) : Host.Outcome State Fault Refusal :=
  done s (timed s (fun s => receiversAdapted s port))

/-- `TRAIN_TIMEOUT` (R285). -/
def execTrainTimeout (port : Nat) (s : State) : Host.Outcome State Fault Refusal :=
  done s (timed s (fun s => trainTimeout s port))

/-- `CODEWORDS_LOCKED` (R285). -/
def execCodewordsLocked (port : Nat) (s : State) : Host.Outcome State Fault Refusal :=
  done s (timed s (fun s => codewordsLocked s port))

/-- `ALIGN_TIMEOUT` (R285). -/
def execAlignTimeout (port : Nat) (s : State) : Host.Outcome State Fault Refusal :=
  done s (timed s (fun s => alignTimeout s port))

/-- `PARAMETER_BLOCK_RECEIVED` (R286). -/
def execParameterBlockReceived (port : Nat) (block : Slot) (s : State) : Host.Outcome State Fault Refusal :=
  done s (timed s (fun s => parameterBlock s port block))

/-- `PARAM_TIMEOUT` (R285). -/
def execParamTimeout (port : Nat) (s : State) : Host.Outcome State Fault Refusal :=
  done s (timed s (fun s => paramTimeout s port))

/-- `SECURE_TIMEOUT` (R285). -/
def execSecureTimeout (port : Nat) (s : State) : Host.Outcome State Fault Refusal :=
  done s (timed s (fun s => secureTimeout s port))

/-- `CODEWORD_LOCK_LOST` (R285). -/
def execCodewordLockLost (port : Nat) (s : State) : Host.Outcome State Fault Refusal :=
  done s (timed s (fun s => lockLost s port))

/-- `RETRAIN_COMPLETE` (R285). -/
def execRetrainComplete (port : Nat) (s : State) : Host.Outcome State Fault Refusal :=
  done s (timed s (fun s => retrainComplete s port))

/-- `RETRAIN_TIMEOUT` (R285). -/
def execRetrainTimeout (port : Nat) (s : State) : Host.Outcome State Fault Refusal :=
  done s (timed s (fun s => retrainTimeout s port))

/-- `FLIT_RECEIVED` (R293). -/
def execFlitReceived (port : Nat) (flit : Flit) (s : State) : Host.Outcome State Fault Refusal :=
  done s (timed s (fun s => flitReceived receive s port flit))

/-- `REPLAY_TIMEOUT` (R294). -/
def execReplayTimeout (port : Nat) (s : State) : Host.Outcome State Fault Refusal :=
  done s (timed s (fun s => replayTimeout s port))

/-- `REKEY_LIMIT` (R298). -/
def execRekeyLimit (port : Nat) (s : State) : Host.Outcome State Fault Refusal :=
  done s (timed s (fun s => rekeyLimit s port))

/-- `REKEY_DEADLINE` (R298). -/
def execRekeyDeadline (port : Nat) (s : State) : Host.Outcome State Fault Refusal :=
  done s (timed s (fun s => rekeyDeadline s port))

/-- `NARROW_IDLE` (R300). -/
def execNarrowIdle (port : Nat) (s : State) : Host.Outcome State Fault Refusal :=
  done s (timed s (fun s => narrowIdle s port))

/-- `SESSION_RETRY_HOLDOFF` (R405). -/
def execSessionRetryHoldoff (port : Nat) (s : State) : Host.Outcome State Fault Refusal :=
  done s (timed s (fun s => sessionRetry s port))

/-- `EGRESS_SLOT` (R268). -/
def execEgressSlot (port : Nat) (s : State) : Host.Outcome State Fault Refusal :=
  done s (timed s (fun s => egressSlot s port))

/-- `FULL_WIDTH_RESTORED` (R300). -/
def execFullWidthRestored (port : Nat) (s : State) : Host.Outcome State Fault Refusal :=
  done s (timed s (fun s => fullWidth s port))

end Sys2Proof.Machine
end

