-- ==== Sys2Proof/Machine/RowPowerEvents.lean ====
section
/-! DEFINITION. Meanings: power, clocks, starts, heat, the steward and the test access port (R369-R436). -/

namespace Sys2Proof.Machine

/-- `STEWARD_WATCHDOG_EXPIRY` (R369). -/
def execStewardWatchdogExpiry (s : State) : Host.Outcome State Fault Refusal :=
  done s (watchdogExpiry s)

/-- `STEWARD_RUNNING` (R369). -/
def execStewardRunning (s : State) : Host.Outcome State Fault Refusal :=
  done s (stewardRunningDo stewardWrite s)

/-- `INPUT_POWER_UP` (R372). -/
def execInputPowerUp (s : State) : Host.Outcome State Fault Refusal :=
  done s (inputPowerUp s)

/-- `POWER_LOSS` (R396). -/
def execPowerLoss (s : State) : Host.Outcome State Fault Refusal :=
  done s (beginLoss s)

/-- `PGOOD_LOW` (R424). -/
def execPgoodLow (s : State) : Host.Outcome State Fault Refusal :=
  done s (pgoodLow s)

/-- `POWER_LOSS_WRITES_COMPLETE` (R396). -/
def execPowerLossWritesComplete (durationUs : Nat) (s : State) : Host.Outcome State Fault Refusal :=
  done s (lossComplete s durationUs)

/-- `POWER_STAGE_FAILURE` (R373). -/
def execPowerStageFailure (stage : Nat) (s : State) : Host.Outcome State Fault Refusal :=
  done s (stageFailure s stage)

/-- `POWER_CAP_STEP` (R374). -/
def execPowerCapStep (watts : Nat) (s : State) : Host.Outcome State Fault Refusal :=
  done s (powerCapStep s watts)

/-- `REFERENCE_LOSS` (R378). -/
def execReferenceLoss (s : State) : Host.Outcome State Fault Refusal :=
  done s (referenceLoss s)

/-- `REFERENCE_RETURN` (R378). -/
def execReferenceReturn (s : State) : Host.Outcome State Fault Refusal :=
  done s (referenceReturn s)

/-- `REFERENCE_156_LOSS` (R378). -/
def execReference156Loss (s : State) : Host.Outcome State Fault Refusal :=
  done s (reference156Loss s)

/-- `REFERENCE_156_RETURN` (R378). -/
def execReference156Return (s : State) : Host.Outcome State Fault Refusal :=
  done s (reference156Return s)

/-- `HANDSHAKE_ACCEPTED` (R380). -/
def execHandshakeAccepted (s : State) : Host.Outcome State Fault Refusal :=
  done s (shakeAccepted s)

/-- `HANDSHAKE_REFUSED` (R380). -/
def execHandshakeRefused (s : State) : Host.Outcome State Fault Refusal :=
  done s (shakeRefused s)

/-- `HANDSHAKE_TIMEOUT` (R380). -/
def execHandshakeTimeout (s : State) : Host.Outcome State Fault Refusal :=
  done s (shakeTimeout s)

/-- `RESET_CONTACT` (R423). -/
def execResetContact (s : State) : Host.Outcome State Fault Refusal :=
  done s (resetContact s)

/-- `ISLAND_BROWN_OUT` (R384). -/
def execIslandBrownOut (s : State) : Host.Outcome State Fault Refusal :=
  done s (brownOut s)

/-- `WATCH_WAKE_PERIOD` (R385). -/
def execWatchWakePeriod (readings : List (Nat × Int)) (temp : Int) (s : State) : Host.Outcome State Fault Refusal :=
  done s (watchPeriod s readings temp)

/-- `START_STEP_COMPLETE` (R387). -/
def execStartStepComplete (info : StartInfo) (s : State) : Host.Outcome State Fault Refusal :=
  done s (stepComplete imageWrite s info)

/-- `START_STEP_FAILED` (R390). -/
def execStartStepFailed (detail : Nat) (s : State) : Host.Outcome State Fault Refusal :=
  done s (stepFailed s detail)

/-- `SCORE_JOURNAL_PERIOD` (R393). -/
def execScoreJournalPeriod (s : State) : Host.Outcome State Fault Refusal :=
  done s (journalPeriod s)

/-- `THERMAL_THROTTLE` (R435). -/
def execThermalThrottle (cls item : Nat) (temp : Int) (s : State) : Host.Outcome State Fault Refusal :=
  done s (thermalThrottle s cls item temp)

/-- `THERMAL_THROTTLE_END` (R435). -/
def execThermalThrottleEnd (s : State) : Host.Outcome State Fault Refusal :=
  done s (throttleEnd s)

/-- `THERMAL_TRIP` (R436). -/
def execThermalTrip (cls item : Nat) (temp : Int) (s : State) : Host.Outcome State Fault Refusal :=
  done s (thermalTrip s cls item temp)

/-- `RANDOM_SOURCE_UNHEALTHY` (R412). -/
def execRandomSourceUnhealthy (test : Nat) (s : State) : Host.Outcome State Fault Refusal :=
  done s (powered s (fun s => randomUnhealthy s test))

/-- `BYPASS` (R429). -/
def execJtagBypass (s : State) : Host.Outcome State Fault Refusal :=
  done s (powered s jtagBypassDo)

/-- `IDCODE` (R429). -/
def execJtagIdcode (s : State) : Host.Outcome State Fault Refusal :=
  done s (powered s jtagIdcodeDo)

/-- `SAMPLE_PRELOAD` (R429). -/
def execJtagSamplePreload (pins : Nat) (s : State) : Host.Outcome State Fault Refusal :=
  done s (powered s (fun s => jtagSampleDo s pins))

/-- `EXTEST` (R429). -/
def execJtagExtest (s : State) : Host.Outcome State Fault Refusal :=
  done s (powered s jtagExtestDo)

/-- `STEWARD_DIE_FAULT` (R369). -/
def execStewardDieFault (s : State) : Host.Outcome State Fault Refusal :=
  done s (stewardFault s)

/-- `CAN_BUS_OFF` (R363). -/
def execCanBusOff (s : State) : Host.Outcome State Fault Refusal :=
  done s (powered s canBusOffDo)

/-- `RANDOM_SOURCE_HEALTHY` (R412). -/
def execRandomSourceHealthy (s : State) : Host.Outcome State Fault Refusal :=
  done s (powered s randomHealthy)

/-- `CRYSTAL_CHANGE` (R428). -/
def execCrystalChange (oscillating : Bool) (s : State) : Host.Outcome State Fault Refusal :=
  done s (s.onPower (fun p => { p with crystal := oscillating }))

end Sys2Proof.Machine
end

