-- ==== Sys2Proof/Machine/RowSearchEvents.lean ====
section
/-! DEFINITION. Meanings: the search engine's and the compositions' own events (R212-R250). -/

namespace Sys2Proof.Machine

/-- `SEARCH_UPDATE_APPLY` (R215). -/
def execSearchUpdateApply (part errs : Nat) (s : State) : Host.Outcome State Fault Refusal :=
  done s (timed s (fun s => searchUpdateApply s part errs))

/-- `WALK_IDLE_TIMEOUT` (R212). -/
def execWalkIdleTimeout (ctx : Nat) (s : State) : Host.Outcome State Fault Refusal :=
  done s (timed s (fun s => walkIdleTimeout s ctx))

/-- `PARITY_SCAN` (R220). -/
def execParityScan (part row : Nat) (bad : List Nat) (s : State) : Host.Outcome State Fault Refusal :=
  done s (timed s (fun s => parityScan s part row bad))

/-- `PARTITION_CLEARED` (R222). -/
def execPartitionCleared (part : Nat) (s : State) : Host.Outcome State Fault Refusal :=
  done s (timed s (fun s => partitionCleared s part))

/-- `PARTITION_RELOADED` (R222). -/
def execPartitionReloaded (part : Nat) (s : State) : Host.Outcome State Fault Refusal :=
  done s (timed s (fun s => partitionReloaded s part))

/-- `BANK_IDLE_GATE` (R223). -/
def execBankIdleGate (bank : Nat) (s : State) : Host.Outcome State Fault Refusal :=
  done s (running s (fun s => bankIdleGate s bank))

/-- `COMPOSITION_RESET_COMPLETE` (R239). -/
def execCompositionResetComplete (comp : Nat) (s : State) : Host.Outcome State Fault Refusal :=
  done s (timed s (fun s => resetComplete s comp))

/-- `INTERRUPT_WRITE_TIMEOUT` (R235). -/
def execInterruptWriteTimeout (host tag : Nat) (s : State) : Host.Outcome State Fault Refusal :=
  done s (timed s (fun s => vecTimeout s host tag))

/-- `OFFER_TIMER_EXPIRY` (R250). -/
def execOfferTimerExpiry (record : Nat) (s : State) : Host.Outcome State Fault Refusal :=
  done s (timed s (fun s => offerExpiry s record))

end Sys2Proof.Machine
end

