-- ==== Sys2Proof/Machine/RowTierEvents.lean ====
section
/-! DEFINITION. Meanings: the tier engine's, the codec's and the governor's own events (R92-R135, R274). -/

namespace Sys2Proof.Machine

/-- `GOVERNOR_PERIOD` (R274). -/
def execGovernorPeriod (s : State) : Host.Outcome State Fault Refusal :=
  done s (timed s (fun s => governorPeriod s))

/-- `TRAY_REQUEST_TIMEOUT` (R98). -/
def execTrayRequestTimeout (port tag : Nat) (s : State) : Host.Outcome State Fault Refusal :=
  done s (timed s (fun s => trayTimeout s port tag))

/-- `TRAY_LOSS_HOLD_EXPIRY` (R98). -/
def execTrayLossHoldExpiry (port : Nat) (s : State) : Host.Outcome State Fault Refusal :=
  done s (running s (fun s => trayLossHold s port))

/-- `REPLACE_FILL_COMPLETE` (R100). -/
def execReplaceFillComplete (set member : Nat) (s : State) : Host.Outcome State Fault Refusal :=
  done s (timed s (fun s => replaceFillComplete s set member))

/-- `TRAY_READ_REISSUE` (R98). -/
def execTrayReadReissue (s : State) : Host.Outcome State Fault Refusal :=
  done s (timed s (fun s => trayReissue s))

/-- `PREFETCH_FILL` (R109). -/
def execPrefetchFill (s : State) : Host.Outcome State Fault Refusal :=
  done s (timed s (fun s => prefetchFill s))

/-- `DIRTY_WRITEBACK` (R104). -/
def execDirtyWriteback (s : State) : Host.Outcome State Fault Refusal :=
  done s (timed s (fun s => dirtyWriteback s))

/-- `FLUSH_COMPLETE` (R105). -/
def execFlushComplete (comp : Nat) (s : State) : Host.Outcome State Fault Refusal :=
  done s (timed s (fun s => flushComplete s comp))

/-- `WINDOW_REPOINT_COMPLETE` (R111). -/
def execWindowRepointComplete (comp window : Nat) (s : State) : Host.Outcome State Fault Refusal :=
  done s (timed s (fun s => repointComplete s comp window))

/-- `ECC_RECOVERY_COMPLETE` (R126). -/
def execEccRecoveryComplete (line : Nat) (ok : Bool) (data : LineBits) (s : State) : Host.Outcome State Fault Refusal :=
  done s (timed s (fun s => recoverDone s line ok data))

/-- `PATROL_SCRUB` (R128). -/
def execPatrolScrub (line errs : Nat) (s : State) : Host.Outcome State Fault Refusal :=
  done s (timed s (fun s => patrolScrub s line errs))

/-- `TABLE_LOAD_COMPLETE` (R135). -/
def execTableLoadComplete (slot : Nat) (s : State) : Host.Outcome State Fault Refusal :=
  done s (timed s (fun s => tableLoadComplete s slot))

/-- `TABLE_REFS_ZERO` (R135). -/
def execTableRefsZero (slot : Nat) (s : State) : Host.Outcome State Fault Refusal :=
  done s (timed s (fun s => tableRefsZero moverRefs s slot))

/-- `ZERO_TILE_TRAY_WRITE` (R93). -/
def execZeroTileTrayWrite (s : State) : Host.Outcome State Fault Refusal :=
  done s (timed s (fun s => zeroTileWrite s))

/-- `MARKED_TILE_OVERWRITE` (R21). -/
def execMarkedTileOverwrite (s : State) : Host.Outcome State Fault Refusal :=
  done s (timed s (fun s => markedTileOverwrite s))

end Sys2Proof.Machine
end

