-- ==== Sys2Proof/Machine/RowTwinEvents.lean ====
section
/-! DEFINITION. Meanings: the twin's, the spare's and health's own events (R317-R347). -/

namespace Sys2Proof.Machine

/-- `CATCHUP_COPY` (R334). -/
def execCatchupCopy (s : State) : Host.Outcome State Fault Refusal :=
  done s (running s (fun s => catchupCopy s))

/-- `TURN` (R319). -/
def execTurn (s : State) : Host.Outcome State Fault Refusal :=
  done s (timed s (fun s => turn s))

/-- `PAIR_LOST_TIMEOUT` (R330). -/
def execPairLostTimeout (pair : Nat) (s : State) : Host.Outcome State Fault Refusal :=
  done s (timed s (fun s => pairLostTimeout s pair))

/-- `SPARE_CALL_TIMEOUT` (R333). -/
def execSpareCallTimeout (s : State) : Host.Outcome State Fault Refusal :=
  done s (timed s (fun s => spareCallTimeout s))

/-- `TAG_WARNING_REPEAT` (R317). -/
def execTagWarningRepeat (s : State) : Host.Outcome State Fault Refusal :=
  done s (timed s (fun s => tagWarningRepeat s))

/-- `SCORE_DECAY` (R339). -/
def execScoreDecay (s : State) : Host.Outcome State Fault Refusal :=
  done s (timed s (fun s => scoreDecay s))

/-- `DRILL_START` (R343). -/
def execDrillStart (s : State) : Host.Outcome State Fault Refusal :=
  done s (timed s (fun s => drillStart s))

/-- `DRILL_PATH_FLAP_RETURN` (R343). -/
def execDrillPathFlapReturn (s : State) : Host.Outcome State Fault Refusal :=
  done s (timed s (fun s => drillReturn s))

/-- `DRILL_OUTCOME` (R347). -/
def execDrillOutcome (passed : Bool) (s : State) : Host.Outcome State Fault Refusal :=
  done s (timed s (fun s => drillOutcome s passed))

end Sys2Proof.Machine
end

