-- ==== Sys2Proof/Machine/Dispatch.lean ====
section
/-! DEFINITION. One arm per command. -/

namespace Sys2Proof.Machine

/-- The effect of a command on everything but the queue. -/
def exec (i : Instr) (s : State) : Host.Outcome State Fault Refusal :=
  match i with
  | .objectWrite a => Sys2Proof.Machine.execObjectWrite a s
  | .governorPeriod => Sys2Proof.Machine.execGovernorPeriod s
  | .bind who => Sys2Proof.Machine.execBind who s
  | .revoke who => Sys2Proof.Machine.execRevoke who s
  | .restore who => Sys2Proof.Machine.execRestore who s
  | .extentRelease who => Sys2Proof.Machine.execExtentRelease who s
  | .drainComplete ext => Sys2Proof.Machine.execDrainComplete ext s
  | .drainTimerExpiry ext => Sys2Proof.Machine.execDrainTimerExpiry ext s
  | .tileZeroMark ext => Sys2Proof.Machine.execTileZeroMark ext s
  | .rdShared port m => Sys2Proof.Machine.execRdShared port m s
  | .rdOwn port m => Sys2Proof.Machine.execRdOwn port m s
  | .rdNc port m => Sys2Proof.Machine.execRdNc port m s
  | .wrNc port m => Sys2Proof.Machine.execWrNc port m s
  | .wrStash port m => Sys2Proof.Machine.execWrStash port m s
  | .wbDirty port m => Sys2Proof.Machine.execWbDirty port m s
  | .evictClean port m => Sys2Proof.Machine.execEvictClean port m s
  | .atomic port m => Sys2Proof.Machine.execAtomic port m s
  | .fence port m => Sys2Proof.Machine.execFence port m s
  | .milestone port m => Sys2Proof.Machine.execMilestone port m s
  | .snpInv port m => Sys2Proof.Machine.execSnpInv port m s
  | .snpShare port m => Sys2Proof.Machine.execSnpShare port m s
  | .stashFill port m => Sys2Proof.Machine.execStashFill port m s
  | .snpResp port m => Sys2Proof.Machine.execSnpResp port m s
  | .resp port m => Sys2Proof.Machine.execResp port m s
  | .respData port m => Sys2Proof.Machine.execRespData port m s
  | .mergeHoldExpiry line => Sys2Proof.Machine.execMergeHoldExpiry line s
  | .residencyLimit pos => Sys2Proof.Machine.execResidencyLimit pos s
  | .requestTimeout peer tag => Sys2Proof.Machine.execRequestTimeout peer tag s
  | .pathChangeStart pair newPort cause => Sys2Proof.Machine.execPathChangeStart pair newPort cause s
  | .milestoneTimeout pair => Sys2Proof.Machine.execMilestoneTimeout pair s
  | .ledgerEntryExpiry host id => Sys2Proof.Machine.execLedgerEntryExpiry host id s
  | .dwellExpiry line => Sys2Proof.Machine.execDwellExpiry line s
  | .homeTimeout line => Sys2Proof.Machine.execHomeTimeout line s
  | .stashOfferTimeout line => Sys2Proof.Machine.execStashOfferTimeout line s
  | .tierAccessDone line errs => Sys2Proof.Machine.execTierAccessDone line errs s
  | .filterWalkComplete => Sys2Proof.Machine.execFilterWalkComplete s
  | .hostLossHoldExpiry host => Sys2Proof.Machine.execHostLossHoldExpiry host s
  | .hostDeclareLost who => Sys2Proof.Machine.execHostDeclareLost who s
  | .readmit who => Sys2Proof.Machine.execReadmit who s
  | .notice port m => Sys2Proof.Machine.execNotice port m s
  | .sharersDropped who => Sys2Proof.Machine.execSharersDropped who s
  | .trayRequestTimeout port tag => Sys2Proof.Machine.execTrayRequestTimeout port tag s
  | .trayLossHoldExpiry port => Sys2Proof.Machine.execTrayLossHoldExpiry port s
  | .memberDeclareLost who => Sys2Proof.Machine.execMemberDeclareLost who s
  | .replace who => Sys2Proof.Machine.execReplace who s
  | .replaceFillComplete set member => Sys2Proof.Machine.execReplaceFillComplete set member s
  | .trayReadReissue => Sys2Proof.Machine.execTrayReadReissue s
  | .prefetchFill => Sys2Proof.Machine.execPrefetchFill s
  | .dirtyWriteback => Sys2Proof.Machine.execDirtyWriteback s
  | .flush who => Sys2Proof.Machine.execFlush who s
  | .flushComplete comp => Sys2Proof.Machine.execFlushComplete comp s
  | .cacheQuotaWrite who tiles => Sys2Proof.Machine.execCacheQuotaWrite who tiles s
  | .windowDescriptorWrite who value => Sys2Proof.Machine.execWindowDescriptorWrite who value s
  | .windowCursorWrite who value => Sys2Proof.Machine.execWindowCursorWrite who value s
  | .windowRepointComplete comp window => Sys2Proof.Machine.execWindowRepointComplete comp window s
  | .regionCreate who => Sys2Proof.Machine.execRegionCreate who s
  | .regionDestroy who => Sys2Proof.Machine.execRegionDestroy who s
  | .eccRecoveryComplete line ok data => Sys2Proof.Machine.execEccRecoveryComplete line ok data s
  | .patrolScrub line errs => Sys2Proof.Machine.execPatrolScrub line errs s
  | .tableLoad who => Sys2Proof.Machine.execTableLoad who s
  | .tableLoadComplete slot => Sys2Proof.Machine.execTableLoadComplete slot s
  | .tableRetire who => Sys2Proof.Machine.execTableRetire who s
  | .tableRefsZero slot => Sys2Proof.Machine.execTableRefsZero slot s
  | .arm who => Sys2Proof.Machine.execArm who s
  | .rearm who => Sys2Proof.Machine.execRearm who s
  | .disarm who => Sys2Proof.Machine.execDisarm who s
  | .reduceRoundComplete slot => Sys2Proof.Machine.execReduceRoundComplete slot s
  | .reduceRoundTimeout slot => Sys2Proof.Machine.execReduceRoundTimeout slot s
  | .engineIdle engine => Sys2Proof.Machine.execEngineIdle engine s
  | .corePllIdle core => Sys2Proof.Machine.execCorePllIdle core s
  | .alloc who => Sys2Proof.Machine.execAlloc who s
  | .close who => Sys2Proof.Machine.execClose who s
  | .accept who => Sys2Proof.Machine.execAccept who s
  | .reject who => Sys2Proof.Machine.execReject who s
  | .itineraryRetire who => Sys2Proof.Machine.execItineraryRetire who s
  | .itineraryFree who => Sys2Proof.Machine.execItineraryFree who s
  | .launch port m => Sys2Proof.Machine.execLaunch port m s
  | .count port m => Sys2Proof.Machine.execCount port m s
  | .move core => Sys2Proof.Machine.execMove core s
  | .gather core => Sys2Proof.Machine.execGather core s
  | .array core => Sys2Proof.Machine.execArray core s
  | .vector core => Sys2Proof.Machine.execVector core s
  | .select core => Sys2Proof.Machine.execSelect core s
  | .send core => Sys2Proof.Machine.execSend core s
  | .stash core => Sys2Proof.Machine.execStash core s
  | .signal core => Sys2Proof.Machine.execSignal core s
  | .await core => Sys2Proof.Machine.execAwait core s
  | .repeatLeg core => Sys2Proof.Machine.execRepeatLeg core s
  | .endLeg core => Sys2Proof.Machine.execEndLeg core s
  | .awaitTimeout core => Sys2Proof.Machine.execAwaitTimeout core s
  | .coreReset who => Sys2Proof.Machine.execCoreReset who s
  | .lookup port m => Sys2Proof.Machine.execLookup port m s
  | .walk port m => Sys2Proof.Machine.execWalk port m s
  | .searchWrite port m => Sys2Proof.Machine.execSearchWrite port m s
  | .searchClear port m => Sys2Proof.Machine.execSearchClear port m s
  | .searchUpdateApply part errs => Sys2Proof.Machine.execSearchUpdateApply part errs s
  | .entryRecordWrite who value => Sys2Proof.Machine.execEntryRecordWrite who value s
  | .walkIdleTimeout ctx => Sys2Proof.Machine.execWalkIdleTimeout ctx s
  | .parityScan part row bad => Sys2Proof.Machine.execParityScan part row bad s
  | .partitionCreate who => Sys2Proof.Machine.execPartitionCreate who s
  | .partitionDestroy who => Sys2Proof.Machine.execPartitionDestroy who s
  | .partitionCleared part => Sys2Proof.Machine.execPartitionCleared part s
  | .partitionReloaded part => Sys2Proof.Machine.execPartitionReloaded part s
  | .bankIdleGate bank => Sys2Proof.Machine.execBankIdleGate bank s
  | .compositionCreate who => Sys2Proof.Machine.execCompositionCreate who s
  | .compositionReset who => Sys2Proof.Machine.execCompositionReset who s
  | .compositionResetComplete comp => Sys2Proof.Machine.execCompositionResetComplete comp s
  | .compositionDestroy who => Sys2Proof.Machine.execCompositionDestroy who s
  | .compositionDescriptorWrite who offset len value => Sys2Proof.Machine.execCompositionDescriptorWrite who offset len value s
  | .join who => Sys2Proof.Machine.execJoin who s
  | .leave who => Sys2Proof.Machine.execLeave who s
  | .interruptWriteTimeout host tag => Sys2Proof.Machine.execInterruptWriteTimeout host tag s
  | .openRec port m => Sys2Proof.Machine.execOpenRec port m s
  | .sealRec port m => Sys2Proof.Machine.execSeal port m s
  | .offer port m => Sys2Proof.Machine.execOffer port m s
  | .withdraw port m => Sys2Proof.Machine.execWithdraw port m s
  | .claim port m => Sys2Proof.Machine.execClaim port m s
  | .handoffRelease port m => Sys2Proof.Machine.execHandoffRelease port m s
  | .discard port m => Sys2Proof.Machine.execDiscard port m s
  | .query port m => Sys2Proof.Machine.execQuery port m s
  | .offerTimerExpiry record => Sys2Proof.Machine.execOfferTimerExpiry record s
  | .forceFree who => Sys2Proof.Machine.execForceFree who s
  | .admissionHoldRelease port tc => Sys2Proof.Machine.execAdmissionHoldRelease port tc s
  | .gateEntryChange port => Sys2Proof.Machine.execGateEntryChange port s
  | .gateSwitchTimeWrite who time => Sys2Proof.Machine.execGateSwitchTimeWrite who time s
  | .gateBankSwitch port => Sys2Proof.Machine.execGateBankSwitch port s
  | .budgetWrite who sub value => Sys2Proof.Machine.execBudgetWrite who sub value s
  | .portEnable who => Sys2Proof.Machine.execPortEnable who s
  | .portDisable who => Sys2Proof.Machine.execPortDisable who s
  | .portReset who => Sys2Proof.Machine.execPortReset who s
  | .portRetrain who => Sys2Proof.Machine.execPortRetrain who s
  | .breakoutWrite who value => Sys2Proof.Machine.execBreakoutWrite who value s
  | .portRoleWrite who value => Sys2Proof.Machine.execPortRoleWrite who value s
  | .laserInputLow input power => Sys2Proof.Machine.execLaserInputLow input power s
  | .laserInputRestored input power => Sys2Proof.Machine.execLaserInputRestored input power s
  | .lanePresenceChange phys lane power => Sys2Proof.Machine.execLanePresenceChange phys lane power s
  | .receiversAdapted port => Sys2Proof.Machine.execReceiversAdapted port s
  | .trainTimeout port => Sys2Proof.Machine.execTrainTimeout port s
  | .codewordsLocked port => Sys2Proof.Machine.execCodewordsLocked port s
  | .alignTimeout port => Sys2Proof.Machine.execAlignTimeout port s
  | .parameterBlockReceived port block => Sys2Proof.Machine.execParameterBlockReceived port block s
  | .paramTimeout port => Sys2Proof.Machine.execParamTimeout port s
  | .secureTimeout port => Sys2Proof.Machine.execSecureTimeout port s
  | .codewordLockLost port => Sys2Proof.Machine.execCodewordLockLost port s
  | .retrainComplete port => Sys2Proof.Machine.execRetrainComplete port s
  | .retrainTimeout port => Sys2Proof.Machine.execRetrainTimeout port s
  | .flitReceived port flit => Sys2Proof.Machine.execFlitReceived port flit s
  | .replayTimeout port => Sys2Proof.Machine.execReplayTimeout port s
  | .rekeyLimit port => Sys2Proof.Machine.execRekeyLimit port s
  | .rekeyDeadline port => Sys2Proof.Machine.execRekeyDeadline port s
  | .narrowIdle port => Sys2Proof.Machine.execNarrowIdle port s
  | .twMirror port m => Sys2Proof.Machine.execTwMirror port m s
  | .twMirrorAck port m => Sys2Proof.Machine.execTwMirrorAck port m s
  | .twBeat port m => Sys2Proof.Machine.execTwBeat port m s
  | .twSuspect port m => Sys2Proof.Machine.execTwSuspect port m s
  | .twConfirm port m => Sys2Proof.Machine.execTwConfirm port m s
  | .twVerdict port m => Sys2Proof.Machine.execTwVerdict port m s
  | .twServing port m => Sys2Proof.Machine.execTwServing port m s
  | .twDetachRequest port m => Sys2Proof.Machine.execTwDetachRequest port m s
  | .twDetachConfirm port m => Sys2Proof.Machine.execTwDetachConfirm port m s
  | .twDetachRefuse port m => Sys2Proof.Machine.execTwDetachRefuse port m s
  | .twCatchupEpoch port m => Sys2Proof.Machine.execTwCatchupEpoch port m s
  | .twCatchupStart port m => Sys2Proof.Machine.execTwCatchupStart port m s
  | .twCatchupDone port m => Sys2Proof.Machine.execTwCatchupDone port m s
  | .twCatchupAbort port m => Sys2Proof.Machine.execTwCatchupAbort port m s
  | .catchupCopy => Sys2Proof.Machine.execCatchupCopy s
  | .turn => Sys2Proof.Machine.execTurn s
  | .pairLostTimeout pair => Sys2Proof.Machine.execPairLostTimeout pair s
  | .spareCallTimeout => Sys2Proof.Machine.execSpareCallTimeout s
  | .tagWarningRepeat => Sys2Proof.Machine.execTagWarningRepeat s
  | .mirrorDisable who => Sys2Proof.Machine.execMirrorDisable who s
  | .scoreDecay => Sys2Proof.Machine.execScoreDecay s
  | .drillStart => Sys2Proof.Machine.execDrillStart s
  | .drillPathFlapReturn => Sys2Proof.Machine.execDrillPathFlapReturn s
  | .drillOutcome passed => Sys2Proof.Machine.execDrillOutcome passed s
  | .spdm port m => Sys2Proof.Machine.execSpdm port m s
  | .canEventPop who => Sys2Proof.Machine.execCanEventPop who s
  | .stewardAlive who => Sys2Proof.Machine.execStewardAlive who s
  | .stewardWatchdogExpiry => Sys2Proof.Machine.execStewardWatchdogExpiry s
  | .stewardRestart who => Sys2Proof.Machine.execStewardRestart who s
  | .enterRecovery who => Sys2Proof.Machine.execEnterRecovery who s
  | .stewardRunning => Sys2Proof.Machine.execStewardRunning s
  | .recoveryInstall who => Sys2Proof.Machine.execRecoveryInstall who s
  | .recoveryAbort who => Sys2Proof.Machine.execRecoveryAbort who s
  | .inputPowerUp => Sys2Proof.Machine.execInputPowerUp s
  | .powerLoss => Sys2Proof.Machine.execPowerLoss s
  | .pgoodLow => Sys2Proof.Machine.execPgoodLow s
  | .powerLossWritesComplete durationUs => Sys2Proof.Machine.execPowerLossWritesComplete durationUs s
  | .powerStageFailure stage => Sys2Proof.Machine.execPowerStageFailure stage s
  | .powerCapStep watts => Sys2Proof.Machine.execPowerCapStep watts s
  | .referenceLoss => Sys2Proof.Machine.execReferenceLoss s
  | .referenceReturn => Sys2Proof.Machine.execReferenceReturn s
  | .reference156Loss => Sys2Proof.Machine.execReference156Loss s
  | .reference156Return => Sys2Proof.Machine.execReference156Return s
  | .powerFull who => Sys2Proof.Machine.execPowerFull who s
  | .powerTrim who => Sys2Proof.Machine.execPowerTrim who s
  | .powerQuiet who => Sys2Proof.Machine.execPowerQuiet who s
  | .powerWatch who => Sys2Proof.Machine.execPowerWatch who s
  | .powerOff who => Sys2Proof.Machine.execPowerOff who s
  | .handshakeAccepted => Sys2Proof.Machine.execHandshakeAccepted s
  | .handshakeRefused => Sys2Proof.Machine.execHandshakeRefused s
  | .handshakeTimeout => Sys2Proof.Machine.execHandshakeTimeout s
  | .warmReset who => Sys2Proof.Machine.execWarmReset who s
  | .coldReset who => Sys2Proof.Machine.execColdReset who s
  | .coldStart who => Sys2Proof.Machine.execColdStart who s
  | .resetContact => Sys2Proof.Machine.execResetContact s
  | .islandBrownOut => Sys2Proof.Machine.execIslandBrownOut s
  | .watchWakePeriod readings temp => Sys2Proof.Machine.execWatchWakePeriod readings temp s
  | .startStepComplete info => Sys2Proof.Machine.execStartStepComplete info s
  | .startStepFailed detail => Sys2Proof.Machine.execStartStepFailed detail s
  | .scoreJournalPeriod => Sys2Proof.Machine.execScoreJournalPeriod s
  | .thermalThrottle cls item temp => Sys2Proof.Machine.execThermalThrottle cls item temp s
  | .thermalThrottleEnd => Sys2Proof.Machine.execThermalThrottleEnd s
  | .thermalTrip cls item temp => Sys2Proof.Machine.execThermalTrip cls item temp s
  | .certInstall who => Sys2Proof.Machine.execCertInstall who s
  | .certErase who => Sys2Proof.Machine.execCertErase who s
  | .ownerSet who => Sys2Proof.Machine.execOwnerSet who s
  | .ownerTransfer who => Sys2Proof.Machine.execOwnerTransfer who s
  | .imageStage who => Sys2Proof.Machine.execImageStage who s
  | .imageAbort who => Sys2Proof.Machine.execImageAbort who s
  | .sessionRetryHoldoff port => Sys2Proof.Machine.execSessionRetryHoldoff port s
  | .randomSourceUnhealthy test => Sys2Proof.Machine.execRandomSourceUnhealthy test s
  | .jtagBypass => Sys2Proof.Machine.execJtagBypass s
  | .jtagIdcode => Sys2Proof.Machine.execJtagIdcode s
  | .jtagSamplePreload pins => Sys2Proof.Machine.execJtagSamplePreload pins s
  | .jtagExtest => Sys2Proof.Machine.execJtagExtest s
  | .egressSlot port => Sys2Proof.Machine.execEgressSlot port s
  | .fullWidthRestored port => Sys2Proof.Machine.execFullWidthRestored port s
  | .stewardDieFault => Sys2Proof.Machine.execStewardDieFault s
  | .canBusOff => Sys2Proof.Machine.execCanBusOff s
  | .randomSourceHealthy => Sys2Proof.Machine.execRandomSourceHealthy s
  | .crystalChange oscillating => Sys2Proof.Machine.execCrystalChange oscillating s
  | .zeroTileTrayWrite => Sys2Proof.Machine.execZeroTileTrayWrite s
  | .markedTileOverwrite => Sys2Proof.Machine.execMarkedTileOverwrite s

end Sys2Proof.Machine
end

