-- ==== Sys2Proof/WellFormed.lean ====
section
/-! DEFINITION. Well-formed commands: every operand lies in the range that the spec gives what it names. -/

namespace Sys2Proof

open Sys2Proof.Machine

/-- A requester's name: 16 bits of `peer` and 7 of `composition` (R30, R356). -/
def Requester.wf : Requester → Bool
  | .steward => true
  | .can => true
  | .inband p c => decide (p < 2 ^ 16) && decide (c < 128)

/-- A value of n bytes. -/
def fits (n v : Nat) : Bool := decide (v < 2 ^ (8 * n))

/-- One object write: index of 16 bits, subindex of 8, and a value of its length (R350). -/
def Access.wf (a : Access) : Bool :=
  Requester.wf a.who && decide (a.idx < 2 ^ 16) && decide (a.sub < 2 ^ 8) && fits a.len a.value

/-- A flit carries slot 0 and seven more slots (R287); a codeword has 544 symbols (R281). -/
def Flit.wf (f : Flit) : Bool := decide (f.slots.length = 7) && f.codewords.all (fun e => e.all (fun i => decide (i < 544)))

/-- The logical port that a command names: 256 of them (R279). -/
def portWf (p : Nat) : Bool := decide (p < 256)

/-- A line address (R13). -/
def lineWf (l : Nat) : Bool := decide (l < 2 ^ 40)

/-- A host ID (R29). -/
def hostWf (h : Nat) : Bool := decide (h < 1024)

/-- The row of a command that arrives as a message: its port and the message with the row's opcode, function or step. -/
def Instr.carried : Instr → Option (Nat × Msg)
  | .objectWrite _ => none
  | .governorPeriod => none
  | .bind _ => none
  | .revoke _ => none
  | .restore _ => none
  | .extentRelease _ => none
  | .drainComplete _ => none
  | .drainTimerExpiry _ => none
  | .tileZeroMark _ => none
  | .rdShared port m => some (port, m.withOp opRdShared)
  | .rdOwn port m => some (port, m.withOp opRdOwn)
  | .rdNc port m => some (port, m.withOp opRdNc)
  | .wrNc port m => some (port, m.withOp opWrNc)
  | .wrStash port m => some (port, m.withOp opWrStash)
  | .wbDirty port m => some (port, m.withOp opWbDirty)
  | .evictClean port m => some (port, m.withOp opEvictClean)
  | .atomic port m => some (port, m.withOp opAtomic)
  | .fence port m => some (port, m.withOp opFence)
  | .milestone port m => some (port, m.withOp opMilestone)
  | .snpInv port m => some (port, m.withOp opSnpInv)
  | .snpShare port m => some (port, m.withOp opSnpShare)
  | .stashFill port m => some (port, m.withOp opStashFill)
  | .snpResp port m => some (port, m.withOp opSnpResp)
  | .resp port m => some (port, m.withOp opResp)
  | .respData port m => some (port, m.withOp opRespData)
  | .mergeHoldExpiry _ => none
  | .residencyLimit _ => none
  | .requestTimeout _ _ => none
  | .pathChangeStart _ _ _ => none
  | .milestoneTimeout _ => none
  | .ledgerEntryExpiry _ _ => none
  | .dwellExpiry _ => none
  | .homeTimeout _ => none
  | .stashOfferTimeout _ => none
  | .tierAccessDone _ _ => none
  | .filterWalkComplete => none
  | .hostLossHoldExpiry _ => none
  | .hostDeclareLost _ => none
  | .readmit _ => none
  | .notice port m => some (port, m.withFunc opMgmt 3)
  | .sharersDropped _ => none
  | .trayRequestTimeout _ _ => none
  | .trayLossHoldExpiry _ => none
  | .memberDeclareLost _ => none
  | .replace _ => none
  | .replaceFillComplete _ _ => none
  | .trayReadReissue => none
  | .prefetchFill => none
  | .dirtyWriteback => none
  | .flush _ => none
  | .flushComplete _ => none
  | .cacheQuotaWrite _ _ => none
  | .windowDescriptorWrite _ _ => none
  | .windowCursorWrite _ _ => none
  | .windowRepointComplete _ _ => none
  | .regionCreate _ => none
  | .regionDestroy _ => none
  | .eccRecoveryComplete _ _ _ => none
  | .patrolScrub _ _ => none
  | .tableLoad _ => none
  | .tableLoadComplete _ => none
  | .tableRetire _ => none
  | .tableRefsZero _ => none
  | .arm _ => none
  | .rearm _ => none
  | .disarm _ => none
  | .reduceRoundComplete _ => none
  | .reduceRoundTimeout _ => none
  | .engineIdle _ => none
  | .corePllIdle _ => none
  | .alloc _ => none
  | .close _ => none
  | .accept _ => none
  | .reject _ => none
  | .itineraryRetire _ => none
  | .itineraryFree _ => none
  | .launch port m => some (port, m.withFunc opDoorbell 1)
  | .count port m => some (port, m.withFunc opDoorbell 2)
  | .move _ => none
  | .gather _ => none
  | .array _ => none
  | .vector _ => none
  | .select _ => none
  | .send _ => none
  | .stash _ => none
  | .signal _ => none
  | .await _ => none
  | .repeatLeg _ => none
  | .endLeg _ => none
  | .awaitTimeout _ => none
  | .coreReset _ => none
  | .lookup port m => some (port, m.withFunc opSearch 1)
  | .walk port m => some (port, m.withFunc opSearch 2)
  | .searchWrite port m => some (port, m.withFunc opSearch 3)
  | .searchClear port m => some (port, m.withFunc opSearch 4)
  | .searchUpdateApply _ _ => none
  | .entryRecordWrite _ _ => none
  | .walkIdleTimeout _ => none
  | .parityScan _ _ _ => none
  | .partitionCreate _ => none
  | .partitionDestroy _ => none
  | .partitionCleared _ => none
  | .partitionReloaded _ => none
  | .bankIdleGate _ => none
  | .compositionCreate _ => none
  | .compositionReset _ => none
  | .compositionResetComplete _ => none
  | .compositionDestroy _ => none
  | .compositionDescriptorWrite _ _ _ _ => none
  | .join _ => none
  | .leave _ => none
  | .interruptWriteTimeout _ _ => none
  | .openRec port m => some (port, m.withFunc opHandoff 1)
  | .sealRec port m => some (port, m.withFunc opHandoff 2)
  | .offer port m => some (port, m.withFunc opHandoff 3)
  | .withdraw port m => some (port, m.withFunc opHandoff 4)
  | .claim port m => some (port, m.withFunc opHandoff 5)
  | .handoffRelease port m => some (port, m.withFunc opHandoff 6)
  | .discard port m => some (port, m.withFunc opHandoff 7)
  | .query port m => some (port, m.withFunc opHandoff 8)
  | .offerTimerExpiry _ => none
  | .forceFree _ => none
  | .admissionHoldRelease _ _ => none
  | .gateEntryChange _ => none
  | .gateSwitchTimeWrite _ _ => none
  | .gateBankSwitch _ => none
  | .budgetWrite _ _ _ => none
  | .portEnable _ => none
  | .portDisable _ => none
  | .portReset _ => none
  | .portRetrain _ => none
  | .breakoutWrite _ _ => none
  | .portRoleWrite _ _ => none
  | .laserInputLow _ _ => none
  | .laserInputRestored _ _ => none
  | .lanePresenceChange _ _ _ => none
  | .receiversAdapted _ => none
  | .trainTimeout _ => none
  | .codewordsLocked _ => none
  | .alignTimeout _ => none
  | .parameterBlockReceived _ _ => none
  | .paramTimeout _ => none
  | .secureTimeout _ => none
  | .codewordLockLost _ => none
  | .retrainComplete _ => none
  | .retrainTimeout _ => none
  | .flitReceived _ _ => none
  | .replayTimeout _ => none
  | .rekeyLimit _ => none
  | .rekeyDeadline _ => none
  | .narrowIdle _ => none
  | .twMirror port m => some (port, m.withOp opTwMirror)
  | .twMirrorAck port m => some (port, m.withOp opTwMirrorAck)
  | .twBeat port m => some (port, m.withOp opTwBeat)
  | .twSuspect port m => some (port, m.withOp opTwSuspect)
  | .twConfirm port m => some (port, m.withOp opTwConfirm)
  | .twVerdict port m => some (port, m.withOp opTwVerdict)
  | .twServing port m => some (port, m.withOp opTwServing)
  | .twDetachRequest port m => some (port, m.withStep opTwDetach 0)
  | .twDetachConfirm port m => some (port, m.withStep opTwDetach 1)
  | .twDetachRefuse port m => some (port, m.withStep opTwDetach 2)
  | .twCatchupEpoch port m => some (port, m.withStep opTwCatchup 0)
  | .twCatchupStart port m => some (port, m.withStep opTwCatchup 1)
  | .twCatchupDone port m => some (port, m.withStep opTwCatchup 2)
  | .twCatchupAbort port m => some (port, m.withStep opTwCatchup 3)
  | .catchupCopy => none
  | .turn => none
  | .pairLostTimeout _ => none
  | .spareCallTimeout => none
  | .tagWarningRepeat => none
  | .mirrorDisable _ => none
  | .scoreDecay => none
  | .drillStart => none
  | .drillPathFlapReturn => none
  | .drillOutcome _ => none
  | .spdm port m => some (port, m.withFunc opMgmt 4)
  | .canEventPop _ => none
  | .stewardAlive _ => none
  | .stewardWatchdogExpiry => none
  | .stewardRestart _ => none
  | .enterRecovery _ => none
  | .stewardRunning => none
  | .recoveryInstall _ => none
  | .recoveryAbort _ => none
  | .inputPowerUp => none
  | .powerLoss => none
  | .pgoodLow => none
  | .powerLossWritesComplete _ => none
  | .powerStageFailure _ => none
  | .powerCapStep _ => none
  | .referenceLoss => none
  | .referenceReturn => none
  | .reference156Loss => none
  | .reference156Return => none
  | .powerFull _ => none
  | .powerTrim _ => none
  | .powerQuiet _ => none
  | .powerWatch _ => none
  | .powerOff _ => none
  | .handshakeAccepted => none
  | .handshakeRefused => none
  | .handshakeTimeout => none
  | .warmReset _ => none
  | .coldReset _ => none
  | .coldStart _ => none
  | .resetContact => none
  | .islandBrownOut => none
  | .watchWakePeriod _ _ => none
  | .startStepComplete _ => none
  | .startStepFailed _ => none
  | .scoreJournalPeriod => none
  | .thermalThrottle _ _ _ => none
  | .thermalThrottleEnd => none
  | .thermalTrip _ _ _ => none
  | .certInstall _ => none
  | .certErase _ => none
  | .ownerSet _ => none
  | .ownerTransfer _ => none
  | .imageStage _ => none
  | .imageAbort _ => none
  | .sessionRetryHoldoff _ => none
  | .randomSourceUnhealthy _ => none
  | .jtagBypass => none
  | .jtagIdcode => none
  | .jtagSamplePreload _ => none
  | .jtagExtest => none
  | .egressSlot _ => none
  | .fullWidthRestored _ => none
  | .stewardDieFault => none
  | .canBusOff => none
  | .randomSourceHealthy => none
  | .crystalChange _ => none
  | .zeroTileTrayWrite => none
  | .markedTileOverwrite => none

/-- Every operand of a command is in its range. -/
def Instr.wf : Instr → Bool
  | .objectWrite a => Access.wf a
  | .governorPeriod => true
  | .bind who => Requester.wf who
  | .revoke who => Requester.wf who
  | .restore who => Requester.wf who
  | .extentRelease who => Requester.wf who
  | .drainComplete ext => decide (ext < 2 ^ 16)
  | .drainTimerExpiry ext => decide (ext < 2 ^ 16)
  | .tileZeroMark ext => decide (ext < 2 ^ 16)
  | .rdShared port m => portWf port && m.wf
  | .rdOwn port m => portWf port && m.wf
  | .rdNc port m => portWf port && m.wf
  | .wrNc port m => portWf port && m.wf
  | .wrStash port m => portWf port && m.wf
  | .wbDirty port m => portWf port && m.wf
  | .evictClean port m => portWf port && m.wf
  | .atomic port m => portWf port && m.wf
  | .fence port m => portWf port && m.wf
  | .milestone port m => portWf port && m.wf
  | .snpInv port m => portWf port && m.wf
  | .snpShare port m => portWf port && m.wf
  | .stashFill port m => portWf port && m.wf
  | .snpResp port m => portWf port && m.wf
  | .resp port m => portWf port && m.wf
  | .respData port m => portWf port && m.wf
  | .mergeHoldExpiry line => lineWf line
  | .residencyLimit _ => true
  | .requestTimeout peer tag => decide (peer < 2 ^ 16) && decide (tag < 2 ^ 16)
  | .pathChangeStart pair newPort cause => decide (pair < 64) && portWf newPort && decide (cause < 256)
  | .milestoneTimeout pair => decide (pair < 64)
  | .ledgerEntryExpiry host id => hostWf host && decide (id < 2 ^ 32)
  | .dwellExpiry line => lineWf line
  | .homeTimeout line => lineWf line
  | .stashOfferTimeout line => lineWf line
  | .tierAccessDone line _ => lineWf line
  | .filterWalkComplete => true
  | .hostLossHoldExpiry host => hostWf host
  | .hostDeclareLost who => Requester.wf who
  | .readmit who => Requester.wf who
  | .notice port m => portWf port && m.wf
  | .sharersDropped who => Requester.wf who
  | .trayRequestTimeout port tag => portWf port && decide (tag < 2 ^ 16)
  | .trayLossHoldExpiry port => portWf port
  | .memberDeclareLost who => Requester.wf who
  | .replace who => Requester.wf who
  | .replaceFillComplete set member => decide (set < 256) && decide (member < 32)
  | .trayReadReissue => true
  | .prefetchFill => true
  | .dirtyWriteback => true
  | .flush who => Requester.wf who
  | .flushComplete comp => decide (comp < 128)
  | .cacheQuotaWrite who tiles => Requester.wf who && fits 4 tiles
  | .windowDescriptorWrite who value => Requester.wf who && fits 16 value
  | .windowCursorWrite who value => Requester.wf who && fits 2 value
  | .windowRepointComplete comp window => decide (comp < 128) && decide (window < 16)
  | .regionCreate who => Requester.wf who
  | .regionDestroy who => Requester.wf who
  | .eccRecoveryComplete line _ _ => lineWf line
  | .patrolScrub line _ => lineWf line
  | .tableLoad who => Requester.wf who
  | .tableLoadComplete slot => decide (slot < 4)
  | .tableRetire who => Requester.wf who
  | .tableRefsZero slot => decide (slot < 4)
  | .arm who => Requester.wf who
  | .rearm who => Requester.wf who
  | .disarm who => Requester.wf who
  | .reduceRoundComplete slot => decide (slot < 64)
  | .reduceRoundTimeout slot => decide (slot < 64)
  | .engineIdle engine => decide (engine < 192)
  | .corePllIdle core => decide (core < 24)
  | .alloc who => Requester.wf who
  | .close who => Requester.wf who
  | .accept who => Requester.wf who
  | .reject who => Requester.wf who
  | .itineraryRetire who => Requester.wf who
  | .itineraryFree who => Requester.wf who
  | .launch port m => portWf port && m.wf
  | .count port m => portWf port && m.wf
  | .move core => decide (core < 24)
  | .gather core => decide (core < 24)
  | .array core => decide (core < 24)
  | .vector core => decide (core < 24)
  | .select core => decide (core < 24)
  | .send core => decide (core < 24)
  | .stash core => decide (core < 24)
  | .signal core => decide (core < 24)
  | .await core => decide (core < 24)
  | .repeatLeg core => decide (core < 24)
  | .endLeg core => decide (core < 24)
  | .awaitTimeout core => decide (core < 24)
  | .coreReset who => Requester.wf who
  | .lookup port m => portWf port && m.wf
  | .walk port m => portWf port && m.wf
  | .searchWrite port m => portWf port && m.wf
  | .searchClear port m => portWf port && m.wf
  | .searchUpdateApply part _ => decide (part < 16)
  | .entryRecordWrite who value => Requester.wf who && fits 96 value
  | .walkIdleTimeout ctx => decide (ctx < 1024)
  | .parityScan part row _ => decide (part < 16) && decide (row < 2 ^ 18)
  | .partitionCreate who => Requester.wf who
  | .partitionDestroy who => Requester.wf who
  | .partitionCleared part => decide (part < 16)
  | .partitionReloaded part => decide (part < 16)
  | .bankIdleGate bank => decide (bank < 8)
  | .compositionCreate who => Requester.wf who
  | .compositionReset who => Requester.wf who
  | .compositionResetComplete comp => decide (comp < 128)
  | .compositionDestroy who => Requester.wf who
  | .compositionDescriptorWrite who offset len value => Requester.wf who && decide (offset < 32) && fits len value
  | .join who => Requester.wf who
  | .leave who => Requester.wf who
  | .interruptWriteTimeout host tag => hostWf host && decide (tag < 2 ^ 16)
  | .openRec port m => portWf port && m.wf
  | .sealRec port m => portWf port && m.wf
  | .offer port m => portWf port && m.wf
  | .withdraw port m => portWf port && m.wf
  | .claim port m => portWf port && m.wf
  | .handoffRelease port m => portWf port && m.wf
  | .discard port m => portWf port && m.wf
  | .query port m => portWf port && m.wf
  | .offerTimerExpiry record => decide (record < 2 ^ 20)
  | .forceFree who => Requester.wf who
  | .admissionHoldRelease port tc => portWf port && decide (tc < 8)
  | .gateEntryChange port => portWf port
  | .gateSwitchTimeWrite who time => Requester.wf who && fits 8 time
  | .gateBankSwitch port => portWf port
  | .budgetWrite who sub value => Requester.wf who && decide (3 ≤ sub) && decide (sub ≤ 6) && fits 4 value
  | .portEnable who => Requester.wf who
  | .portDisable who => Requester.wf who
  | .portReset who => Requester.wf who
  | .portRetrain who => Requester.wf who
  | .breakoutWrite who value => Requester.wf who && fits 1 value
  | .portRoleWrite who value => Requester.wf who && fits 1 value
  | .laserInputLow input _ => decide (input < 64)
  | .laserInputRestored input _ => decide (input < 64)
  | .lanePresenceChange phys lane _ => decide (phys < 64) && decide (lane < 8)
  | .receiversAdapted port => portWf port
  | .trainTimeout port => portWf port
  | .codewordsLocked port => portWf port
  | .alignTimeout port => portWf port
  | .parameterBlockReceived port _ => portWf port
  | .paramTimeout port => portWf port
  | .secureTimeout port => portWf port
  | .codewordLockLost port => portWf port
  | .retrainComplete port => portWf port
  | .retrainTimeout port => portWf port
  | .flitReceived port flit => portWf port && Flit.wf flit
  | .replayTimeout port => portWf port
  | .rekeyLimit port => portWf port
  | .rekeyDeadline port => portWf port
  | .narrowIdle port => portWf port
  | .twMirror port m => portWf port && m.wf
  | .twMirrorAck port m => portWf port && m.wf
  | .twBeat port m => portWf port && m.wf
  | .twSuspect port m => portWf port && m.wf
  | .twConfirm port m => portWf port && m.wf
  | .twVerdict port m => portWf port && m.wf
  | .twServing port m => portWf port && m.wf
  | .twDetachRequest port m => portWf port && m.wf
  | .twDetachConfirm port m => portWf port && m.wf
  | .twDetachRefuse port m => portWf port && m.wf
  | .twCatchupEpoch port m => portWf port && m.wf
  | .twCatchupStart port m => portWf port && m.wf
  | .twCatchupDone port m => portWf port && m.wf
  | .twCatchupAbort port m => portWf port && m.wf
  | .catchupCopy => true
  | .turn => true
  | .pairLostTimeout pair => decide (pair < 64)
  | .spareCallTimeout => true
  | .tagWarningRepeat => true
  | .mirrorDisable who => Requester.wf who
  | .scoreDecay => true
  | .drillStart => true
  | .drillPathFlapReturn => true
  | .drillOutcome _ => true
  | .spdm port m => portWf port && m.wf
  | .canEventPop who => Requester.wf who
  | .stewardAlive who => Requester.wf who
  | .stewardWatchdogExpiry => true
  | .stewardRestart who => Requester.wf who
  | .enterRecovery who => Requester.wf who
  | .stewardRunning => true
  | .recoveryInstall who => Requester.wf who
  | .recoveryAbort who => Requester.wf who
  | .inputPowerUp => true
  | .powerLoss => true
  | .pgoodLow => true
  | .powerLossWritesComplete _ => true
  | .powerStageFailure stage => decide (stage < 4)
  | .powerCapStep watts => decide (watts < 2 ^ 16)
  | .referenceLoss => true
  | .referenceReturn => true
  | .reference156Loss => true
  | .reference156Return => true
  | .powerFull who => Requester.wf who
  | .powerTrim who => Requester.wf who
  | .powerQuiet who => Requester.wf who
  | .powerWatch who => Requester.wf who
  | .powerOff who => Requester.wf who
  | .handshakeAccepted => true
  | .handshakeRefused => true
  | .handshakeTimeout => true
  | .warmReset who => Requester.wf who
  | .coldReset who => Requester.wf who
  | .coldStart who => Requester.wf who
  | .resetContact => true
  | .islandBrownOut => true
  | .watchWakePeriod _ _ => true
  | .startStepComplete _ => true
  | .startStepFailed detail => decide (detail < 256)
  | .scoreJournalPeriod => true
  | .thermalThrottle cls item _ => decide (cls < 3) && decide (item < 256)
  | .thermalThrottleEnd => true
  | .thermalTrip cls item _ => decide (cls < 3) && decide (item < 256)
  | .certInstall who => Requester.wf who
  | .certErase who => Requester.wf who
  | .ownerSet who => Requester.wf who
  | .ownerTransfer who => Requester.wf who
  | .imageStage who => Requester.wf who
  | .imageAbort who => Requester.wf who
  | .sessionRetryHoldoff port => portWf port
  | .randomSourceUnhealthy test => decide (test < 256)
  | .jtagBypass => true
  | .jtagIdcode => true
  | .jtagSamplePreload _ => true
  | .jtagExtest => true
  | .egressSlot port => portWf port
  | .fullWidthRestored port => portWf port
  | .stewardDieFault => true
  | .canBusOff => true
  | .randomSourceHealthy => true
  | .crystalChange _ => true
  | .zeroTileTrayWrite => true
  | .markedTileOverwrite => true

end Sys2Proof
end

