-- ==== Sys2Proof/Safety.lean ====
section
/-! DEFINITION. What counts as a safe run, and the words that claims are stated in: the state that a command leaves, and the
conditions under which a write reaches its object or a message passes its port. -/

namespace Sys2Proof.Machine

/-- Every command that waits is well-formed. -/
def QueueWf (s : State) : Prop := ∀ c ∈ s.pending, Sys2Proof.Instr.wf c = true

/-- The addressed RAMs of the package: the fast tier and the cores' local memories, in canonical form. -/
def MemoriesWf (s : State) : Prop := Memory.wf s.tier.mem = true ∧ Memory.wf s.compute.loc = true

/-- A step is safe when it answers a next state. -/
def StepSafe (s : State) : Prop := ∃ t, step s = .next t

/-- A run of n steps from s is safe when it answers a state. -/
def RunSafe (n : Nat) (s : State) : Prop := ∃ t, Sys2Proof.core.run n s = .next t

/-! ## The state that a command leaves -/

/-- The state that a command leaves in `s` when `t` is its own effect: what follows of itself, `EVENT_N` as it then stands, and the
queue as it was. -/
def after (s t : State) : State := { drivePins (settle t) with pending := s.pending }

/-- What a queue of commands does, taken in its order from the front: each command runs with the rest still waiting. -/
def runQueue : List Instr → State → State
  | [], s => s
  | c :: rest, s =>
    match Sys2Proof.Machine.exec c { s with pending := rest } with
    | .next t => runQueue rest t
    | _ => s

/-! ## Writes of objects -/

/-- Whether a requester's write of an object reaches the dictionary at once (R356, R364, R369). -/
def Reaches (s : State) (w : Requester) (o : Nat) : Prop :=
  match w with
  | .steward => stewardWaits s = false
  | .can => canReached s = true ∧ (canLimited s = false ∨ alwaysOn o = true)
  | .inband _ _ => inService s = true ∧ servesHere s = true

/-- A write of `len` bytes from the start of an object. -/
def wholeWrite (w : Requester) (o len v : Nat) : Access :=
  { who := w, idx := o / 2 ^ 8, sub := o % 2 ^ 8, offset := 0, len := len, value := v }

/-- Whether a write of an object passes every check before its chapter's own (R351), waits behind no earlier write of its
requester (R352), and commits without the twin (R306). -/
def Writable (s : State) (w : Requester) (o len v : Nat) : Prop :=
  Reaches s w o ∧ waitsBehind s w = none ∧ holdsNow s = false ∧ (writeCheck s (wholeWrite w o len v) (pieceLimit w)).1 = aeOk

/-- The answer of a write: counted, and given to its requester (R353, objects 2C00.01 and 2C00.02). -/
def reply (t : State) (w : Requester) (o e : Nat) : State :=
  (countAccess t e).onDict (fun k => { k with answers := k.answers ++ [{ who := w, idx := o / 2 ^ 8, sub := o % 2 ^ 8, err := e }] })

/-! ## Messages -/

/-- Whether messages that arrive on a port come to the switch: in service, not losing power, and not in `SECURE` (R285,
R379, R382). -/
def Listens (s : State) (p : Nat) : Prop :=
  s.power.losing = none ∧ s.power.halted = false ∧ linkKeeper s = false ∧ inService s = true ∧ linkState s p ≠ lsSecure

/-- Whether a port is a host's, and requests on it are not sent away by a handshake (R380). -/
def HostPort (s : State) (p : Nat) : Prop := Listens s p ∧ portRole s p = roleHost ∧ s.power.shake = none

/-- The state in which an admitted message of a host is on its way (R256): its tokens taken, outstanding, charged, counted,
and its way back known. -/
def onWay (s : State) (p : Nat) (m : Msg) : State :=
  let s1 := if hostAnswer m then openReq s p m
    else bucketCharge (openReq (policeTake s (peerHost m.peer) m.tc).2 p m) (peerHost m.peer) m
  (addStat s1 0x230001 0 1).onTm (fun t => { t with hostVia := t.hostVia.put (peerHost m.peer) p })

/-- Whether the port logic admits a message of a host at once (R256 steps 1 to 9). -/
def Admits (s : State) (p : Nat) (m : Msg) : Prop :=
  HostPort s p ∧ isVecAnswer s m = false ∧ stepsOneToFour s p m = none ∧
  (hostAnswer m = true ∨
    (stepsFiveSix s m = none ∧ (policeTake s (peerHost m.peer) m.tc).1 = true ∧
      classHeld (policeTake s (peerHost m.peer) m.tc).2 p m.tc = false ∧
      bucketOk (policeTake s (peerHost m.peer) m.tc).2 (peerHost m.peer) = true ∧
      pathHeld (policeTake s (peerHost m.peer) m.tc).2 m = false))

/-- Whether this ZX964 is home for a line and serves it (R14-R16, R305). -/
def HomesLine (s : State) (line : Nat) : Prop :=
  s.twin.pair ≠ psQuarantined ∧ homePair s line = some (ownPair s) ∧ pairVerdict s (ownPair s) = none ∧ servesHere s = true

/-- Whether a service request is for this ZX964, which serves it (R305). -/
def ServesPair (s : State) (m : Msg) : Prop :=
  s.twin.pair ≠ psQuarantined ∧ spdmHere s m = false ∧ s.twin.quarantine.has (identOf m.targetPair m.targetSide) = false ∧
  pairVerdict s m.targetPair = none ∧ m.targetPair = ownPair s ∧ servesHere s = true

/-- The state at an admitted request's arrival at its home, and the request there: it has taken its admission number. -/
def atHome (u : State) : State := u.onHome (fun h => { h with admits := h.admits + 1 })

/-- A request of a host at its home (R36). -/
def homeReq (u : State) (p : Nat) (m : Msg) : Req :=
  { m := m, port := some p, admNo := u.home.admits, served := m.line, group := 1 }

/-- Whether a host's request on a line is admitted, meets neither an open group nor the merge table's conditions to open one
(R45-R47), and passes its checks (R20, R54) as `r` in the state `v`. -/
def Begins (s : State) (p : Nat) (m : Msg) (v : State) (r : Req) : Prop :=
  Admits s p m ∧ HomesLine (onWay s p m) m.line ∧
  (onWay s p m).home.groups.find? (fun g => decide (g.line = m.line)) = none ∧
  mayOpen (atHome (onWay s p m)) m (quadrantOf (atHome (onWay s p m)) m.composition (tileOf m.line)) = false ∧
  checkOne (atHome (onWay s p m)) (homeReq (onWay s p m) p m) = (v, some r)

/-- A service request of a host that is admitted and is for this ZX964, which serves it. -/
def Serves (s : State) (p : Nat) (m : Msg) : Prop := Admits s p m ∧ ServesPair (onWay s p m) m

/-- A trunk or twin port of a ZX964 that is not quarantined, from a peer that is not. -/
def FabricPort (s : State) (p : Nat) : Prop :=
  Listens s p ∧ portRole s p ≠ roleHost ∧ portRole s p ≠ roleTray ∧ s.twin.pair ≠ psQuarantined ∧ fromQuarantined s p = false

/-- A twin-range message on a trunk or twin port, for this ZX964, with no reserved encoding (R10). -/
def ForTwin (s : State) (p : Nat) (m : Msg) : Prop :=
  FabricPort s p ∧ identOf (bits m.peer 0 6) (bits m.peer 6 1) = ownIdent s ∧ twinReserved m = false

/-! ## Legs -/

/-- The leg that a core is at. -/
def legNow (s : State) (c : Nat) : Nat :=
  match (coreOf s c).queue with
  | q :: _ => legAt s (match launchOf s q with | some l => l.itin | none => 0) (coreOf s c).pc
  | [] => 0

/-- The local ranges of the leg that a core is at (R174). -/
def rangesNow (s : State) (c comp : Nat) : List LRange := legRanges s c comp (coreOf s c) (legNow s c)

/-- Whether a core issues a leg of a kind for a composition now: it runs a launch, waits for nothing, no hazard delays the leg
(R174), and the leg writes no reserved bytes. -/
def Issues (s : State) (c kind comp : Nat) : Prop :=
  inService s = true ∧ c < 24 ∧ runningComp s c = some comp ∧ (coreOf s c).queue ≠ [] ∧ (coreOf s c).waiting = none ∧
  legKind (legNow s c) = kind ∧ throttled s kind = false ∧ hazard (coreOf s c) (legNow s c) (rangesNow s c comp) = false ∧
  (rangesNow s c comp).any (intoReserve s c) = false

/-- A core as its leg issues: its PLL runs. -/
def issuing (s : State) (c : Nat) : Core := { coreOf s c with pllOff := false }

/-- The state in which a core's leg has issued: the core is past it, and the leg is counted. -/
def issued (s : State) (c : Nat) : State := addStat (setCore s c (advance (issuing s c))) 0x282005 0 1

end Sys2Proof.Machine
end

