-- ==== Sys2Proof/Certificates/Slice0/Obligations.lean ====
section
/-! DEFINITION. The statements for the provers. -/

open Sys2Proof Sys2Proof.Machine

/-! ## The queue and the step -/

/-- With a command at the front of the queue, a step is that command's meaning on the state with the queue's rest. -/
def Obligations.StepRunsTheFrontCommand : Prop :=
  ∀ (s : State) (c : Instr) (rest : List Instr), s.pending = c :: rest → step s = exec c { s with pending := rest }

/-- On an empty queue a step answers a next state: local time advances by 1 ns where the clock counts, and nothing changes
where it does not. The model's choice: log entry 50. -/
def Obligations.StepIdlesOnAnEmptyQueue : Prop :=
  (∀ s : State, s.pending = [] → clocked s = true → step s = .next { s with now := s.now + 1 }) ∧
  (∀ s : State, s.pending = [] → clocked s = false → step s = .next s)

/-- No command of the table stops the block: each answers a next state, from every state and with every operand (log
entry 2), and leaves the queue to its sender. -/
def Obligations.EveryCommandAnswersAndKeepsTheQueue : Prop :=
  ∀ (c : Instr) (s : State), ∃ t, exec c s = .next t ∧ t.pending = s.pending

/-- Commands are taken first in, first out: as many steps as commands wait, from any state, give the commands' effects in the
order in which they waited, and leave the queue empty. -/
def Obligations.QueueRunsFirstInFirstOut : Prop :=
  ∀ s : State, Sys2Proof.core.run s.pending.length s = .next (runQueue s.pending s) ∧ (runQueue s.pending s).pending = []

/-- A queue of well-formed commands stays one under every step. -/
def Obligations.StepKeepsTheQueueWellFormed : Prop :=
  ∀ s t : State, QueueWf s → step s = .next t → QueueWf t

/-- The queue is well-formed, because empty, right after reset. -/
def Obligations.ResetQueueIsWellFormed : Prop := QueueWf State.reset ∧ State.reset.pending = []

/-- What follows of itself after a command is nothing where nothing is due: then a command leaves exactly its own effect, with the
contact `EVENT_N` at the level that the CAN queue then gives it (R368, R425): asserted while it holds a record, and released in
`OFF`. -/
def Obligations.NothingFollowsWhereNothingIsDue : Prop :=
  ∀ s t : State,
    (quiet t = true → after s t = { t with
      pending := s.pending
      power := { t.power with eventN := !t.dict.canQ.isEmpty && decide (t.power.state ≠ pwOff) } }) ∧
    (after s t).power.eventN = (!(after s t).dict.canQ.isEmpty && decide ((after s t).power.state ≠ pwOff))

/-- While local time does not count (R375, R378, R396), no timer and no event of a link, an engine or a core happens: such a
command leaves the state as it is. -/
def Obligations.NoTimedEventWithoutAClock : Prop :=
  ∀ s : State, clocked s = false →
    (∀ x, exec (.drainComplete x) s = .next (after s s) ∧ exec (.drainTimerExpiry x) s = .next (after s s) ∧
      exec (.tileZeroMark x) s = .next (after s s) ∧ exec (.mergeHoldExpiry x) s = .next (after s s) ∧
      exec (.residencyLimit x) s = .next (after s s) ∧ exec (.dwellExpiry x) s = .next (after s s) ∧
      exec (.homeTimeout x) s = .next (after s s) ∧ exec (.stashOfferTimeout x) s = .next (after s s) ∧
      exec (.flushComplete x) s = .next (after s s) ∧ exec (.walkIdleTimeout x) s = .next (after s s) ∧
      exec (.offerTimerExpiry x) s = .next (after s s) ∧ exec (.gateEntryChange x) s = .next (after s s) ∧
      exec (.gateBankSwitch x) s = .next (after s s) ∧ exec (.egressSlot x) s = .next (after s s) ∧
      exec (.replayTimeout x) s = .next (after s s) ∧ exec (.pairLostTimeout x) s = .next (after s s)) ∧
    exec .governorPeriod s = .next (after s s) ∧ exec .filterWalkComplete s = .next (after s s) ∧
    exec .turn s = .next (after s s) ∧ exec .scoreDecay s = .next (after s s) ∧ exec .drillStart s = .next (after s s) ∧
    exec .dirtyWriteback s = .next (after s s) ∧ exec .prefetchFill s = .next (after s s) ∧
    exec .scoreJournalPeriod s = .next (after s s)

/-! ## Reset -/

/-- What reset leaves (R9, R350, R387): every object reads as the dictionary's table gives it, nothing is listed in the
addressed RAMs, every extent is FREE, no request, snoop entry, ledger entry or record is held, and local time is 0. -/
def Obligations.ResetLeavesTheTableValues : Prop :=
  (∀ o i, getObj State.reset o i = objDefault o i) ∧ State.reset.tier.mem = [] ∧ State.reset.compute.loc = [] ∧
  State.reset.home.exts = [] ∧ State.reset.home.txns = [] ∧ State.reset.home.filter = [] ∧ State.reset.home.ledger = [] ∧
  State.reset.comps.recs = [] ∧ State.reset.now = 0 ∧ State.reset.power.state = pwFull

/-! ## The home's own events -/

/-- The drain and marking events of an extent (R21): a drain that is over ends in REVOKED with 0x0A12 and no straggler; one
whose timer expires ends the same way with its stragglers poisoned and counted; a marked tile is charged, marked and
counted, and the last one ends the marking. -/
def Obligations.ExtentEventsRun : Prop :=
  ∀ (s : State) (x : Nat), clocked s = true →
    ((extOf s x).state = 2 → drainPending s x = false →
      exec (.drainComplete x) s = .next (after s (extEvent (changeExt s x (fun e => { e with state := 3, drainAt := none }))
        x 0x0A12 [(4, 0)] true))) ∧
    (∀ d, (extOf s x).state = 2 → (extOf s x).drainAt = some d →
      exec (.drainTimerExpiry x) s = .next (after s (extEvent
        (changeExt (addErr (endDrain (reachTime s d) x).1 0x211102 0 (endDrain (reachTime s d) x).2) x
          (fun e => { e with state := 3, drainAt := none }))
        x 0x0A12 [(4, (endDrain (reachTime s d) x).2)] true))) ∧
    (((extOf s x).state = 4 ∨ (extOf s x).state = 5) → (extOf s x).marked < (extOf s x).length →
      hasBudget s 0 (quadrantOf s (extOf s x).comp ((extOf s x).base + (extOf s x).marked)) 2 1 = true →
      exec (.tileZeroMark x) s = .next (after s (extMarked (setExt
        (markZero (charge s 0 (quadrantOf s (extOf s x).comp ((extOf s x).base + (extOf s x).marked)) 2 1)
          ((extOf s x).base + (extOf s x).marked)) x { extOf s x with marked := (extOf s x).marked + 1 }) x)))

/-- The timers of requests on their way. A merge group whose hold is over leaves the merge table and goes to the home with all
its members (R47); a line without an open group has none to close. A message that waits for egress, or that a path change
holds, longer than object 2210.02 is discarded and counted in object 2201.03 (R37); a place that holds no message changes
nothing. An outstanding request of an attached host ends with `TIMEOUT`, detail `PATH_DOWN` where its path is lost and
`REQUEST_TIMEOUT` otherwise, and is outstanding no longer (R38); a request that is not outstanding changes nothing. A compute
core's request that is unanswered in time faults its leg with `TIMEOUT` and detail `REQUEST_FAILED` while its launch runs
(R38, R199), is dropped where the launch stops (R196), and changes nothing where it is not outstanding.
Choices of the model that it rests on: log entries 37 and 82. -/
def Obligations.RequestTimersRun : Prop :=
  ∀ s : State, clocked s = true →
    (∀ line,
      (∀ g, s.home.groups.find? (fun g => decide (g.line = line)) = some g →
        exec (.mergeHoldExpiry line) s = .next (after s (groupToHome ((reachTime s g.closeAt).onHome
          (fun h => { h with groups := eraseFirst h.groups (fun x => decide (x = g)) })) g.reqs))) ∧
      (s.home.groups.find? (fun g => decide (g.line = line)) = none →
        exec (.mergeHoldExpiry line) s = .next (after s s))) ∧
    (∀ n,
      (∀ k i e, egressNth s.tm.egress n = some (k, i) → (s.tm.egress.getD k [])[i]? = some e →
        exec (.residencyLimit n) s = .next (after s
          ((addErr (reachTime s (e.since + 1000 * cfg s 0x221002 + 1)) 0x220103 0 1).onTm
            (fun t => { t with egress := t.egress.put k ((s.tm.egress.getD k []).eraseIdx i) })))) ∧
      (∀ k i c x, egressNth s.tm.egress n = none → heldNth s.tm.changes (n - egressCount s) = some (k, i) →
        s.tm.changes.get? k = some c → c.held[i]? = some x →
        exec (.residencyLimit n) s = .next (after s (freeSlots
          ((addErr (reachTime s (x.2.2 + 1000 * cfg s 0x221002 + 1)) 0x220103 0 1).onTm (fun t => { t with
            changes := t.changes.upd k (fun c => { c with held := c.held.eraseIdx i }) }))
          x.1 x.2.1.tc x.2.1.slotCount))) ∧
      (egressNth s.tm.egress n = none → heldNth s.tm.changes (n - egressCount s) = none →
        exec (.residencyLimit n) s = .next (after s s))) ∧
    (∀ peer tag, peerIsAgent peer = false →
      (∀ r, hostReqOf s (peerHost peer) tag = some r →
        exec (.requestTimeout peer tag) s = .next (after s
          (let s1 := forgetSent (dropHeld (reachTime s r.deadline) (peerHost peer) tag) r.host r.tag
           let a := mkResp r.asked stTimeout (if r.pathLost then dPathDown else dRequestTimeout) (ownAgent s1 agentPorts) 0 1
           closeHostReq (emitToHost s1 (peerHost peer) (replyPort s1 (peerHost peer) r.port) a) r true r.pathLost))) ∧
      (hostReqOf s (peerHost peer) tag = none → exec (.requestTimeout peer tag) s = .next (after s s))) ∧
    (∀ peer tag, peerIsAgent peer = true →
      (let c := bits peer 7 5 - 1
       let sought := (coreOf s c).jobs.findSome? (fun j =>
         ((j.outstanding ++ j.again).find? (fun q => decide (q.tag = tag))).map (fun q => (j, q)))
       (∀ j q seq more l, sought = some (j, q) → (coreOf s c).queue = seq :: more →
         (let s1 := forgetSent (reachTime s q.deadline) (ownAgent s (c + 1)) tag
          launchOf s1 seq = some l →
          (l.state ≠ 2 → exec (.requestTimeout peer tag) s = .next (after s
            (faultAt (replaceJob s1 c j (some { j with
              outstanding := eraseFirst j.outstanding (fun x => decide (x = q)),
              again := eraseFirst j.again (fun x => decide (x = q)) })) c j.pc j.iter stTimeout dRequestFailed))) ∧
          (l.state = 2 → exec (.requestTimeout peer tag) s = .next (after s (dropAnswer s1 c j q seq))))) ∧
       (sought = none → exec (.requestTimeout peer tag) s = .next (after s s))))

/-- Path changes (R43): a change stops the old path and sends a milestone in each class that has requests outstanding; a
milestone that times out gives the old path up, marks the requests sent on it, counts and posts 0x0212; a change with no class
outstanding is complete at once. Choices of the model that it rests on: log entries 16, 103 and 125. -/
def Obligations.PathChangesRun : Prop :=
  ∀ (s : State) (pair : Nat), clocked s = true →
    (∀ new cause old, s.tm.changes.get? pair = none → pathTo s pair 256 = some old → old ≠ new →
      new ∈ candidates s pair →
      (let n := (classesTo s pair).length
       let ids := (List.range n).map (fun i => (s.tm.milestoneId + i) % 2 ^ 32)
       let c : PathChange := { oldPort := old, newPort := new, cause := cause, milestones := ids,
                               deadline := s.now + 1000 * cfg s 0x221003, held := [] }
       let s1 := post (s.onTm (fun t => { t with changes := t.changes.put pair c,
                                                 milestoneId := (s.tm.milestoneId + n) % 2 ^ 32 }))
         0x0210 none (pay [(1, pair), (1, old), (1, new), (1, cause)])
       (classesTo s pair ≠ [] →
         exec (.pathChangeStart pair new cause) s = .next (after s
           (((classesTo s pair).zip ids).foldl (fun s x => emit s old (milestoneMsg s pair x.1 x.2)) s1))) ∧
       (classesTo s pair = [] →
         exec (.pathChangeStart pair new cause) s = .next (after s (pathChangeComplete s1 pair c))))) ∧
    (∀ c, s.tm.changes.get? pair = some c → c.milestones ≠ [] →
      exec (.milestoneTimeout pair) s = .next (after s
        (let s1 := reachTime s c.deadline
         let hit : HostReq → Bool := fun r => decide (r.dest = pair) && decide (r.path = c.oldPort)
         let s2 := s1.onTm (fun t => { t with
           hostReqs := t.hostReqs.map (fun r => if hit r then { r with pathLost := true } else r) })
         post (movePath (addErr s2 0x221004 0 1) pair c) 0x0212 none
           (pay [(1, pair), (1, c.oldPort), (4, (s1.tm.hostReqs.filter hit).length)]))))

/-- The home's timers: a ledger entry that is not PENDING ends and raises the floor (R52, R53); a dwell that is over lets the
deferred transaction snoop (R69, R70); a stash offer without an answer records its host as a sharer (R75); the hold of a
host whose ports are all down declares it lost (R79). A home timeout stores returned data, poisons the line, frees its entry
and mirrors both, counts the timeout, posts one 0x0401 for each silent host, and serves the waiting operation with detail
HOME_TIMEOUT (R71). A filter walk that has read every set reports each of its causes and leaves no walk running (R78).
Choices of the model that it rests on: log entry 33. -/
def Obligations.HomeTimersRun : Prop :=
  ∀ s : State, clocked s = true →
    (∀ host id e, ledgerFind s host id = some e → e.state ≠ 0 →
      exec (.ledgerEntryExpiry host id) s = .next (after s
        (let s1 := endEntry (reachTime s (e.stamp + 1000 * cfg s 0x248001)) host id
         mirrorOnly s1 [recLedger s1 host id, recFloor s1 host]))) ∧
    (∀ line h d, s.home.dwells.get? line = some (h, d) → s.home.txns.get? line = none →
      exec (.dwellExpiry line) s = .next (after s
        ((reachTime s d).onHome (fun x => { x with dwells := x.dwells.del line })))) ∧
    (∀ line h d t rs, s.home.dwells.get? line = some (h, d) → s.home.txns.get? line = some t → t.state = .dwellWait →
      t.work = .ops rs →
      exec (.dwellExpiry line) s = .next (after s (snoopPhase
        ((reachTime s d).onHome (fun x => { x with dwells := x.dwells.del line })) line t.work { t with deadline := none }))) ∧
    (∀ line t d h more, s.home.txns.get? line = some t → t.state = .stashing → t.deadline = some d → t.targets = h :: more →
      exec (.stashOfferTimeout line) s = .next (after s (stashAnswered ((reachTime s d).onHome (fun x => { x with
        timedOut := x.timedOut ++ t.snoops.map (fun q => (line, q.host, q.tag)) })) line h true))) ∧
    (∀ host d, s.home.hostDown.get? host = some d → getObj s 0x242005 host = 0 → isLost s host = false →
      inService s = true →
      exec (.hostLossHoldExpiry host) s = .next (after s
        (sendNotices (loseHost (reachTime s (d + 1000 * cfg s 0x242001)) host 0) host))) ∧
    (∀ line t d rs, s.home.txns.get? line = some t → t.state = .snooping → t.deadline = some d → t.work = .ops rs →
      answersIgnored s line = false →
      exec (.homeTimeout line) s = .next (after s
        (let s1 := (writeReturned (reachTime s d) t line).1
         let s2 := setEntry (poisonAnywhere s1 line 0) line none
         let s3 := mirrorOnly s2 [recLine s2 line, recFilter s2 line]
         let s4 := timeoutEvents (addErr s3 0x241004 0 1) line t
         finishOrServe (s4.onHome (fun h => { h with
             timedOut := h.timedOut ++ t.snoops.map (fun x => (line, x.host, x.tag)) }))
           line { t with snoops := [], returned := none, deadline := none, poisonDetail := some dHomeTimeout,
                         tierDone := true, entryChanged := true }))) ∧
    exec .filterWalkComplete s = .next (after s
      (settleDepartures (s.home.walk.foldl walkReport (s.onHome (fun h => { h with walk := [] })))))

/-- A tier access (R69, R93, R103, R117, R232). In `SERVING`, with the line in reach, no recovery under way, a stack slot left
where one is due, and neither the dirty limit nor a publish holding its end, an access that reads no damaged line carries the
transaction out. While snoops are unanswered it only notes that the access is done. At the dirty limit the transaction stays,
marked as held, and 0x0510 is posted once in the period; with no stack slot left it waits for the next period; and a line
that is not in reach is asked for. Choices of the model that it rests on: log entries 7 and 124. -/
def Obligations.TierAccessRuns : Prop :=
  ∀ (s : State) (line errs : Nat) (t : Txn), clocked s = true → s.home.txns.get? line = some t →
    (let s0 := demandFor s line t
     let a := accessLine s0 line t.work
     let s1 := if slotDue s0 a t = true then hostCharge s0 0 (stackOf s0 a / 4) (lineComp s0 line) 1 else s0
     (accessReady s0 a line t = true → s0.tier.recover.has a = false → (slotDue s0 a t = false ∨ slotFree s0 line a = true) →
       (readsStack t.work = false ∨ t.returned.isSome = true ∨ t.tierDone = true ∨ s0.tier.zero.contains (tileOf a) = true ∨
         errs = 0) →
       (t.state = .serving → limitHolds s1 line t.work = false → endHeld s1 line t = false →
         exec (.tierAccessDone line errs) s = .next (after s (finish s1 line { t with tierDone := true }))) ∧
       (t.state = .snooping →
         exec (.tierAccessDone line errs) s = .next (after s (putTxn s1 line { t with tierDone := true }))) ∧
       (t.state = .serving → t.returned = none → limitHolds s1 line t.work = true →
         exec (.tierAccessDone line errs) s = .next (after s
           (let s2 := putTxn s1 line { t with tierDone := true, atLimit := true }
            if postedThisPeriod s2 0x0510 (lineComp s1 line) = true then s2
            else postBoth (markPosted s2 0x0510 (lineComp s1 line)) (lineComp s1 line) 0x0510
              (pay [(4, dirtyLines s2 (lineComp s1 line))]))))) ∧
     (accessReady s0 a line t = true → s0.tier.recover.has a = false → (t.state = .serving ∨ t.state = .snooping) →
       slotDue s0 a t = true → slotFree s0 line a = false →
       exec (.tierAccessDone line errs) s = .next (after s (slotWait s0 line a))) ∧
     (accessReady s0 a line t = false → exec (.tierAccessDone line errs) s = .next (after s s0)))
/-! ## The tier engine's events -/

/-- Tray requests (R98, R100, R101, R106): one without an answer has failed on its channel; a port that has been down for its
hold is lost with every member that names it; reads that failed for good are issued again while the migration budget lasts;
a replaced member is filled with poison as far as the scrub budget of the period lasts, and with its last line becomes OK,
0x0503 is posted, and its held dirty lines go out. Choices of the model that it rests on: log entry 18. -/
def Obligations.TrayEventsRun : Prop :=
  ∀ s : State, clocked s = true →
    (∀ port tag r, s.tier.reqs.find? (fun r => decide (r.port = port) && decide (r.tag = tag)) = some r →
      exec (.trayRequestTimeout port tag) s = .next (after s (trayFailed (dropTrayReq (reachTime s r.deadline) r) r))) ∧
    (∀ port d, inService s = true → s.tier.down.get? port = some d → portRole s port = roleTray → linkUp s port = false →
      exec (.trayLossHoldExpiry port) s = .next (after s (declareLost (reachTime s (d + 1000 * cfg s 0x252005)) port 0))) ∧
    (∀ l, s.tier.owed = [] → s.tier.reissue = [l] →
      (let n := match tileAt s (l / 512) with | some t => if t.prefetch = 2 then 0 else 1 | none => 1
       hasBudget s 0 (stackOf s l / 4) 1 n = true → hasBudget s 1 (stackOf s l / 4) 1 6 = true →
       exec .trayReadReissue s = .next (after s (fillLine
         ((charge (charge s 0 (stackOf s l / 4) 1 n) 1 (stackOf s l / 4) 1 6).onTier
           (fun t => { t with reissue := t.reissue.filter (fun x => decide (x ≠ l)) })) l)))) ∧
    (∀ set j first n0, memberState s set j = 3 → s.tier.refills.getD (set + j * 2 ^ 8) (0, 0) = (first, n0) →
      (∀ s1 n, poisonFill s n0 (refillLines s set j first) = (s1, none, n) →
        exec (.replaceFillComplete set j) s = .next (after s
          (let s2 := s1.onTier (fun t => { t with refills := t.refills.del (set + j * 2 ^ 8) })
           let s3 := post (markMember 0 s2 (set, j)) 0x0503 none (pay [(1, set), (1, j), (4, n)])
           (dirtyOn s3 set j).foldl writeBack s3))) ∧
      (∀ s1 l n, poisonFill s n0 (refillLines s set j first) = (s1, some l, n) →
        exec (.replaceFillComplete set j) s = .next (after s
          (s1.onTier (fun t => { t with refills := t.refills.put (set + j * 2 ^ 8) (l, n) })))))

/-- Background writes and reads (R21, R93, R104-R106, R109, R213). A dirty line is written back in the order of R106: first for
a composition that holds a request, as host traffic; then, each under the migration budget, at a dirty limit, and, where no
prefetch can go on, above a flush threshold or for a flush. A prefetch goes on only where no composition at its dirty limit
owes a write-back. A flush whose lines are done posts 0x0511; a zero line goes to its tray under the scrub budget, and a marked
tile is overwritten under it. Choices of the model that it rests on: log entries 51 and 58. -/
def Obligations.TierBackgroundRuns : Prop :=
  ∀ s : State, clocked s = true →
    (∀ l, (tierComps s).findSome? (fun c => if holdsRequest s c then nextDirty s c true else none) = some l →
      exec .dirtyWriteback s = .next (after s (writeBack s l))) ∧
    (heldWriteback s = none →
      (let q := fun l => match tileAt s (l / 512) with | some t => t.quadrant | none => 0
       let room := fun l => hasBudget s 0 (q l) 1 1 = true ∧ hasBudget s 1 (q l) 1 5 = true
       let sent := fun l => writeBack (charge (charge s 0 (q l) 1 1) 1 (q l) 1 5) l
       (∀ l, (tierComps s).findSome? (fun c => if atDirtyLimit s c && owesWriteback s c then nextDirty s c false else none) =
           some l →
         (room l → exec .dirtyWriteback s = .next (after s (sent l))) ∧
         (¬ room l → exec .dirtyWriteback s = .next (after s s))) ∧
       (∀ l, limitWriteback s = none → (prefetchNext s).2 = false →
         ((tierComps s).findSome? (fun c => if owesWriteback s c then nextDirty s c false else none) = some l ∨
           ((tierComps s).findSome? (fun c => if owesWriteback s c then nextDirty s c false else none) = none ∧
             nextFlush s = some l)) →
         (room l → exec .dirtyWriteback s = .next (after s (sent l))) ∧
         (¬ room l → exec .dirtyWriteback s = .next (after s s))))) ∧
    (∀ c f, s.tier.flushes.get? c = some f →
      (let left := f.lines.filter (fun l => match tileAt s (l / 512) with | some t => bit t.dirty (l % 512) | none => false)
       left.all (lineLost s) = true →
       exec (.flushComplete c) s = .next (after s (post (s.onTier (fun t => { t with flushes := t.flushes.del c })) 0x0511
         (some c) (pay [(4, f.written), (4, left.length)]))))) ∧
    (∀ l, nextZero s = some l → lineLost s l = false → hasBudget s 1 (quadrantOf s (lineComp s l) (l / 512)) 2 5 = true →
      exec .zeroTileTrayWrite s = .next (after s (trayRequest (charge s 1 (quadrantOf s (lineComp s l) (l / 512)) 2 5)
        .zero l false (BitVec.ofNat 1024 (lineNat s l)) (isPoisoned s l)))) ∧
    (∀ tile rest, s.tier.marked = tile :: rest → tileAt s tile = none →
      hasBudget s 0 (quadrantOf s (lineComp s (tile * 512)) tile) 2 512 = true →
      exec .markedTileOverwrite s = .next (after s
        ((clearTile (charge s 0 (quadrantOf s (lineComp s (tile * 512)) tile) 2 512) tile).onTier
          (fun x => { x with marked := rest })))) ∧
    (∀ l, limitWriteback s = some l → exec .prefetchFill s = .next (after s s)) ∧
    (limitWriteback s = none → windowComps s = [] →
      (∀ tile rest, s.tier.touchQ = tile :: rest → prefetchable s tile = false →
        exec .prefetchFill s = .next (after s (s.onTier (fun t => { t with touchQ := rest })))) ∧
      (∀ tile rest t, s.tier.touchQ = tile :: rest → prefetchable s tile = true →
        prefetchTile s (lineComp s (tile * 512)) tile = some t → (tileAt t tile).isSome = true →
        exec .prefetchFill s = .next (after s (t.onTier (fun x => { x with touchQ := rest }))))) ∧
    (∀ c, limitWriteback s = none → windowComps s = [c] → (prefetchComp (s, false) c).2 = true →
      exec .prefetchFill s = .next (after s (prefetchComp (s, false) c).1))

/-- Windows, recoveries and the patrol (R111, R126, R128): a repointed window whose held set is resident posts 0x0532; a
recovery with data stores the line and counts its source, one without poisons the line; the patrol reads a line of the fast
tier once in its pass, under the scrub budget. Choices of the model that it rests on: log entries 66, 109 and 114. -/
def Obligations.TierRepairsRun : Prop :=
  ∀ s : State, clocked s = true →
    (∀ c w n, s.tier.repoints.get? (c * 16 + w) = some n → toFetch s c (windowOf s c w) = 0 →
      exec (.windowRepointComplete c w) s = .next (after s (post
        (s.onTier (fun t => { t with repoints := t.repoints.del (c * 16 + w) })) 0x0532 (some c) (pay [(1, w), (4, n)])))) ∧
    (∀ line k d, s.tier.recover.get? line = some k →
      (let s0 := s.onTier (fun t => { t with recover := t.recover.del line })
       exec (.eccRecoveryComplete line true d) s = .next (after s
         ((mirrorOnly (uncorrectable (storeLine s0 line d) line k) []).onHome (fun h => { h with
           txns := h.txns.mapV (fun l t =>
             if accessLine s l t.work = line ∧ t.state = .serving then { t with tierDone := true } else t) }))) ∧
       exec (.eccRecoveryComplete line false d) s = .next (after s
         (let s1 := uncorrectable (poisonLine s0 line 0) line 2
          (mirrorOnly s1 [recLine s1 line]).onHome (fun h => { h with txns := h.txns.mapV (fun l t =>
            if accessLine s l t.work = line ∧ t.state = .serving then
              { t with tierDone := true, poisonDetail := some dUncorrectable } else t) }))))) ∧
    (∀ line errs start secs read, patrolPass s = (start, secs, read) → line < reservationBase → patrolled s line = true →
      read.contains line = false → hasBudget s 0 (patrolQuadrant s line) 2 1 = true →
      exec (.patrolScrub line errs) s = .next (after s (stackRead
        ((charge s 0 (patrolQuadrant s line) 2 1).onTier (fun t => { t with patrol := (start, secs, line :: read) })) line errs).1))

/-- Decode tables (R133, R135): a load that ends makes its slot LIVE with the next generation, posts 0x0601, and ends the
`BUSY` of the requester that loaded it; a retiring slot that no request needs any more is emptied with 0x0603. -/
def Obligations.TableEventsRun : Prop :=
  ∀ s : State, clocked s = true →
    (∀ i img, (dslot s i).loading = some img →
      exec (.tableLoadComplete i) s = .next (after s
        (let gen := if (dslot s i).gen = 0xFFFF then 1 else (dslot s i).gen + 1
         (post (setDslot s i { state := 1, gen := gen, image := img, loading := none, before := 0 }) 0x0601 none
           (pay [(1, i), (2, gen)])).onDict (fun x => { x with
             status := x.status.filter (fun p => decide (some p.1 ≠ (dslot s i).loader) || decide (p.2 ≠ 1)) })))) ∧
    (∀ i, (dslot s i).state = 2 → decodeRefs s (dslot s i).before + moverRefs s (dslot s i).before = 0 →
      exec (.tableRefsZero i) s = .next (after s
        (post (setDslot s i { dslot s i with state := 0, image := 0, before := 0 }) 0x0603 none
          (pay [(1, i), (2, (dslot s i).gen)]))))

/-! ## Periods, gates and idle parts -/

/-- Periods, gates and held messages (R263, R270, R272, R274, R276, R367): the governor notes what the period used, empties the
accounts, commits the accepted budgets, and lets what waited for a budget go on, after the steward has removed records from its
queue (how many is a free value: log entry 5); the running bank steps to its next entry; the standby bank takes over at its
time with 0x0310; the oldest held message of a port and class goes once its host's bucket is back at zero.
Choices of the model that it rests on: log entries 21, 37 and 91. -/
def Obligations.TrafficTimersRun : Prop :=
  ∀ s : State, clocked s = true →
    exec .governorPeriod s = .next (after s
      (let s1 := reachTime (notePeriod (drainSteward s)) ((periodOf s.now + 1) * 8192)
       let s2 := s1.dict.nextPeriod.foldl (fun s x => setObj s (x.1 / 2 ^ 64) (x.1 % 2 ^ 64) x.2) s1
       let s3 := (s2.onDict (fun d => { d with nextPeriod := [], posted := [] })).onTm (fun t => { t with
         used := [], droppedPrev := t.dropped, dropped := []
         stackHeld := [], stackWait := [], stackWaitPrev := (periodOf s.now, t.stackWait) })
       resumeSearches (resumeMovers (sendUnsent s3)))) ∧
    (∀ p b, (gateOf s p).running = some b →
      exec (.gateEntryChange p) s = .next (after s
        (let t := (gateOf s p).since + geInterval (gateEntryOf s p b (gateOf s p).entry)
         putGate (reachTime s t) p
           { gateOf s p with entry := ((gateOf s p).entry + 1) % gateLength s p b, since := t }))) ∧
    (∀ p t, (gateOf s p).pendingAt = some t →
      exec (.gateBankSwitch p) s = .next (after s
        (let n := (gateOf s p).nextBank
         post (putGateState (putGate (reachTime s t) p
             { running := some n, entry := 0, since := t, pendingAt := none, nextBank := n }) p 1)
           0x0310 none (pay [(1, p), (1, n), (8, t)])))) ∧
    (∀ p c x, inService s = true → s.tm.held.find? (fun x => decide (x.1 = p) && decide (x.2.1.tc = c)) = some x →
      exec (.admissionHoldRelease p c) s = .next (after s
        (let h := peerHost x.2.1.peer
         let s1 := if bucketLevel s h < 0 ∧ limitOf s h ≠ 0 then
             { s with now := s.now + ceilDiv (-(bucketLevel s h)).toNat (limitOf s h) } else s
         releaseClass goOn p c s1.tm.held.length s1)))

/-- Idle parts (R148, R167, R223, R377): an engine without a leg is gated; in TRIM an idle core stops its PLL and an idle
bank is gated. -/
def Obligations.IdlePartsAreGated : Prop :=
  ∀ s : State, inService s = true →
    (∀ g, g < 192 → s.compute.gated.contains g = false →
      exec (.engineIdle g) s = .next (after s
        ((reachTime s (s.compute.engineUse.getD g 0 + cfg s 0x273001)).onCompute (fun x => { x with gated := x.gated ++ [g] })))) ∧
    (∀ c, c < 24 → s.power.state = pwTrim → (coreOf s c).pllOff = false →
      (usedSlots s).any (fun i => bit (rsCores (slotDesc s i)) c) = false →
      exec (.corePllIdle c) s = .next (after s
        (let last := (List.range 8).foldl (fun m e => max m (s.compute.engineUse.getD (8 * c + e) 0)) 0
         setCore (reachTime s (last + 1000 * cfg s 0x2D1101)) c { coreOf s c with pllOff := true }))) ∧
    (∀ b, s.power.state = pwTrim → bankPowered s b = true → s.search.gated.contains b = false →
      exec (.bankIdleGate b) s = .next (after s
        ((reachTime s (s.search.lastUse.getD b 0 + 1000)).onSearch (fun k => { k with gated := k.gated ++ [b] }))))

/-! ## Reduce rounds, search and compositions -/

/-- Reduce rounds (R156, R158, R160): a round whose lines are all stored and mirrored advances the round number, is counted and
mirrored, gives its vector after the mirror and its counter where the descriptor says so, and stores the full lines of the
next round; one with lines left to store or to mirror goes on. A round that runs out of time counts the timeout, posts 0x0710
and stores its open lines poisoned. Choices of the model that it rests on: log entries 5 and 23. -/
def Obligations.ReduceEventsRun : Prop :=
  ∀ (s : State) (i : Nat), clocked s = true → slotState s i = 1 →
    ((List.range (rsLines (slotDesc s i))).all (fun k => (rline (rslot s i) k).stored) = true →
      (rslot s i).unmirrored = [] →
      exec (.reduceRoundComplete i) s = .next (after s
        (let v := slotDesc s i
         let v1 := setBits v 192 32 (inc32 (rsRound v))
         let x := mirror (addStat (setObj s 0x271002 i v1) 0x272002 0 1) [recObject 0x271002 i 32 v1 (rsComp v)]
         let s1 := if rsNotify v = true then triggerAfter x.1 x.2 (rsComp v) (rsVector v) else x.1
         let s2 := if rsSignal v = true then outsideSignal s1 (rsComp v) (rsSignalCore v) (rsCounter v) 1 else s1
         let r := rslot s2 i
         let s3 := setRslot s2 i { r with lines := r.lines.mapV (fun _ l => { l with stored := false }),
                                          opened := r.openedNext, openedNext := none }
         (List.range (rsLines v)).foldl (fun s k => lineMaybeDone s i k) s3))) ∧
    (((List.range (rsLines (slotDesc s i))).all (fun k => (rline (rslot s i) k).stored) = false ∨ (rslot s i).unmirrored ≠ []) →
      exec (.reduceRoundComplete i) s = .next (after s s)) ∧
    (∀ d, (rslot s i).opened = some d →
      exec (.reduceRoundTimeout i) s = .next (after s
        (let r := rslot s i
         let v := slotDesc s i
         let left := (List.range (rsLines v)).filter (fun k => !(rline r k).stored)
         let gone := (List.range (rsMembers v)).filter (fun k => left.any (fun l => !(rline r l).arrived.contains k))
         let s2 := addErr (reachTime s d) 0x272003 0 1
         let s3 := post s2 0x0710 none (pay [(1, i), (4, rsRound v), (4, gone.length), (2, slotMember s i (gone.headD 0))])
         left.foldl (fun s k => storeResult s i k (some dRoundTimeout)) (setRslot s3 i { rslot s3 i with opened := none }))))

/-- Search events (R212, R214-R217, R220, R222): an idle walk context closes; the update at the head of a queue is charged once
and reaches the entry, in the all-bank partition after an invalidate step of its own, and is counted, mirrored and answered; a
row is scanned once in a pass, under the scan's budget; a cleared partition becomes ACTIVE with 0x0901, or FREE where it is
being destroyed, and the `BUSY` of its requester ends; a reloaded one is ACTIVE.
Choices of the model that it rests on: log entries 60, 66 and 120. -/
def Obligations.SearchEventsRun : Prop :=
  ∀ s : State, clocked s = true →
    (∀ i c, s.search.ctxs.get? i = some c →
      exec (.walkIdleTimeout i) s = .next (after s
        ((reachTime s (c.used + c.limit)).onSearch (fun k => { k with ctxs := k.ctxs.del i })))) ∧
    (∀ p errs u rest m via, (partOf s p).queue = u :: rest → (partOf s p).state = 2 → u.source = .req m via →
      (let x := partOf s p
       let s1 := if u.begun = true then s else charge s 2 0 5 (updateCost x.desc u)
       (u.begun = true ∨ hasBudget s 2 0 5 (updateCost x.desc u) = true) →
       (pdAll x.desc = true → u.record.isSome = true → u.begun = false →
         exec (.searchUpdateApply p errs) s = .next (after s (putPart s1 p { x with
           queue := { u with begun := true } :: rest
           hidden := if x.hidden.contains u.idx then x.hidden else x.hidden ++ [u.idx] }))) ∧
       ((pdAll x.desc = false ∨ u.record = none ∨ u.begun = true) →
         exec (.searchUpdateApply p errs) s = .next (after s
           (let s2 := putPart s1 p { x with
              queue := rest, hidden := x.hidden.filter (fun j => decide (j ≠ u.idx))
              flipped := x.flipped.filter (fun j => decide (j ≠ u.idx))
              entries := match u.record with
                | some e => x.entries.setD u.idx 0 e
                | none => x.entries.upd u.idx (fun e => setBits e 0 1 0) }
            updateAnswer (mirrorOnly (addStat s2 0x290103 0 1) [recEntry s2 p u.idx]) u stOk 0 aeOk))))) ∧
    (∀ p errs u rest, (partOf s p).queue = u :: rest → u.begun = false →
      hasBudget s 2 0 5 (updateCost (partOf s p).desc u) = false →
      exec (.searchUpdateApply p errs) s = .next (after s s)) ∧
    (∀ p k bad, (partOf s p).state = 2 → k < pdRows (partOf s p).desc → s.search.scanned.getD p 0 / 2 ^ k % 2 = 0 →
      (let s0 := reachTime s s.search.scanFrom
       hasBudget s0 2 0 2 1 = true →
       exec (.parityScan p k bad) s = .next (after s (noteRow
         (((rowEntries (partOf s p).desc k).filter (fun i => bad.contains i || (partOf s p).flipped.contains i)).foldl
           (fun s i => parityError s p i 1) (charge s0 2 0 2 1)) p k)))) ∧
    (∀ p, (partOf s p).state = 1 →
      (let s1 := s.onDict (fun d => { d with
         status := d.status.filter (fun y => decide (some y.1 ≠ (partOf s p).waiter) || decide (y.2 ≠ psBusy)) })
       ((partOf s p).destroying = false →
         exec (.partitionCleared p) s = .next (after s
           (post (changePart s1 p (fun y => { y with state := 2, waiter := none })) 0x0901 (some (pdComp (partOf s p).desc))
             (pay [(1, p)])))) ∧
       ((partOf s p).destroying = true →
         exec (.partitionCleared p) s = .next (after s (changePart s1 p (fun _ => {})))))) ∧
    (∀ p, (partOf s p).state = 3 →
      exec (.partitionReloaded p) s = .next (after s (changePart s p (fun y => { y with state := 2 }))))

/-- Composition events (R235, R239, R250, R251): a reset whose walk, extents and partitions are done ends ACTIVE, counted,
with 0x0A03 and its vector; an unanswered vector write ends; an offer that runs out of time is SEALED again, counted, with
0x0A21. -/
def Obligations.CompositionEventsRun : Prop :=
  ∀ s : State, clocked s = true →
    (∀ c, (compOf s c).state = 2 → (compOf s c).waitWalk = false →
      (∀ i ∈ (compOf s c).waitExts, (extOf s i).state = 1) → (∀ p ∈ (compOf s c).waitParts, (partOf s p).state = 2) →
      exec (.compositionResetComplete c) s = .next (after s
        (let n := inc32 (compOf s c).resetCount
         let s1 := mirrorComp (setComp s c { compOf s c with state := 1, resetCount := n, waitExts := [], waitParts := [] }) c
         let s2 := post s1 0x0A03 (some c) (pay [(4, n)])
         triggerHosts s2 c (compOf s c).vector (liveMembers s2 c)))) ∧
    (∀ host tag v, s.comps.vecs.find? (fun v => decide (v.host = host) && decide (v.tag = tag)) = some v →
      exec (.interruptWriteTimeout host tag) s = .next (after s (vecDone (reachTime s v.deadline) host tag false))) ∧
    (∀ i t, (recOf s i).state = 3 → (recOf s i).offerEnd = some t →
      exec (.offerTimerExpiry i) s = .next (after s
        (let s1 := changeRec (reachTime s t) i (fun x => { x with state := 2, offerEnd := none })
         postBoth (addErr s1 0x2A3103 0 1) (recOf s i).comp 0x0A21
           (pay [(4, i), (4, (recOf s1 i).generation), (2, (recOf s i).producer)]))))

/-! ## Links and ports -/

/-- Laser inputs and lanes (R283, R284): light below the threshold of an input that had light takes the ports it feeds to
`DARK` with 0x0110 and is counted; light back above it posts 0x0111 and lets them train; the power of a lane is recorded, and
where it crosses the threshold of object 2151.06 the lane's presence changes, is counted, and takes its port down or lets it
train. -/
def Obligations.LightAndLanesRun : Prop :=
  ∀ (s : State) (f : Nat), f < 64 →
    (∀ power : Int, clocked s = true → power < sint (getObj s 0x216003 f) 32 → getObj s 0x216004 f = 2 →
      exec (.laserInputLow f power) s = .next (after s
        (let s1 := setObj s 0x216002 f (i32 power)
         let s3 := post (addScore (addErr (setObj s1 0x216004 f 1) 0x216005 f 1) 3 f 0 1) 0x0110 none
           (pay [(1, f), (4, i32 power)])
         (lportsOf s3 f).foldl (fun s p => if portDown s p then s else downToDark s p lcLaser) s3))) ∧
    (∀ power : Int, clocked s = true → sint (getObj s 0x216003 f) 32 + 50 ≤ power →
      getObj s 0x216004 f = 1 →
      exec (.laserInputRestored f power) s = .next (after s
        (let s2 := post (setObj (setObj s 0x216002 f (i32 power)) 0x216004 f 2) 0x0111 none (pay [(1, f), (4, i32 power)])
         (lportsOf s2 f).foldl tryDark s2))) ∧
    (∀ (lane : Nat) (power : Int), lane < 8 → s.power.state ≠ pwOff → s.power.state ≠ pwWatch →
      (let k := laneKey f lane
       let s1 := setObj s 0x215103 k (i32 power)
       let limit := sint (getObj s 0x215106 k) 32
       let changed := fun v : Nat => addScore (addErr (setObj s1 0x215105 k v) 0x215104 k 1) 0 (f * 8 + lane) 1 1
       (limit ≤ power → getObj s1 0x215105 k ≠ 1 →
         exec (.lanePresenceChange f lane power) s = .next (after s ((lportsOf (changed 1) f).foldl tryDark (changed 1)))) ∧
       (power < limit → getObj s1 0x215105 k ≠ 0 →
         exec (.lanePresenceChange f lane power) s = .next (after s ((lportsOf (changed 0) f).foldl (fun s p =>
           if !portDown s p && (portLanes s p).contains lane then downToDark s p lcPresence else s) (changed 0)))) ∧
       (limit ≤ power → getObj s1 0x215105 k = 1 → exec (.lanePresenceChange f lane power) s = .next (after s s1)) ∧
       (power < limit → getObj s1 0x215105 k = 0 → exec (.lanePresenceChange f lane power) s = .next (after s s1))))

/-- The start of a link (R285): from `TRAIN` to `ALIGN` when the receivers have adapted, to `DARK` with a count when they have
not in time; from `ALIGN` to `PARAM` with the parameter block when codewords lock, back to `TRAIN` when they do not. -/
def Obligations.LinkStartRuns : Prop :=
  ∀ (s : State) (p : Nat), clocked s = true →
    (linkState s p = lsTrain → exec (.receiversAdapted p) s = .next (after s (enterLink s p lsAlign))) ∧
    (linkState s p = lsTrain →
      exec (.trainTimeout p) s = .next (after s (goDark (addErr (reachTime s
        ((linkOf s p).since + (if (linkOf s p).calibrated then 2000000 else 20000000))) 0x215009 p 1) p))) ∧
    (linkState s p = lsAlign → ¬ (unclaimedSpare s = true ∧ portRole s p = roleTwin) →
      exec (.codewordsLocked p) s = .next (after s
        (setLink (enterLink s p lsParam) p { linkOf (enterLink s p lsParam) p with params := ownParams s p }))) ∧
    (linkState s p = lsAlign →
      exec (.alignTimeout p) s = .next (after s (enterLink (reachTime s ((linkOf s p).since + 1000000)) p lsTrain)))

/-- Parameters, keys and lock (R285, R286): a parameter block is taken in `PARAM`; without one in 1 ms the link trains
again, counted; without keys in the time of object 2130.02 a link in `SECURE` fails with `NO_KEYS`; a link in `UP` that
loses lock retrains; a retrain that ends returns to `UP`, with 0x0101, and replays; one that runs out of time goes `DARK`. -/
def Obligations.LinkKeepsRunning : Prop :=
  ∀ (s : State) (p : Nat), clocked s = true →
    (∀ block, linkState s p = lsParam → ¬ (unclaimedSpare s = true ∧ portRole s p = roleTwin) →
      exec (.parameterBlockReceived p block) s = .next (after s (paramReceived s p block))) ∧
    (linkState s p = lsParam →
      exec (.paramTimeout p) s = .next (after s
        (enterLink (addErr (reachTime s ((linkOf s p).since + 1000000)) 0x215009 p 1) p lsTrain))) ∧
    (linkState s p = lsSecure →
      exec (.secureTimeout p) s = .next (after s
        (linkFault (dropLink (reachTime s ((linkOf s p).since + 1000000 * getObj s 0x213002 p)) p) p lcNoKeys))) ∧
    (linkState s p = lsUp → exec (.codewordLockLost p) s = .next (after s (enterRetrain s p 1))) ∧
    (linkState s p = lsRetrain →
      exec (.retrainComplete p) s = .next (after s (resendAll (post (enterLink s p lsUp) 0x0101 none
        (pay [(1, p), (1, portRole s p), (2, upIdentity s p), (1, (linkOf s p).level)])) p))) ∧
    (linkState s p = lsRetrain →
      exec (.retrainTimeout p) s = .next (after s
        (downToDark (reachTime s ((linkOf s p).since + 1000 * getObj s 0x212102 p)) p lcRetrain)))

/-- A received flit (R281, R288, R289, R293, R297): its corrected symbols are counted. One with a codeword that the code could
not correct is counted and asks for a retransmission; so does one whose CRC differs, one out of its sequence, and a
sequenced one that does not open under the link's keys; object 2130.05 counts each that does not open, and an idle flit among
them has no other effect. A good flit in sequence replaces the load and the width
received last and is accepted; an idle flit does the same, is counted, and acknowledges.
Choices of the model that it rests on: log entries 36, 40 and 130. -/
def Obligations.FlitsAreReceived : Prop :=
  ∀ (s : State) (p : Nat) (f : Flit), clocked s = true → (linkState s p = lsUp ∨ linkState s p = lsSecure) →
    (let s0 := correctedSymbols s p f
     let z := Slot0.ofSlot f.slot0
     (f.uncorrectable = true → 0 < f.lostCodewords →
       exec (.flitReceived p f) s = .next (after s (flitFailed
         (addPortScore (addErr s0 0x215003 p f.lostCodewords) p 0 f.lostCodewords) p))) ∧
     (f.uncorrectable = true → f.lostCodewords = 0 →
       exec (.flitReceived p f) s = .next (after s (flitFailed s0 p))) ∧
     (f.uncorrectable = false → (f.slots.length ≠ 7 ∨ flitCrc f.slot0 f.slots ≠ z.crc) →
       exec (.flitReceived p f) s = .next (after s (flitFailed s0 p))) ∧
     (f.uncorrectable = false → f.slots.length = 7 → flitCrc f.slot0 f.slots = z.crc → z.idle = false →
       z.seq ≠ (linkOf s0 p).rxExt % 4096 →
       exec (.flitReceived p f) s = .next (after s (flitFailed (addErr s0 0x215006 p 1) p))) ∧
     (f.uncorrectable = false → f.slots.length = 7 → flitCrc f.slot0 f.slots = z.crc →
       (z.idle = true ∨ z.seq = (linkOf s0 p).rxExt % 4096) → openFlit s0 p z f = none →
       exec (.flitReceived p f) s = .next (after s
         (if z.idle = true then addErr s0 0x213005 p 1
          else flitFailed (addErr (addErr s0 0x215006 p 1) 0x213005 p 1) p))) ∧
     (∀ slots new, f.uncorrectable = false → f.slots.length = 7 → flitCrc f.slot0 f.slots = z.crc →
       openFlit s0 p z f = some (slots, new) →
       (let s1 := setLink s0 p { linkOf s0 p with rxLoad := z.load, rxWide := z.wide }
        (z.idle = false → z.seq = (linkOf s0 p).rxExt % 4096 →
          exec (.flitReceived p f) s = .next (after s (acceptSequenced receive s1 p z slots new))) ∧
        (z.idle = true →
          exec (.flitReceived p f) s = .next (after s (ackFlits (setLink s1 p { linkOf s1 p with
            idleRx := idleCounter (linkOf s1 p) z.seq + 1, rxUsed := (linkOf s1 p).rxUsed + 1 }) p z.ackSeq z.nak))))))

/-- Replay, keys and widths (R294, R298, R300, R405): the oldest unacknowledged flit that waited too long is resent with all
after it; a key used for its limit is updated; a link whose key update did not come in time goes `DARK`; a quiet link in
`TRIM` narrows, and widens again once either end asks for it or the ZX964 has left `TRIM`; a refused session starts a new attempt after its hold-off. -/
def Obligations.LinkTimersRun : Prop :=
  ∀ (s : State) (p : Nat), clocked s = true →
    (∀ f r, (linkOf s p).replay = f :: r → linkState s p = lsUp →
      exec (.replayTimeout p) s = .next (after s (resendAll (reachTime s (f.sentAt + getObj s 0x212103 p)) p))) ∧
    (encrypting s p = true → linkState s p = lsUp → (linkOf s p).rekeying = false →
      exec (.rekeyLimit p) s = .next (after s
        (let n := 2 ^ getObj s 0x213003 p
         let s1 := setLink s p { linkOf s p with rekeying := true, txUsed := max (linkOf s p).txUsed n }
         sendSpdm s1 p (Config.spdmKeyUpdate (s.security.sessions.getD p 0))))) ∧
    ((linkOf s p).rekeying = true → portDown s p = false →
      exec (.rekeyDeadline p) s = .next (after s (downToDark s p lcRekey))) ∧
    (s.power.state = pwTrim → linkState s p = lsUp → (portRole s p = roleHost ∨ portRole s p = roleTray) → pbNarrow (peerParams s p) = true →
      getObj s 0x214001 p = 1 → (s.tm.gates.getD p {}).running = none → (linkOf s p).narrow = false →
      exec (.narrowIdle p) s = .next (after s (setObj (setLink
        (reachTime s ((linkOf s p).lastMsg + 1000 * getObj s 0x214002 p)) p { linkOf s p with narrow := true }) 0x214003 p 1))) ∧
    ((linkOf s p).narrow = true → (wantsWide s p = true ∨ (linkOf s p).rxWide = true ∨ s.power.state ≠ pwTrim) →
      exec (.fullWidthRestored p) s = .next (after s (setObj
        (setLink s p { linkOf s p with narrow := false, lastMsg := s.now }) 0x214003 p
          (if portDown s p = true then 0 else portWidth s p)))) ∧
    (∀ t, s.security.holdoff.get? p = some t → linkState s p = lsSecure → requestsSession s p = true →
      exec (.sessionRetryHoldoff p) s = .next (after s
        (let s1 := (reachTime s t).onSecurity (fun x => { x with holdoff := x.holdoff.del p })
         sendSpdm (s1.onSecurity (fun x => { x with sessions := x.sessions.put p 1 })) p
           (Config.spdmStart (peerParams s1 p)))))

/-- A slot of a port (R266, R268, R287): with the replay window full the slot is padding; else the next slot of the message
being sent goes, where the flit already carries the message or is at the slot at which it continues; or a class is chosen and
its message begins; or, with none to send, padding goes. -/
def Obligations.EgressSlotsRun : Prop :=
  ∀ (s : State) (p : Nat), clocked s = true → (linkState s p = lsUp ∨ linkState s p = lsSecure) →
    (flitWindow s p ≤ (linkOf s p).replay.length →
      exec (.egressSlot p) s = .next (after s (putSlot s p (0, 0) false))) ∧
    ((linkOf s p).replay.length < flitWindow s p → (linkOf s p).rest = [] →
      (∀ c u, pickClass (countShaperWait s p) p = some (c, u) →
        exec (.egressSlot p) s = .next (after s (startMessage u p c))) ∧
      (pickClass (countShaperWait s p) p = none →
        exec (.egressSlot p) s = .next (after s (putSlot (countShaperWait s p) p (0, 0) false)))) ∧
    (∀ x r, (linkOf s p).replay.length < flitWindow s p → (linkOf s p).rest = x :: r →
      (((linkOf s p).build.any (fun y => decide (y.2 = (linkOf s p).serial)) = true ∨
          (linkOf s p).build.length = (linkOf s p).cont) →
        exec (.egressSlot p) s = .next (after s (putSlot (setLink s p { linkOf s p with rest := r }) p
          (x, (linkOf s p).serial) (decide ((linkOf s p).build.length = (linkOf s p).cont))))) ∧
      ((linkOf s p).build.any (fun y => decide (y.2 = (linkOf s p).serial)) = false →
        (linkOf s p).build.length ≠ (linkOf s p).cont →
        exec (.egressSlot p) s = .next (after s (putSlot s p (0, 0) false))))

/-! ## The twin, the spare and health -/

/-- Twin events (R317-R319, R330, R333-R335): a quarantined side's turn only counts; a turn of any other side counts turns
without a beat, looks at each neighbour, and then the side quarantines itself when all are silent, or sends its beat. The side
that catch-up copies from journals the next batch of what the copy still has to send within the catch-up budget, waits where that budget is used, and
ends the copy when nothing is left. A lost pair's silence makes it lost; a spare call without an answer disables that rank's
ports, posts 0x0B09 and calls the next, and one that was answered is over; a tag warning is repeated. -/
def Obligations.TwinTimersRun : Prop :=
  ∀ s : State, clocked s = true →
    (s.twin.pair = psQuarantined →
      exec .turn s = .next (after s (addSeq (reachTime s ((s.now / 100000 + 1) * 100000)) 0x2B1001 0 1))) ∧
    (s.twin.pair ≠ psQuarantined →
      (let s1 := addSeq (reachTime s ((s.now / 100000 + 1) * 100000)) 0x2B1001 0 1
       let s2 := s1.onTwin (fun t => { t with silentTurns := t.silentTurns + 1 })
       let s3 := (neighbours s2).foldl turnOf s2
       (silent s3 = true → exec .turn s = .next (after s (quarantineSelf s3 2))) ∧
       (silent s3 = false → exec .turn s = .next (after s (turnPair (floodTwin s3 opTwBeat (beatBody s3) [])))))) ∧
    (s.twin.pair = psSend → inService s = true →
      (let left := s.twin.copyLeft.filter (stillMirrored s)
       let x := (takeGroup 7 (left.map (refreshRec s))).1
       let s1 := s.onTwin (fun t => { t with copyLeft := left.drop x.length })
       (x = [] → exec .catchupCopy s = .next (after s (catchupDone s1))) ∧
       (x ≠ [] → copyFits s x = false → exec .catchupCopy s = .next (after s s)) ∧
       (x ≠ [] → copyFits s x = true → exec .catchupCopy s = .next (after s
         (addStat (journalBatch (chargeCopy s1 x) x) 0x2B0301 0 (x.filter (fun r => decide (r.kind = 1))).length))))) ∧
    (∀ pair t, s.twin.takeover.get? pair = some t →
      exec (.pairLostTimeout pair) s = .next (after s ((reachTime s t).onTwin (fun x => { x with
        takeover := x.takeover.del pair, lostPairs := x.lostPairs ++ [pair] })))) ∧
    (∀ r t, s.twin.call = some (r, t) →
      (s.twin.pair = psAlone → (sparePorts s r).any (linkUp s) = false →
        exec .spareCallTimeout s = .next (after s (callSpares (post
          ((sparePorts s r).foldl portDisable ((reachTime s t).onTwin (fun x => { x with call := none }))) 0x0B09 none
          (pay [(1, r)])) ((r + 1) % 4)))) ∧
      ((s.twin.pair ≠ psAlone ∨ (sparePorts s r).any (linkUp s) = true) →
        exec .spareCallTimeout s = .next (after s (s.onTwin (fun x => { x with call := none }))))) ∧
    (∀ t tags, s.twin.warnAt = some t → s.twin.twinTags = some tags →
      exec .tagWarningRepeat s = .next (after s ((tagEvent (reachTime s t) (twinIdent s) tags).onTwin
        (fun x => { x with warnAt := some (t + 3600000000000) }))))

/-- Health events (R339, R343, R347): a decay step decays every score; a drill whose time has come, and for which no class
has a target, is skipped; one whose budget of the period is used waits up to 1 ms; a path-flap drill goes back after 1 ms; an
outcome is recorded, counted and posted, to the drill's composition too where it has one, and the next drill planned.
Choices of the model that it rests on: log entry 67. -/
def Obligations.HealthEventsRun : Prop :=
  ∀ s : State, clocked s = true →
    exec .scoreDecay s = .next (after s
      (let s1 := reachTime s s.health.decayAt
       ((List.range 64).foldl decayLaser (s1.health.scores.foldl decayOne s1)).onHealth
         (fun h => { h with decayAt := h.decayAt + 1000000000 * cfg s 0x2B4005 }))) ∧
    (drillsRun s = true →
      (let s0 := reachTime s s.health.nextDrill
       let cs := [1, 2, 3, 4, 5].filter (fun c => bit (cfg s0 0x2B5003) (c - 1) && decide (0 < targetCount s0 c))
       (cs = [] → exec .drillStart s = .next (after s (skipDrill s0))) ∧
       (cs ≠ [] →
         (let cls := cs.getD ((drawDice s0).1 % cs.length) 0
          let s2 := (drawDice (drawDice s0).2).2
          let t := nthTarget s2 cls ((drawDice (drawDice s0).2).1 % targetCount s2 cls)
          let k := drillCost cls
          (hasBudget s2 k.1 0 7 k.2 = true →
            exec .drillStart s = .next (after s (drillAction (post ((charge s2 k.1 0 7 k.2).onHealth (fun h => { h with
              drill := some { seq := s2.health.drillSeq, cls := cls, comp := t.1, target := t.2.1, started := s2.now,
                              back := t.2.2 }
              drillSeq := inc32 h.drillSeq })) 0x0B50 none (pay [(1, cls), (8, t.2.1)])) cls t))) ∧
          (hasBudget s2 k.1 0 7 k.2 = false → k.2 ≤ budgetOf s0 k.1 0 7 → s0.now < s.health.nextDrill + 1000000 →
            exec .drillStart s = .next (after s s0)) ∧
          (hasBudget s2 k.1 0 7 k.2 = false → (budgetOf s0 k.1 0 7 < k.2 ∨ s.health.nextDrill + 1000000 ≤ s0.now) →
            exec .drillStart s = .next (after s (skipDrill s2))))))) ∧
    (∀ d, s.health.drill = some d → d.cls = 2 → d.phase = 0 →
      exec .drillPathFlapReturn s = .next (after s
        (pathChangeStart (drillPhase (reachTime s (d.started + 1000000)) 1) (d.back / 256) (d.back % 256) 0))) ∧
    (∀ d passed, s.health.drill = some d →
      exec (.drillOutcome passed) s = .next (after s
        (let o := outcomeOf s d passed
         let s1 := addStat (setObj (s.onHealth (fun h => { h with drill := none })) 0x2B5005 0 (drillRecord d o s.now))
           0x2B5201 0 1
         let s2 := if o = 1 then addErr s1 0x2B5202 0 1 else s1
         let p := pay [(4, d.seq), (1, d.cls), (1, o), (8, d.target)]
         planDrill (if d.cls = 1 ∨ d.cls = 4 ∨ d.cls = 5 then postBoth s2 d.comp 0x0B51 p else post s2 0x0B51 none p))))

/-! ## Power, clocks, starts, heat and the steward -/

/-- The steward and the management bus (R363, R369, R412). A missed watchdog restarts a running steward with cause 0, and has no
effect where none is armed; a fault of the steward die restarts it with cause 2. A steward that was restarting runs again, its
watchdog armed: 0x0C01 with the cause, 0x0801 for each itinerary in `CHECKING`, and the writes that waited take effect. A bus-off
is counted with 0x0C20. A random source that fails posts 0x0D36, once; one that works again draws what waited.
Choices of the model that it rests on: log entry 2. -/
def Obligations.StewardEventsRun : Prop :=
  ∀ s : State,
    (∀ t, s.dict.watchdog = some t → stewardUp s = true →
      exec .stewardWatchdogExpiry s = .next (after s (((addSeq (reachTime s t) 0x2C3004 0 1).onPower
        (fun p => { p with steward := 4, stewardCause := some 0 })).onDict (fun d => { d with watchdog := none })))) ∧
    ((s.dict.watchdog = none ∨ stewardUp s = false) → exec .stewardWatchdogExpiry s = .next (after s s)) ∧
    ((s.power.steward = 1 ∨ s.power.steward = 2) →
      exec .stewardDieFault s = .next (after s (((addSeq s 0x2C3004 0 1).onPower
        (fun p => { p with steward := 4, stewardCause := some 2 })).onDict (fun d => { d with watchdog := none })))) ∧
    (s.power.steward ≠ 1 → s.power.steward ≠ 2 → exec .stewardDieFault s = .next (after s s)) ∧
    (s.power.steward = 4 →
      exec .stewardRunning s = .next (after s (applyWaiting stewardWrite
        (let s0 := armWatchdog ((clearSteward s).onPower (fun p => { p with steward := 2, stewardCause := none }))
         let s1 := post s0 0x0C01 none (pay [(1, s.power.stewardCause.getD 0)])
         (s1.compute.itins.filter (fun x => decide (x.2.state = 2))).foldl (fun s x =>
           post s 0x0801 (some (itComp x.2.desc)) (pay [(1, x.1), (4, itCount x.2.desc)])) s1)))) ∧
    (s.power.steward ≠ 4 → exec .stewardRunning s = .next (after s s)) ∧
    (s.power.state ≠ pwOff →
      exec .canBusOff s = .next (after s (post (addErr s 0x2C1004 0 1) 0x0C20 none 0)) ∧
      (∀ test,
        (s.security.rngOk = true → exec (.randomSourceUnhealthy test) s = .next (after s
          (post (s.onSecurity (fun x => { x with rngOk := false })) 0x0D36 none (pay [(1, test)])))) ∧
        (s.security.rngOk = false → exec (.randomSourceUnhealthy test) s = .next (after s s))) ∧
      (s.security.rngOk = false →
        exec .randomSourceHealthy s = .next (after s
          (s.security.keyOps.foldl runKeyOp (s.onSecurity (fun x => { x with rngOk := true, keyOps := [] }))))) ∧
      (s.security.rngOk = true → exec .randomSourceHealthy s = .next (after s s)))

/-- The input and its loss (R372-R374, R379, R395, R396, R424). An input in range starts a device that is `OFF` cold, with cause
0, or with cause 9 after a power loss. A loss, and a low power-good after start step 1, stop admission and sending and are
counted, once; a low power-good in start step 1 is not sampled. The end of the loss's writes leaves the device `OFF` with its
journals written and the loss recorded. The loss of a power stage switches it out and is posted as 0x0D02 with the cap then in
force; with one stage left the power-loss sequence begins. Mean input power above the cap lowers the rate by one, to 0 at
least, and posts 0x0D03 at most once in 1,024 periods; power under 95 per cent of it raises the rate by one, to 16 at most;
power between the two leaves it; and a rate below 16 is counted as 100 µs of capping (R374).
Choices of the model that it rests on: log entries 2 and 85. -/
def Obligations.PowerLossEventsRun : Prop :=
  ∀ s : State,
    (s.power.losing = none →
      (s.power.state = pwOff →
        exec .inputPowerUp s = .next (after s (startCold s (if s.power.lost then 9 else 0)))) ∧
      (s.power.state ≠ pwOff → exec .inputPowerUp s = .next (after s s))) ∧
    (s.power.losing ≠ none →
      exec .inputPowerUp s = .next (after s (startCold ((powerOff (drawFree s).2).onPower (fun p => { p with
        lost := true, journalBad := true, journalOld := p.journal
        lossReport := some ((Config.freeWord (drawFree s).1).toNat % 2 ^ 32) })) 9))) ∧
    (let lost := (addSeq s 0x2D5001 0 1).onPower (fun p => { p with losing := some s.now, shake := none })
     (s.power.losing = none → s.power.state ≠ pwOff →
       exec .powerLoss s = .next (after s lost) ∧
       ((∀ st, s.power.start = some st → s.power.state = pwStarting → st.step ≠ 1) →
         exec .pgoodLow s = .next (after s lost)) ∧
       (∀ st, s.power.start = some st → s.power.state = pwStarting → st.step = 1 →
         exec .pgoodLow s = .next (after s s))) ∧
     ((s.power.losing ≠ none ∨ s.power.state = pwOff) →
       exec .powerLoss s = .next (after s s) ∧ exec .pgoodLow s = .next (after s s))) ∧
    (∀ us,
      (∀ t, s.power.losing = some t →
        exec (.powerLossWritesComplete us) s = .next (after s ((powerOff (writeJournals s)).onPower (fun p => { p with
          lost := true, lossReport := some us })))) ∧
      (s.power.losing = none → exec (.powerLossWritesComplete us) s = .next (after s s))) ∧
    (∀ stage, s.power.state ≠ pwOff → stage < 4 → bit (cfg s 0x2D0003) stage = true →
      (let s1 := setObj s 0x2D0003 0 (setBits (cfg s 0x2D0003) stage 1 0)
       let s2 := post s1 0x0D02 none (pay [(1, stage), (2, capInForce s1)])
       let left := (setBitList (cfg s2 0x2D0003) 4).length
       (2 ≤ left → exec (.powerStageFailure stage) s = .next (after s s2)) ∧
       (left ≤ 1 → exec (.powerStageFailure stage) s = .next (after s (beginLoss s2))))) ∧
    (∀ watts, inService s = true →
      (let s1 := setObj s 0x2D0002 0 watts
       let rated := fun r : Nat =>
         let s2 := s1.onPower (fun p => { p with rate := r })
         if r < 16 then addStat s2 0x2D0102 0 100 else s2
       let r := s1.power.rate
       let quietNow := ∃ p, s1.power.cappedAt = some p ∧ periodOf s.now < p + 1024
       (capInForce s1 < watts →
         (¬ quietNow → exec (.powerCapStep watts) s = .next (after s (post ((rated (r - 1)).onPower (fun p => { p with
           cappedAt := some (periodOf s.now) })) 0x0D03 none (pay [(2, capInForce s1), (1, r - 1)])))) ∧
         (quietNow → exec (.powerCapStep watts) s = .next (after s (rated (r - 1))))) ∧
       (100 * watts < 95 * capInForce s1 →
         exec (.powerCapStep watts) s = .next (after s (rated (min 16 (r + 1))))) ∧
       (watts ≤ capInForce s1 → 95 * capInForce s1 ≤ 100 * watts →
         exec (.powerCapStep watts) s = .next (after s (rated r)))))

/-- Clock references and resets from outside (R378, R379, R384, R385, R423, R428): a device that loses its 100 MHz reference halts, and starts cold with cause 8 when it returns;
without the 156.25 MHz reference every link goes down, and they train again when it returns. The crystal's state is kept.
The reset contact starts the device cold with cause 1 and is held; a brown-out of the island with cause 7, its memory invalid;
a wake period in `WATCH` samples its ports and the die's temperature: a port present anew wakes the device, a temperature that
rises above its limit does, each where object 2D20.02 lets it, and otherwise it stays in `WATCH`.
Choices of the model that it rests on: log entry 69. -/
def Obligations.ReferencesAndResetsRun : Prop :=
  ∀ s : State,
    (s.power.losing = none → s.power.state ≠ pwOff → s.power.state ≠ pwWatch →
      exec .referenceLoss s = .next (after s (s.onPower (fun p => { p with halted := true, shake := none })))) ∧
    (s.power.losing = none → s.power.halted = true → exec .referenceReturn s = .next (after s (startCold s 8))) ∧
    exec .reference156Loss s = .next (after s
      (((listed s 0x212007).map Prod.fst).foldl lose156 (s.onPower (fun p => { p with ref156 := false })))) ∧
    exec .reference156Return s = .next (after s (wakeDark (s.onPower (fun p => { p with ref156 := true })))) ∧
    (∀ oscillating, exec (.crystalChange oscillating) s = .next (after s
      (s.onPower (fun p => { p with crystal := oscillating })))) ∧
    (s.power.losing = none → s.power.state ≠ pwOff →
      exec .resetContact s = .next (after s ((startCold s 1).onPower (fun p => { p with resetLow := true }))) ∧
      exec .islandBrownOut s = .next (after s (startCold ((setObj s 0x2D3003 0 0).onPower (fun p => { p with
        brownOut := true, saveValid := 0, failWarm := 0, failCold := 0, failures := [] })) 7))) ∧
    (∀ (readings : List (Nat × Int)) (temp : Int), s.power.state = pwWatch →
      (let sampled := setBitList (cfg s 0x2D2004) 256
       let seen := sampled.filter (fun p => (portLanes s p).all (fun l =>
         (readings.find? (fun r => decide (r.1 = laneKey (physOf p) l))).any (fun r => powerPresent s (physOf p) l r.2)))
       let here := seen.filter (fun p => s.power.watchSeen.contains p)
       let hot := decide (sint (cfg s 0x2D2005) 32 < temp)
       let s0 := (readings.filter (fun r => sampled.any (fun p => (portLanes s p).any (fun l =>
         decide (laneKey (physOf p) l = r.1))))).foldl (fun s r => setObj s 0x215103 r.1 (i32 r.2)) s
       let s1 := sampled.foldl (fun s p => (portLanes s p).foldl (fun s l => putPresence s (physOf p) l (here.contains p)) s)
         ((setObj s0 0x2D0004 0 (i32 temp)).onPower (fun p => { p with watchSeen := seen, watchPresent := here, watchHot := hot }))
       (here.filter (fun p => !s.power.watchPresent.contains p) = [] → (hot = false ∨ s.power.watchHot = true) →
         exec (.watchWakePeriod readings temp) s = .next (after s s1)) ∧
       (∀ p rest, here.filter (fun p => !s.power.watchPresent.contains p) = p :: rest → bit (cfg s1 0x2D2002) 0 = true →
         exec (.watchWakePeriod readings temp) s = .next (after s (wakeUp s1 0 p))) ∧
       (here.filter (fun p => !s.power.watchPresent.contains p) = [] → hot = true → s.power.watchHot = false →
         bit (cfg s1 0x2D2002) 1 = true →
         exec (.watchWakePeriod readings temp) s = .next (after s (wakeUp s1 1 0)))))

/-- The end of a handshake for a power state or a reset (R380): with every block's consent the change is made; a block that
refuses abandons it; one that still delays at the deadline abandons it. -/
def Obligations.HandshakesEnd : Prop :=
  ∀ (s : State) (h : Shake), s.power.shake = some h →
    (shakeRefusal s h.asks = none → shakeDelay s = none →
      exec .handshakeAccepted s = .next (after s (completeShake s h))) ∧
    (∀ b c, shakeRefusal s h.asks = some (b, c) →
      exec .handshakeRefused s = .next (after s (abandonShake s h b c 0))) ∧
    (∀ b, shakeRefusal s h.asks = none → shakeDelay s = some b →
      exec .handshakeTimeout s = .next (after s (abandonShake (reachTime s h.deadline) h b 0 1)))

/-- The steps of a start (R387, R390, R408, R414): each of the eight steps that is done makes the next one present, and the last
one reaches `FULL`; one that fails, by its own checks in steps 2 and 7 or by report, starts again or stops as R390 says; and
once an hour the score journal is written (R393). Choices of the model that it rests on: log entries 88, 93, 122 and 128. -/
def Obligations.StartStepsRun : Prop :=
  ∀ s : State,
    (∀ st info, s.power.start = some st → s.power.losing = none → s.power.halted = false →
      (st.step = 1 → exec (.startStepComplete info) s = .next (after s
        (putStart ((stepOne s st info).1.onPower (fun p => { p with steward := 1 })) (stepOne s st info).2))) ∧
      (st.step = 2 →
        (∀ t, stepTwo s st.kind = .inl t →
          exec (.startStepComplete info) s = .next (after s (putStart t { st with step := 3 }))) ∧
        (∀ d, stepTwo s st.kind = .inr d → exec (.startStepComplete info) s = .next (after s (failStart s st d)))) ∧
      (st.step = 3 → exec (.startStepComplete info) s = .next (after s
        (putStart (applyWaiting (fun u a => (imageWrite u a).2) (stewardRuns s)) { st with step := 4 }))) ∧
      (st.step = 4 → exec (.startStepComplete info) s = .next (after s (putStart s { st with step := 5 }))) ∧
      (st.step = 5 → exec (.startStepComplete info) s = .next (after s (putStart (stepFive s st.kind info) { st with step := 6 }))) ∧
      (st.step = 6 → exec (.startStepComplete info) s = .next (after s
        (putStart (if st.kind = 1 then s else stepSix s) { st with step := 7 }))) ∧
      (st.step = 7 →
        (st.kind = 1 → exec (.startStepComplete info) s = .next (after s (putStart s { st with step := 8 }))) ∧
        (∀ t, st.kind ≠ 1 → stepSeven imageWrite s = .inl t →
          exec (.startStepComplete info) s = .next (after s (putStart t { st with step := 8 }))) ∧
        (∀ d, st.kind ≠ 1 → stepSeven imageWrite s = .inr d →
          exec (.startStepComplete info) s = .next (after s (failStart s st d)))) ∧
      (st.step = 8 → exec (.startStepComplete info) s = .next (after s (reachFull s st info.durationMs))) ∧
      (∀ detail, 1 ≤ detail → detail ≤ 6 →
        exec (.startStepFailed detail) s = .next (after s (failStart s st detail)))) ∧
    (clocked s = true →
      exec .scoreJournalPeriod s = .next (after s ((reachTime s s.power.journalAt).onPower (fun p => { p with
        journalOld := p.journal, journal := s.health.scores, journalAt := p.journalAt + 3600000000000 }))))

/-- Heat (R435, R436): a sensor at its throttle temperature throttles the package with 0x0D40; the throttling ends once every
sensor is cool; one at its trip temperature is recorded and begins the power-loss sequence. -/
def Obligations.HeatEventsRun : Prop :=
  ∀ (s : State) (cls item : Nat) (t : Int),
    (cls < 3 → throttleAt cls ≤ t → s.power.state ≠ pwOff → s.power.state ≠ pwWatch →
      exec (.thermalThrottle cls item t) s = .next (after s
        (let s1 := sensorObj s cls item t
         let s2 := (setObj s1 0x2D0006 0 (setBits (cfg s1 0x2D0006) 0 1 1)).onPower (fun p => { p with
           throttle := if p.throttle.contains (cls, item) then p.throttle else p.throttle ++ [(cls, item)] })
         post s2 0x0D40 none (pay [(1, cls), (1, item), (4, i32 t), (2, capInForce s2)])))) ∧
    exec .thermalThrottleEnd s = .next (after s
      ((setObj s 0x2D0006 0 (setBits (cfg s 0x2D0006) 0 1 0)).onPower (fun p => { p with throttle := [] }))) ∧
    (cls < 3 → tripAt cls ≤ t → s.power.state ≠ pwOff → s.power.state ≠ pwWatch → s.power.losing = none →
      exec (.thermalTrip cls item t) s = .next (after s
        (let s1 := sensorObj s cls item t
         beginLoss ((setObj s1 0x2D0006 0 (setBits (cfg s1 0x2D0006) 1 1 1)).onPower
           (fun p => { p with tripped := some (cls, item, t) })))))

/-- The test access port (R429): each of its four commands selects its data register; only `EXTEST`, and only while `RESET_N`
is asserted, drives the contacts. -/
def Obligations.TestAccessRuns : Prop :=
  ∀ s : State, s.power.state ≠ pwOff →
    exec .jtagBypass s = .next (after s (onJtag s (fun j => { j with ir := 0, dr := 0, driven := none }))) ∧
    exec .jtagIdcode s = .next (after s (onJtag s (fun j => { j with ir := 1, dr := idcode, driven := none }))) ∧
    (∀ pins, exec (.jtagSamplePreload pins) s = .next (after s
      (onJtag s (fun j => { j with ir := 2, dr := pins, boundary := pins, driven := none })))) ∧
    (s.power.resetLow = true → exec .jtagExtest s = .next (after s
      (onJtag s (fun j => { j with ir := 3, dr := j.boundary, driven := some j.boundary })))) ∧
    (s.power.resetLow = false → exec .jtagExtest s = .next (after s
      (onJtag s (fun j => { j with ir := 3, dr := 0, driven := none }))))

/-! ## Writes of objects -/

/-- A write of any object (R306, R351, R352, R353, R356): one with an access error is answered with the error and changes
nothing else; one that its chapter accepts is answered `OK` with its effect; one that changes mirrored state while the pair
holds responses is sent to the twin first, and waits; one behind a waiting write of its requester waits behind it.
Choices of the model that it rests on: log entries 18, 72 and 79. -/
def Obligations.ObjectWritesRun : Prop :=
  ∀ (s : State) (a : Access), Reaches s a.who (objNo a.idx a.sub) → objNo a.idx a.sub ≠ 0x291102 →
    (let d : Deferred := { access := a }
     (∀ e, waitsBehind s a.who = none → writeCheck s a (pieceLimit a.who) = (e, none) → e ≠ aeOk →
       exec (.objectWrite a) s = .next (after s (accessAnswer s d e))) ∧
     (∀ r e, waitsBehind s a.who = none → writeCheck s a (pieceLimit a.who) = (aeOk, some r) →
       (writeObject ap s a r (a.value % 2 ^ (8 * a.len))).1 = e → e ≠ aeOk →
       exec (.objectWrite a) s = .next (after s (accessAnswer s d e))) ∧
     (∀ r t, waitsBehind s a.who = none → writeCheck s a (pieceLimit a.who) = (aeOk, some r) →
       writeObject ap s a r (a.value % 2 ^ (8 * a.len)) = (aeOk, t) → (holdsNow s = false ∨ newRecords s t = []) →
       exec (.objectWrite a) s = .next (after s (accessAnswer t d aeOk))) ∧
     (∀ r t, waitsBehind s a.who = none → writeCheck s a (pieceLimit a.who) = (aeOk, some r) →
       writeObject ap s a r (a.value % 2 ^ (8 * a.len)) = (aeOk, t) → holdsNow s = true → newRecords s t ≠ [] →
       exec (.objectWrite a) s = .next (after s
         (holdItem (mirror s (newRecords s t)).1 (mirror s (newRecords s t)).2 (.obj { d with sent := some (newRecords s t) })))) ∧
     (∀ b, waitsBehind s a.who = some b →
       exec (.objectWrite a) s = .next (after s (holdItem s b (.obj { d with sent := none })))))

/-- Extent, host and sharer commands (R21, R79, R83, R329): each changes the selected extent or host as its rule says, and
says so in its status object. -/
def Obligations.ExtentAndHostCommandsRun : Prop :=
  ∀ (s : State) (w : Requester),
    (Writable s w 0x211003 1 1 → bindCheck s (selVal s w 0x211001) (stagedOf s w 0x211002) = xsDone →
      exec (.bind w) s = .next (after s (reply (setStatus
        (setStaged (bindExt s (selVal s w 0x211001) (stagedOf s w 0x211002)) w 0x211002 0) w 0x211004 xsDone)
        w 0x211003 aeOk))) ∧
    (Writable s w 0x211003 1 2 → revokeRefused s (selVal s w 0x211001) = false →
      exec (.revoke w) s = .next (after s (reply (setStatus (revokeExt s (selVal s w 0x211001)) w 0x211004 xsDone)
        w 0x211003 aeOk))) ∧
    (Writable s w 0x211003 1 3 → (extOf s (selVal s w 0x211001)).state = 3 →
      exec (.restore w) s = .next (after s (reply (setStatus (restoreExt s (selVal s w 0x211001)) w 0x211004 xsDone)
        w 0x211003 aeOk))) ∧
    (Writable s w 0x211003 1 4 → (extOf s (selVal s w 0x211001)).state = 3 →
      exec (.extentRelease w) s = .next (after s (reply (setStatus (releaseExt s (selVal s w 0x211001)) w 0x211004 xsDone)
        w 0x211003 aeOk))) ∧
    (Writable s w 0x242003 1 1 → isLost s (selVal s w 0x242002) = false → attached s (selVal s w 0x242002) = true →
      exec (.hostDeclareLost w) s = .next (after s (reply
        (sendNotices (loseHost s (selVal s w 0x242002) 1) (selVal s w 0x242002)) w 0x242003 aeOk))) ∧
    (Writable s w 0x242003 1 2 → isLost s (selVal s w 0x242002) = true →
      exec (.readmit w) s = .next (after s (reply (refreshDown (readmitHost s (selVal s w 0x242002))) w 0x242003 aeOk))) ∧
    (∀ peer c, w = .inband peer c → Writable s w 0x2B3003 1 1 →
      exec (.sharersDropped w) s = .next (after s (reply (s.onHome (fun h => { h with
        unconfirmed := h.unconfirmed.filter (fun x => decide (x ≠ (c, peerHost peer))) })) w 0x2B3003 aeOk)))

/-- Tray, flush, quota, window, region and table commands (R92, R98, R100, R105, R107, R110, R113, R119, R134, R135).
Choices of the model that it rests on: log entry 19. -/
def Obligations.TierCommandsRun : Prop :=
  ∀ (s : State) (w : Requester),
    (Writable s w 0x252010 1 1 → memberState s (selVal s w 0x252001) (selVal s w 0x252003) = 1 →
      exec (.memberDeclareLost w) s = .next (after s (reply (declareLost s
        (memberPort (stripeMember s (selVal s w 0x252001) (selVal s w 0x252003))) 2) w 0x252010 aeOk))) ∧
    (Writable s w 0x252010 1 2 → memberState s (selVal s w 0x252001) (selVal s w 0x252003) = 2 →
      exec (.replace w) s = .next (after s (reply
        (let set := selVal s w 0x252001
         let j := selVal s w 0x252003
         watchTray ((markMember 3 s (set, j)).onTier (fun t => { t with refills := t.refills.del (set + j * 2 ^ 8) }))
           (memberPort (stripeMember s set j))) w 0x252010 aeOk))) ∧
    (Writable s w 0x251008 1 1 → s.tier.flushes.has (selVal s w 0x251001) = false →
      exec (.flush w) s = .next (after s (reply
        (s.onTier (fun t => { t with flushes := t.flushes.put (selVal s w 0x251001) {
           lines := poolLines s (selVal s w 0x251001) Tile.dirty
           stale := poolLines s (selVal s w 0x251001) (fun x => x.writing &&& x.rewritten)
           written := 0, held := 0 } })) w 0x251008 aeOk))) ∧
    (Writable s w 0x251008 1 1 → s.tier.flushes.has (selVal s w 0x251001) = true →
      exec (.flush w) s = .next (after s (reply s w 0x251008 aeOk))) ∧
    (∀ tiles, tiles < 2 ^ 32 → Writable s w 0x251002 4 tiles → residentTiles s (selVal s w 0x251001) ≤ tiles →
      quotaSum s - quotaOf s (selVal s w 0x251001) + tiles + fastTiles s ≤ tierSlots →
      exec (.cacheQuotaWrite w tiles) s = .next (after s (reply
        (mirrorObject (setObj s 0x251002 (selVal s w 0x251001) tiles) 0x251002 (selVal s w 0x251001) 4
          (selVal s w 0x251001)) w 0x251002 aeOk))) ∧
    (∀ v, v < 2 ^ 128 → Writable s w 0x254003 16 v → windowReserved v = false → winEnable v = false →
      exec (.windowDescriptorWrite w v) s = .next (after s (reply (setStatus
        (putWindow s (selVal s w 0x254001) (selVal s w 0x254002)
          (setBits v 64 32 (winAdvances (windowOf s (selVal s w 0x254001) (selVal s w 0x254002)))))
        w 0x254007 0) w 0x254003 aeOk))) ∧
    (∀ v, v < 2 ^ 16 → Writable s w 0x254004 2 v →
      v < winLayers (windowOf s (selVal s w 0x254001) (selVal s w 0x254002)) →
      exec (.windowCursorWrite w v) s = .next (after s (reply
        (let old := windowOf s (selVal s w 0x254001) (selVal s w 0x254002)
         putWindow s (selVal s w 0x254001) (selVal s w 0x254002) (setBits (setBits old 12 12 v) 64 32 (winAdvances old + 1)))
        w 0x254004 aeOk))) ∧
    (Writable s w 0x256003 1 1 → (w.isInband = false ∨ regComp (stagedOf s w 0x256002) = w.comp) →
      regValid (regionOf s (selVal s w 0x256001)) = false →
      regionOk s (selVal s w 0x256001) (stagedOf s w 0x256002) = true →
      exec (.regionCreate w) s = .next (after s (reply (setStatus (setStaged
        (putRegion s (selVal s w 0x256001) (setBits (stagedOf s w 0x256002) 71 1 1)) w 0x256002 0) w 0x256004 0)
        w 0x256003 aeOk))) ∧
    (Writable s w 0x256003 1 2 → (w.isInband = false ∨ regValid (regionOf s (selVal s w 0x256001)) = false ∨
        regComp (regionOf s (selVal s w 0x256001)) = w.comp) →
      exec (.regionDestroy w) s = .next (after s (reply (setStatus (destroyRegion s (selVal s w 0x256001)) w 0x256004 0)
        w 0x256003 aeOk))) ∧
    (Writable s w 0x260003 1 1 → (dslot s (selVal s w 0x260001)).state = 0 → (dslot s (selVal s w 0x260001)).loading = none →
      tableOk (stagedOf s w 0x260002) = true →
      exec (.tableLoad w) s = .next (after s (reply (setStatus (setStaged (setDslot
        (s.onCodec (fun c => { c with slots := c.slots.mapV (fun _ x =>
          if x.loader = some (whoKey w 0x260004) then { x with loader := none } else x) })) (selVal s w 0x260001)
        { dslot s (selVal s w 0x260001) with
          loading := some (stagedOf s w 0x260002), loader := some (whoKey w 0x260004) }) w 0x260002 0) w 0x260004 1)
        w 0x260003 aeOk))) ∧
    (Writable s w 0x260003 1 2 → (dslot s (selVal s w 0x260001)).state = 1 →
      exec (.tableRetire w) s = .next (after s (reply (setStatus
        (let i := selVal s w 0x260001
         let n := decodeRefs s s.home.admits + moverRefs s s.home.admits
         let s1 := (post s 0x0602 none (pay [(1, i), (2, (dslot s i).gen), (4, n)])).onHome
           (fun h => { h with admits := h.admits + 1 })
         if n = 0 then tableEmpty s1 i else setDslot s1 i { dslot s i with state := 2, before := s.home.admits })
        w 0x260004 0) w 0x260003 aeOk)))

/-- Reduce slots, itineraries and cores (R155, R156, R189-R191, R200, R238): each command makes the change of state that its
rule gives the state it finds. Choices of the model that it rests on: log entry 118. -/
def Obligations.ComputeCommandsRun : Prop :=
  ∀ (s : State) (w : Requester),
    (Writable s w 0x271005 1 1 → w.isInband = false → slotState s (selVal s w 0x271001) = 0 →
      armOk s (selVal s w 0x271001) = true →
      (setBitList (rsCores (slotDesc s (selVal s w 0x271001))) 24).any
        (fun c => decide (8192 * cfg s 0x271009 < coreReserve s c (slotDesc s (selVal s w 0x271001)))) = false →
      exec (.arm w) s = .next (after s (reply (setStatus
        (let i := selVal s w 0x271001
         let s0 := (setBitList (rsCores (slotDesc s i)) 24).foldl (fun s c => setCore s c { coreOf s c with pllOff := false }) s
         post (setSlotState (setSlotDesc (setRslot s0 i {}) i (setBits (slotDesc s i) 192 32 0)) i 1) 0x0701
           (some (rsComp (slotDesc s i))) (pay [(1, i)])) w 0x271006 0) w 0x271005 aeOk))) ∧
    (Writable s w 0x271005 1 2 → (w.isInband = false ∨ rsComp (slotDesc s (selVal s w 0x271001)) = w.comp) →
      slotState s (selVal s w 0x271001) = 2 →
      exec (.rearm w) s = .next (after s (reply (setStatus (setSlotState
        (setRslot s (selVal s w 0x271001) {}) (selVal s w 0x271001) 1) w 0x271006 0) w 0x271005 aeOk))) ∧
    (Writable s w 0x271005 1 3 → (w.isInband = false ∨ rsComp (slotDesc s (selVal s w 0x271001)) = w.comp) →
      slotState s (selVal s w 0x271001) ≠ 0 →
      exec (.disarm w) s = .next (after s (reply (setStatus (freeSlot s (selVal s w 0x271001)) w 0x271006 0) w 0x271005 aeOk))) ∧
    (∀ b, Writable s w 0x281005 1 1 → (itinOf s (selVal s w 0x281001)).state = 0 →
      itinRights s w (itComp (stagedOf s w 0x281002)) = true → itReserved (stagedOf s w 0x281002) = false →
      0 < itCount (stagedOf s w 0x281002) → itCount (stagedOf s w 0x281002) ≤ 8192 →
      (compOf s (itComp (stagedOf s w 0x281002))).state ≠ 0 → freeRange s (itCount (stagedOf s w 0x281002)) = some b →
      exec (.alloc w) s = .next (after s (reply (setStatus (setStaged (setItin s (selVal s w 0x281001)
        { state := 1, desc := setBits (stagedOf s w 0x281002) 8 16 b }) w 0x281002 0) w 0x281006 isDone) w 0x281005 aeOk))) ∧
    (∀ it, itinOf s (selVal s w 0x281001) = it → itinRights s w (itComp it.desc) = true →
      (Writable s w 0x281005 1 2 → it.state = 1 →
        exec (.close w) s = .next (after s (reply (setStatus (post (setItin s (selVal s w 0x281001) { it with state := 2 })
          0x0801 (some (itComp it.desc)) (pay [(1, selVal s w 0x281001), (4, itCount it.desc)])) w 0x281006 isDone)
          w 0x281005 aeOk))) ∧
      (w = .steward → Writable s w 0x281005 1 3 → it.state = 2 →
        (stewardCheck s (selVal s w 0x281001) = none →
          exec (.accept w) s = .next (after s (reply (setStatus (postBoth (setItin s (selVal s w 0x281001) { it with state := 3 })
            (itComp it.desc) 0x0802 (pay [(1, selVal s w 0x281001)])) w 0x281006 isDone) w 0x281005 aeOk))) ∧
        (∀ leg reason, stewardCheck s (selVal s w 0x281001) = some (leg, reason) →
          exec (.accept w) s = .next (after s (reply (setStatus
            (let s1 := setObj s 0x281008 (selVal s w 0x281001) (leg + 2 ^ 16 * reason)
             let r := getObj s1 0x281008 (selVal s w 0x281001)
             post (setItin s1 (selVal s w 0x281001) { it with state := 1 }) 0x0803 none
               (pay [(1, selVal s w 0x281001), (2, bits r 0 13), (1, bits r 16 8)])) w 0x281006 isDone) w 0x281005 aeOk)))) ∧
      (w = .steward → Writable s w 0x281005 1 4 → it.state = 2 →
        exec (.reject w) s = .next (after s (reply (setStatus
          (let r := getObj s 0x281008 (selVal s w 0x281001)
           post (setItin s (selVal s w 0x281001) { it with state := 1 }) 0x0803 none
             (pay [(1, selVal s w 0x281001), (2, bits r 0 13), (1, bits r 16 8)])) w 0x281006 isDone) w 0x281005 aeOk))) ∧
      (Writable s w 0x281005 1 5 → it.state = 3 →
        exec (.itineraryRetire w) s = .next (after s (reply (setStatus
          (retireCheck (setItin s (selVal s w 0x281001) { it with state := 4 }) (selVal s w 0x281001)) w 0x281006 isDone)
          w 0x281005 aeOk))) ∧
      (Writable s w 0x281005 1 6 → (it.state = 1 ∨ it.state = 2) →
        exec (.itineraryFree w) s = .next (after s (reply (setStatus (releaseItin s (selVal s w 0x281001)) w 0x281006 isDone)
          w 0x281005 aeOk)))) ∧
    (Writable s w 0x2A4002 1 1 → (w.isInband = false ∨ bit (getObj s 0x2A1305 w.comp) (selVal s w 0x2A4001) = true) →
      exec (.coreReset w) s = .next (after s (reply (resetCore s (selVal s w 0x2A4001)) w 0x2A4002 aeOk)))

/-- Search entries and partitions, compositions, members and records (R218, R222, R227, R228, R230, R231, R250).
Choices of the model that it rests on: log entry 83. -/
def Obligations.SearchAndCompositionCommandsRun : Prop :=
  ∀ (s : State) (w : Requester),
    (∀ v s1, v < 2 ^ 768 → Writable s w 0x291102 96 v →
      entryWrite s { access := wholeWrite w 0x291102 96 v } v = (none, s1) →
      exec (.entryRecordWrite w v) s = .next (after s s1)) ∧
    (Writable s w 0x291003 1 1 → (partOf s (selVal s w 0x291001)).state = 0 → pdOk (stagedOf s w 0x291002) = true →
      s.search.parts.any (fun x => decide (x.2.state ≠ 0) && pdOverlaps x.2.desc (stagedOf s w 0x291002)) = false →
      exec (.partitionCreate w) s = .next (after s (reply (setStatus (changePart (setStaged (freeWaiter s w) w 0x291002 0)
        (selVal s w 0x291001) (fun _ => { state := 1, desc := stagedOf s w 0x291002, waiter := some (whoKey w 0x291004) }))
        w 0x291004 psBusy) w 0x291003 aeOk))) ∧
    (Writable s w 0x291003 1 2 → (partOf s (selVal s w 0x291001)).state = 2 →
      exec (.partitionDestroy w) s = .next (after s (reply (setStatus
        (let p := selVal s w 0x291001
         let x := partOf s p
         let s1 := x.queue.foldl (fun s u => updateAnswer s u stDenied dNoPartition aeState) s
         let s2 := clearPart (freeWaiter s1 w) p true
         post (putPart s2 p { partOf s2 p with waiter := some (whoKey w 0x291004) }) 0x0902
           (some (pdComp x.desc)) (pay [(1, p)])) w 0x291004 psBusy) w 0x291003 aeOk))) ∧
    (Writable s w 0x2A1003 1 1 → w.isInband = false → s.security.rngOk = true →
      createCheck s (selVal s w 0x2A1001) (stagedOf s w 0x2A1002) = csDone →
      exec (.compositionCreate w) s = .next (after s (reply (setStatus (setStaged
        (createComp s (selVal s w 0x2A1001) (stagedOf s w 0x2A1002)) w 0x2A1002 0) w 0x2A1004 csDone) w 0x2A1003 aeOk))) ∧
    (Writable s w 0x2A1003 1 2 → s.security.rngOk = true →
      ((compOf s (selVal s w 0x2A1001)).state = 1 ∨ (compOf s (selVal s w 0x2A1001)).state = 3) →
      exec (.compositionReset w) s = .next (after s (reply (setStatus (resetComp s (selVal s w 0x2A1001)) w 0x2A1004 csDone)
        w 0x2A1003 aeOk))) ∧
    (Writable s w 0x2A1003 1 3 → w.isInband = false → compEmpty s (selVal s w 0x2A1001) = true →
      ((compOf s (selVal s w 0x2A1001)).state = 1 ∨ (compOf s (selVal s w 0x2A1001)).state = 3) →
      exec (.compositionDestroy w) s = .next (after s (reply (setStatus (destroyComp s (selVal s w 0x2A1001)) w 0x2A1004 csDone)
        w 0x2A1003 aeOk))) ∧
    (∀ offset len v, Reaches s w 0x2A1002 → waitsBehind s w = none → holdsNow s = false →
      (writeCheck s { who := w, idx := 0x2A10, sub := 2, offset := offset, len := len, value := v } (pieceLimit w)).1 = aeOk →
      (compOf s (selVal s w 0x2A1001)).state = 0 →
      compReserved (setBits (stagedOf s w 0x2A1002) (8 * offset) (8 * len) (v % 2 ^ (8 * len))) = false →
      exec (.compositionDescriptorWrite w offset len v) s = .next (after s (reply (setStaged s w 0x2A1002
        (setBits (stagedOf s w 0x2A1002) (8 * offset) (8 * len) (v % 2 ^ (8 * len)))) w 0x2A1002 aeOk))) ∧
    (Writable s w 0x2A1103 1 1 → (compOf s (selVal s w 0x2A1001)).state ≠ 0 →
      (compOf s (selVal s w 0x2A1001)).members.has (selVal s w 0x2A1101) = false →
      exec (.join w) s = .next (after s (reply
        (let c := selVal s w 0x2A1001
         let h := selVal s w 0x2A1101
         let k := compOf s c
         mirrorMember (post (setComp s c { k with
           members := k.members.put h 1, departed := k.departed.filter (fun x => decide (x ≠ h)) }) 0x0A05 (some c)
           (pay [(2, h), (2, k.pools.getD h 0)])) c h) w 0x2A1103 aeOk))) ∧
    (Writable s w 0x2A1103 1 2 → (compOf s (selVal s w 0x2A1001)).state ≠ 0 →
      (compOf s (selVal s w 0x2A1001)).owner ≠ selVal s w 0x2A1101 →
      (compOf s (selVal s w 0x2A1001)).members.has (selVal s w 0x2A1101) = true →
      exec (.leave w) s = .next (after s (reply (leaveHost hostGone s (selVal s w 0x2A1001) (selVal s w 0x2A1101))
        w 0x2A1103 aeOk))) ∧
    (Writable s w 0x2A3003 1 1 → (recOf s (selVal s w 0x2A3001)).state ≠ 0 →
      exec (.forceFree w) s = .next (after s (reply (changeRec s (selVal s w 0x2A3001) Rec.freed) w 0x2A3003 aeOk)))

/-- Gate switch times, ports and their roles (R272, R280, R285, R415). Choices of the model that it rests on: log entry 42. -/
def Obligations.TrafficAndPortCommandsRun : Prop :=
  ∀ (s : State) (w : Requester),
    (∀ t, t < 2 ^ 64 → Writable s w 0x235006 8 t → s.now + 1000 ≤ t →
      (gateOf s (selVal s w 0x235001)).pendingAt = none →
      (List.range (gateLength s (selVal s w 0x235001) (standbyBank s w (selVal s w 0x235001)))).any (fun i =>
        decide (geInterval (gateEntryOf s (selVal s w 0x235001) (standbyBank s w (selVal s w 0x235001)) i) = 0)) = false →
      exec (.gateSwitchTimeWrite w t) s = .next (after s (reply
        (let p := selVal s w 0x235001
         putGateState (putGate (setObj s 0x235006 p t) p
           { gateOf s p with pendingAt := some t, nextBank := standbyBank s w p }) p 2) w 0x235006 aeOk))) ∧
    (Writable s w 0x212005 1 1 → portExists s (selPort s w) = true →
      exec (.portEnable w) s = .next (after s (reply (portEnable s (selPort s w)) w 0x212005 aeOk))) ∧
    (Writable s w 0x212005 1 0 → portExists s (selPort s w) = true →
      exec (.portDisable w) s = .next (after s (reply (portDisable s (selPort s w)) w 0x212005 aeOk))) ∧
    (Writable s w 0x212006 1 1 → linkState s (selPort s w) = lsFault →
      exec (.portReset w) s = .next (after s (reply (setStatus (goDark s (selPort s w)) w 0x212009 0) w 0x212006 aeOk))) ∧
    (Writable s w 0x212006 1 1 → linkState s (selPort s w) = lsUp →
      exec (.portReset w) s = .next (after s (reply (setStatus (downToDark s (selPort s w) lcCommand) w 0x212009 0)
        w 0x212006 aeOk))) ∧
    (Writable s w 0x212006 1 2 → linkState s (selPort s w) = lsUp →
      exec (.portRetrain w) s = .next (after s (reply (setStatus (enterRetrain s (selPort s w) 2) w 0x212009 0)
        w 0x212006 aeOk))) ∧
    (∀ v, v ≤ 3 → Writable s w 0x212004 1 v → linkState s (selPort s w) = lsDisabled →
      ¬ (v = roleTwin ∧ getObj s 0x213001 (selPort s w) = 0) →
      exec (.portRoleWrite w v) s = .next (after s (reply (setStatus
        (watchTray (setObj s 0x212004 (selPort s w) v) (selPort s w)) w 0x212009 0) w 0x212004 aeOk)))

/-- Mirroring, event queues, the steward and its recovery (R316, R368, R369, R371).
Choices of the model that it rests on: log entry 92. -/
def Obligations.ControlCommandsRun : Prop :=
  ∀ (s : State) (w : Requester),
    (Writable s w 0x2B0002 1 0 → (s.twin.pair = psUnpaired ∨ s.twin.pair = psAlone ∨ s.twin.pair = psHolding) →
      exec (.mirrorDisable w) s = .next (after s (reply (releaseHeldAll ap ((setPair (setObj s 0x2B0002 0 0) psUnpaired false).onTwin
        (fun t => { t with journal := [], call := none, forced := false, warnAt := none, twinTags := none,
                           peerEpoch := none }))) w 0x2B0002 aeOk))) ∧
    (Writable s w 0x2C2103 1 1 →
      exec (.canEventPop w) s = .next (after s (reply
        (let s1 := s.onDict (fun d => { d with canQ := d.canQ.tail })
         overflowNotice s1 s1.dict.canLost 1) w 0x2C2103 aeOk))) ∧
    (Writable s w 0x2C3005 1 0 → stewardUp s = true →
      exec (.stewardAlive w) s = .next (after s (reply (armWatchdog s) w 0x2C3005 aeOk))) ∧
    (Writable s w 0x2C3003 1 1 →
      exec (.stewardRestart w) s = .next (after s (reply (stewardRestartDo s 1) w 0x2C3003 aeOk))) ∧
    (Writable s w 0x2C3003 1 2 → s.power.steward ≠ 3 →
      exec (.enterRecovery w) s = .next (after s (reply (enterRecoveryDo s 2) w 0x2C3003 aeOk))) ∧
    (Writable s w 0x2C4003 1 1 → s.power.steward = 3 →
      exec (.recoveryInstall w) s = .next (after s (reply
        (let x := s.security.recovery
         if verifyImage s x = 0 then
           post (startCold ((s.onSecurity (fun y => { y with
             images := y.images.put (b2n s.security.bootB * 4 + ihKind x.2) x, recovery := (0, 0) })).onPower
             (fun p => { p with failWarm := 0, failCold := 0 })) 10) 0x0C03 none (pay [(4, ihVersion x.2)])
         else setStatus (imageFailed s x.2 (verifyImage s x)) w 0x2C4004 (if verifyImage s x = 6 then 3 else 2))
        w 0x2C4003 aeOk))) ∧
    (Writable s w 0x2C4003 1 2 → s.power.steward = 3 →
      exec (.recoveryAbort w) s = .next (after s (reply (setStatus
        (s.onSecurity (fun y => { y with recovery := (0, 0) })) w 0x2C4004 0) w 0x2C4003 aeOk)))

/-- Power states, resets, certificates, the owner key and images (R379, R380, R391, R392, R402, R410, R411): a change that
must ask the blocks starts the handshake; one that need not is made at once. -/
def Obligations.PowerAndImageCommandsRun : Prop :=
  ∀ (s : State) (w : Requester),
    (s.power.shake = none → s.power.losing = none → s.power.halted = false →
      (Writable s w 0x2D1002 1 1 → s.power.state = pwTrim →
        exec (.powerFull w) s = .next (after s (reply (setStatus (ungate s) w 0x2D1004 tsDone) w 0x2D1002 aeOk))) ∧
      (Writable s w 0x2D1002 1 2 → s.power.state = pwFull →
        exec (.powerTrim w) s = .next (after s (reply (setStatus (s.onPower (fun p => { p with state := pwTrim })) w 0x2D1004
          tsDone) w 0x2D1002 aeOk))) ∧
      (Writable s w 0x2D1002 1 3 → s.power.state = pwFull →
        exec (.powerQuiet w) s = .next (after s (reply (startShake s w 3).2 w 0x2D1002 aeOk))) ∧
      (Writable s w 0x2D1002 1 4 → s.power.state = pwFull →
        exec (.powerWatch w) s = .next (after s (reply (startShake s w 4).2 w 0x2D1002 aeOk))) ∧
      (Writable s w 0x2D1002 1 5 → s.power.state = pwFull →
        exec (.powerOff w) s = .next (after s (reply (startShake s w 5).2 w 0x2D1002 aeOk))) ∧
      (Writable s w 0x2D1003 1 1 → s.power.state = pwFull →
        exec (.warmReset w) s = .next (after s (reply (startShake s w 6).2 w 0x2D1003 aeOk))) ∧
      (Writable s w 0x2D1003 1 2 → s.power.state ≠ pwOff →
        exec (.coldReset w) s = .next (after s (reply (startCold (setStatus (writeJournals s) w 0x2D1004 tsDone) 2)
          w 0x2D1003 aeOk))) ∧
      (Writable s w 0x2D1003 1 3 → s.power.state = pwStalled →
        exec (.coldStart w) s = .next (after s (reply (startCold ((setStatus s w 0x2D1004 tsDone).onPower
          (fun p => { p with failWarm := 0, failCold := 0 })) 10) w 0x2D1003 aeOk)))) ∧
    (Writable s w 0x2E0105 1 1 → selVal s w 0x2E0101 = 1 →
      exec (.certInstall w) s = .next (after s (reply
        (let v := stagedOf s w 0x2E0104
         if Config.chainOk v = true ∧ Config.chainLen v ≤ 8192 then
           setStatus ((setStaged s w 0x2E0104 0).onSecurity (fun x => { x with chain := (Config.chainLen v, v) })) w 0x2E0106 0
         else setStatus s w 0x2E0106 1) w 0x2E0105 aeOk))) ∧
    (Writable s w 0x2E0105 1 2 → selVal s w 0x2E0101 = 1 →
      exec (.certErase w) s = .next (after s (reply (setStatus (s.onSecurity (fun x => { x with chain := (0, 0) }))
        w 0x2E0106 0) w 0x2E0105 aeOk))) ∧
    (Writable s w 0x2E1005 1 1 → ownerKey s = 0 → stagedOf s w 0x2E1003 ≠ 0 →
      exec (.ownerSet w) s = .next (after s (reply (setStatus (putOwner s w (stagedOf s w 0x2E1003)) w 0x2E1006 0)
        w 0x2E1005 aeOk))) ∧
    (Writable s w 0x2E1005 1 2 → ownerKey s ≠ 0 →
      exec (.ownerTransfer w) s = .next (after s (reply
        (let k := stagedOf s w 0x2E1003
         if ed448Verify 0 (ownerKey s) 57 k (stagedOf s w 0x2E1004) = true then setStatus (putOwner s w k) w 0x2E1006 0
         else setStatus s w 0x2E1006 1) w 0x2E1005 aeOk))) ∧
    (Writable s w 0x2E1203 1 1 →
      exec (.imageStage w) s = .next (after s (reply
        (let x := s.security.building.getD w.key (0, 0)
         if verifyImage s x = 0 then
           setStatus (s.onSecurity (fun y => { y with
             images := y.images.put (b2n s.security.bootB * 4 + ihKind x.2) x, building := y.building.del w.key })) w 0x2E1204 0
         else setStatus (imageFailed s x.2 (verifyImage s x)) w 0x2E1204 (verifyImage s x + 1)) w 0x2E1203 aeOk))) ∧
    (Writable s w 0x2E1203 1 2 →
      exec (.imageAbort w) s = .next (after s (reply (setStatus
        (s.onSecurity (fun y => { y with building := y.building.del w.key })) w 0x2E1204 0) w 0x2E1203 aeOk)))

/-! ## Messages -/

/-- Requests on lines (R36, R45-R47, R67, R68): an admitted request that no group takes and that passes its checks begins its
line's transaction, or waits its turn; one that may open a group opens it; one that joins its line's group is its last member,
and the full group goes to the home. A write-back or a clean eviction closes its line's group, and then: the write-back of the
entry's owner begins its transaction and that of another host is `DENIED` `NOT_OWNER`; a clean eviction takes effect; either
takes part in a transaction that snoops its sender, and waits its turn behind any other.
Choices of the model that it rests on: log entries 13, 48 and 99. -/
def Obligations.LineRequestsRun : Prop :=
  ∀ (s : State) (p : Nat) (m : Msg),
    (∀ v r, Begins s p (m.withOp opRdShared).heard v r →
      exec (.rdShared p m) s = .next (after s (enqueue v m.line (.ops [r])))) ∧
    (∀ v r, Begins s p (m.withOp opRdOwn).heard v r →
      exec (.rdOwn p m) s = .next (after s (enqueue v m.line (.ops [r])))) ∧
    (∀ v r, Begins s p (m.withOp opRdNc).heard v r →
      exec (.rdNc p m) s = .next (after s (enqueue v m.line (.ops [r])))) ∧
    (∀ v r, Begins s p (m.withOp opWrNc).heard v r →
      exec (.wrNc p m) s = .next (after s (enqueue v m.line (.ops [r])))) ∧
    (∀ v r, Begins s p (m.withOp opWrStash).heard v r →
      exec (.wrStash p m) s = .next (after s (enqueue v m.line (.ops [r])))) ∧
    (∀ v r, Begins s p (m.withOp opAtomic).heard v r →
      exec (.atomic p m) s = .next (after s (enqueue v m.line (.ops [r])))) ∧
    (∀ op c, ((op = opRdShared ∧ c = Sys2Proof.Instr.rdShared p m) ∨ (op = opRdNc ∧ c = .rdNc p m) ∨
        (op = opAtomic ∧ c = .atomic p m)) →
      (let n := (m.withOp op).heard
       let u := onWay s p n
       let q := quadrantOf (atHome u) n.composition (tileOf m.line)
       Admits s p n → HomesLine u m.line →
       (u.home.groups.find? (fun g => decide (g.line = m.line)) = none → mayOpen (atHome u) n q = true →
         exec c s = .next (after s ((atHome u).onHome (fun h => { h with groups := h.groups ++
           [{ line := m.line, opcode := op, comp := n.composition, word := n.word, aop := n.aop, reqs := [homeReq u p n],
              opened := u.now, hold := cfg (atHome u) 0x220001, closeAt := u.now + holdNs (atHome u), quadrant := q }] })))) ∧
       (∀ g, u.home.groups.find? (fun g => decide (g.line = m.line)) = some g → joins (atHome u) g n = true →
         (g.reqs.length + 1 < cfg (atHome u) 0x220003 →
           exec c s = .next (after s ((atHome u).onHome (fun h => { h with
             groups := updFirst h.groups (fun x => decide (x = g)) (fun _ => { g with reqs := g.reqs ++ [homeReq u p n] }) })))) ∧
         (cfg (atHome u) 0x220003 ≤ g.reqs.length + 1 →
           exec c s = .next (after s (groupToHome ((atHome u).onHome (fun h => { h with
             groups := eraseFirst h.groups (fun x => decide (x = g)) })) (g.reqs ++ [homeReq u p n]))))))) ∧
    (let n := (m.withOp opWbDirty).heard
     let u := onWay s p n
     let v := closeLine (atHome u) m.line
     Admits s p n → HomesLine u m.line → apertureAt (atHome u) m.line = none →
     checkRequester v (homeReq u p n) = none → versionAt v m.line = none →
     (v.home.txns.get? m.line = none →
       (ownsLine v (homeReq u p n) = true →
         exec (.wbDirty p m) s = .next (after s (beginTxn v m.line (.ops [homeReq u p n])))) ∧
       (ownsLine v (homeReq u p n) = false →
         exec (.wbDirty p m) s = .next (after s (refuseReq v (homeReq u p n) stDenied dNotOwner)))) ∧
     (∀ t, v.home.txns.get? m.line = some t →
       (t.targets.contains (peerHost n.peer) = true →
         exec (.wbDirty p m) s = .next (after s (wbSnooped v t (homeReq u p n)))) ∧
       (t.targets.contains (peerHost n.peer) = false →
         exec (.wbDirty p m) s = .next (after s (enqueue v m.line (.ops [homeReq u p n])))))) ∧
    (let n := (m.withOp opEvictClean).heard
     let u := onWay s p n
     let v := closeLine (atHome u) m.line
     Admits s p n → HomesLine u m.line → apertureAt (atHome u) m.line = none →
     checkRequester v (homeReq u p n) = none → versionAt v m.line = none →
     ((v.home.txns.get? m.line = none ∨ ∃ t, v.home.txns.get? m.line = some t ∧ t.targets.contains (peerHost n.peer) = true) →
       exec (.evictClean p m) s = .next (after s (evictEffect v (homeReq u p n)))) ∧
     (∀ t, v.home.txns.get? m.line = some t → t.targets.contains (peerHost n.peer) = false →
       exec (.evictClean p m) s = .next (after s (enqueue v m.line (.ops [homeReq u p n])))))

/-- Fences, milestones, snoops and answers (R39-R43, R63, R64, R69, R93, R97): a fence covers what its port has outstanding when it
is received, and is answered once it is admitted and covers nothing any more; a host's fifth fence is answered `RETRY`. A
milestone is answered by the pair it names, and sent on by any other. A snoop or a stash offer reaches its host; the answer to
a snoop joins its transaction; a response reaches the host that asked, or the tray request that it answers.
Choices of the model that it rests on: log entries 10 and 103. -/
def Obligations.FencesAndAnswersRun : Prop :=
  ∀ (s : State) (p : Nat) (m : Msg),
    (let n := (m.withOp opFence).heard
     let u := onWay s p n
     Admits s p n → u.twin.pair ≠ psQuarantined →
     ((s.tm.fences.filter (fun f => decide (f.host = peerHost n.peer))).length < 4 →
       u.tm.fences = s.tm.fences ++ [{
         host := peerHost n.peer, m := n, port := p, admitted := false
         covers := (s.tm.hostReqs.filter (fun r => decide (r.host = peerHost n.peer) && decide (r.port = p) &&
           (n.scopeAll || decide (r.dest = n.fenceDest)))).map HostReq.seq }]) ∧
     (u.tm.fences.any (isFence p n) = true →
       exec (.fence p m) s = .next (after s (completeFences (u.onTm (fun t => { t with
         fences := updFirst t.fences (isFence p n) (fun f => { f with admitted := true }) }))))) ∧
     (u.tm.fences.any (isFence p n) = false →
       exec (.fence p m) s = .next (after s
         (emitToHost u (peerHost n.peer) p (mkResp n stRetry 0 (ownAgent u agentPorts) 0 1))))) ∧
    (let n := (m.withOp opMilestone).heard
     FabricPort s p → badForm n = none →
     (n.milestoneDest = ownPair s →
       exec (.milestone p m) s = .next (after s (emit s p
         (raiseLoad s (mkResp n stOk 0 (ownAgent s agentHome) n.milestoneId 1) true)))) ∧
     (n.milestoneDest ≠ ownPair s →
       exec (.milestone p m) s = .next (after s (sendToPair s n.milestoneDest n true p)))) ∧
    (∀ q, FabricPort s p → hostPort s (peerHost m.heard.peer) = some q →
      (badForm (m.withOp opSnpInv).heard = none →
        exec (.snpInv p m) s = .next (after s (emit s q (m.withOp opSnpInv).heard))) ∧
      (badForm (m.withOp opSnpShare).heard = none →
        exec (.snpShare p m) s = .next (after s (emit s q (m.withOp opSnpShare).heard))) ∧
      (badForm (m.withOp opStashFill).heard = none →
        exec (.stashFill p m) s = .next (after s (emit s q (m.withOp opStashFill).heard)))) ∧
    (let n := (m.withOp opSnpResp).heard
     ∀ t, FabricPort s p → badForm n = none → homePair s m.line = some (ownPair s) → servesHere s = true →
     answersIgnored s m.line = false → s.home.timedOut.contains (m.line, peerHost n.peer, m.tag) = false →
     s.home.txns.get? m.line = some t →
     t.snoops.any (fun x => decide (x.host = peerHost n.peer) && decide (x.tag = m.tag)) = true →
     (t.state ≠ .stashing →
       exec (.snpResp p m) s = .next (after s (snoopAnswered s m.line (peerHost n.peer) t
         (if n.snpResult = 2 then some (n.lineData, m.poison) else if m.poison then some (0, true) else none)))) ∧
     (t.state = .stashing → n.snpResult = 4 →
       exec (.snpResp p m) s = .next (after s (stashAnswered s m.line (peerHost n.peer) true))) ∧
     (t.state = .stashing → n.snpResult = 5 →
       exec (.snpResp p m) s = .next (after s (stashAnswered (addStat s 0x243003 0 1) m.line (peerHost n.peer) false)))) ∧
    (let n := (m.withOp opResp).heard
     ∀ r, FabricPort s p → peerIsAgent n.peer = false → attached s (peerHost n.peer) = true → replyDropped s n = false →
     isLost s (peerHost n.peer) = false → hostReqOf s (peerHost n.peer) m.tag = some r →
     exec (.resp p m) s = .next (after s
       (let s1 := forgetSent s n.peer m.tag
        closeHostReq (emitToHost s1 (peerHost n.peer) (replyPort s1 (peerHost n.peer) r.port) n) r false false))) ∧
    (let n := (m.withOp opRespData).heard
     ∀ r, Listens s p → portRole s p = roleTray → n.status = stOk → r.kind = .fill →
     s.tier.reqs.find? (fun r => decide (r.port = p) && decide (r.tag = m.tag)) = some r →
     exec (.respData p m) s = .next (after s (fillArrived
       ((dropTrayReq s r).onTier (fun t => { t with fails := t.fails.del p })) r.line n.lineData m.poison))) ∧
    (let n := (m.withOp opResp).heard
     ∀ r, Listens s p → portRole s p = roleTray → n.status = stOk → r.kind = .writeback →
     s.tier.reqs.find? (fun r => decide (r.port = p) && decide (r.tag = m.tag)) = some r →
     exec (.resp p m) s = .next (after s (writtenBack
       ((dropTrayReq s r).onTier (fun t => { t with fails := t.fails.del p })) r.line)))

/-- Services (R79, R193, R195, R206, R211, R214, R248-R250, R274, R362): searches, handoffs, doorbells, notices and SPDM
messages, each on the path on which its rule refuses nothing. A management message is charged to the management budget, and
waits for the next period where that is used. Choices of the model that it rests on: log entries 62, 108 and 119. -/
def Obligations.ServicesRun : Prop :=
  ∀ (s : State) (p : Nat) (m : Msg),
    (∀ n u, n = (m.withFunc opSearch 1).heard → u = onWay s p n → Serves s p n → searchRefusal u n = none →
      searchWaits u n = false →
      exec (.lookup p m) s = .next (after s
        (lookupDo (noteSearch u n.composition (searchCost (partOf u (srPart n)).desc)) (some p) n))) ∧
    (∀ n u, n = (m.withFunc opSearch 2).heard → u = onWay s p n → Serves s p n → searchRefusal u n = none →
      searchWaits u n = false →
      exec (.walk p m) s = .next (after s
        (walkDo (noteSearch u n.composition (searchCost (partOf u (searchPart u n)).desc)) (some p) n))) ∧
    (∀ n u, n = (m.withFunc opSearch 3).heard → u = onWay s p n → Serves s p n → searchRefusal u n = none →
      exec (.searchWrite p m) s = .next (after s (queueUpdate u (srPart n)
        { idx := srIndex n, record := some (recordKept (partOf u (srPart n)).desc n.dataNat), source := .req n (some p) }))) ∧
    (∀ n u, n = (m.withFunc opSearch 4).heard → u = onWay s p n → Serves s p n → searchRefusal u n = none →
      exec (.searchClear p m) s = .next (after s (queueUpdate u (srPart n)
        { idx := srIndex n, source := .req n (some p) }))) ∧
    (∀ f n u, 1 ≤ f → f ≤ 7 → (n = (m.withFunc opHandoff f).heard) → u = onWay s p n → Serves s p n →
      (compOf u n.composition).state ≠ 3 → (compOf u n.composition).state ≠ 2 → isLost u (peerHost n.peer) = false →
      peerIsAgent n.peer = false → isMember u n.composition (peerHost n.peer) = true →
      (compOf u n.composition).recordBase ≤ hoRecord n →
      hoRecord n < (compOf u n.composition).recordBase + (compOf u n.composition).recordCount →
      ¬ (inc32 (hoGen n) = (recOf u (hoRecord n)).generation ∧ (recOf u (hoRecord n)).lastFunction = f ∧
        (recOf u (hoRecord n)).lastHost = peerHost n.peer) →
      hoGen n = (recOf u (hoRecord n)).generation →
      handoffRow u (recOf u (hoRecord n)) n.composition f (peerHost n.peer) = some true →
      ¬ ((f = 1 ∨ (f = 3 ∧ hoKeep n = false)) ∧ hoTarget n / 1024 = 3) →
      (f = 1 → openRangeBad u n.composition n = false) →
      (let did := fun k : Nat => Host.Outcome.next (after s (handoffDo u (some p) n (hoRecord n) k (peerHost n.peer)))
       (f = 1 → exec (.openRec p m) s = did 1) ∧
       (f = 2 → exec (.sealRec p m) s = did 2) ∧
       (f = 3 → exec (.offer p m) s = did 3) ∧
       (f = 4 → exec (.withdraw p m) s = did 4) ∧
       (f = 5 → exec (.claim p m) s = did 5) ∧
       (f = 6 → exec (.handoffRelease p m) s = did 6) ∧
       (f = 7 → exec (.discard p m) s = did 7))) ∧
    (∀ n u, n = (m.withFunc opHandoff 8).heard → u = onWay s p n → Serves s p n →
      (compOf u n.composition).state ≠ 3 → (compOf u n.composition).state ≠ 2 → isLost u (peerHost n.peer) = false →
      peerIsAgent n.peer = false → isMember u n.composition (peerHost n.peer) = true →
      (compOf u n.composition).recordBase ≤ hoRecord n →
      hoRecord n < (compOf u n.composition).recordBase + (compOf u n.composition).recordCount →
      exec (.query p m) s = .next (after s
        (serviceAnswer u (some p) n stOk 0 ((recOf u (hoRecord n)).word (hoWord n))))) ∧
    (∀ n u i, n = (m.withFunc opDoorbell 1).heard → u = onWay s p n → Serves s p n → doorbellRefusal u n = none →
      i = n.fld 16 8 → (itinOf u i).state = 3 → itComp (itinOf u i).desc = n.composition →
      (List.range 4).any (fun a => if itArgOn (itinOf u i).desc a then decide (itLimit (itinOf u i).desc a < launchArg n a)
        else decide (launchArg n a ≠ 0)) = false →
      (setBitList (itCores (itinOf u i).desc) 24).any (fun c => !coreGranted u n.composition c) = false →
      (setBitList (itCores (itinOf u i).desc) 24).any (fun c => decide (4 ≤ (coreOf u c).queue.length)) = false →
      exec (.launch p m) s = .next (after s
        (let cores := setBitList (itCores (itinOf u i).desc) 24
         let q := u.compute.launchSeq
         let l : Launch := { itin := i, comp := n.composition, host := peerHost n.peer, args := n.fld 32 128 }
         let s1 := u.onCompute (fun x => { x with launchSeq := inc32 q, launches := x.launches.put q l })
         let s2 := cores.foldl (fun s c => setCore s c { coreOf s c with queue := (coreOf s c).queue ++ [q] }) s1
         let s3 := cores.foldl (fun s c => if (coreOf s c).started then s else takeNext s c (coreOf s c).queue) s2
         serviceAnswer s3 (some p) n stOk 0 q))) ∧
    (∀ n u, n = (m.withFunc opDoorbell 2).heard → u = onWay s p n → Serves s p n → doorbellRefusal u n = none →
      (n.fld 16 8 < 24 → exec (.count p m) s = .next (after s (serviceAnswer
        (outsideSignal u n.composition (n.fld 16 8) (n.fld 24 5) (n.fld 32 16)) (some p) n stOk 0 0))) ∧
      (24 ≤ n.fld 16 8 → exec (.count p m) s = .next (after s (serviceAnswer (addErr u 0x282007 0 1) (some p) n stOk 0 0)))) ∧
    (∀ f n, n = (m.withFunc opMgmt f).heard → FabricPort s p → badForm n = none → peerIsAgent n.peer = true → ServesPair s n →
      classHeld s p n.tc = false →
      (s.tm.mgmtWait = [] → hasBudget s 1 (portQuadrant p) 6 (n.slotCount + 1) = true →
        (let u := charge s 1 (portQuadrant p) 6 (n.slotCount + 1)
         (f = 3 → exec (.notice p m) s = .next (after s (serviceAnswer (loseHost u (n.fld 80 10) 2) (some p) n stOk 0 0))) ∧
         (f = 4 → mgLength n ≠ 0 → mgLength n ≤ 128 → u.power.steward = 2 →
           ¬ (u.security.holdoff.has p = true ∧ u.security.sessions.has p = false) →
           exec (.spdm p m) s = .next (after s (spdmMoves (deliverResp u
             (spdmAnswer u n (Config.spdmRespond (spdmView u p) (u.security.sessions.getD p 0) (spdmBytes n))) (some p))
             p (spdmBytes n)))))) ∧
      ((s.tm.mgmtWait ≠ [] ∨ hasBudget s 1 (portQuadrant p) 6 (n.slotCount + 1) = false) →
        (let waits := after s (s.onTm (fun t => { t with mgmtWait := t.mgmtWait ++ [(p, n)] }))
         (f = 3 → exec (.notice p m) s = .next waits) ∧ (f = 4 → exec (.spdm p m) s = .next waits))))

/-- The messages that keep a pair in step (R309, R310, R317, R318, R325), each for this ZX964 from a peer that is not
quarantined. A side that takes batches keeps a new one, applies what is next in turn, and acknowledges on the link; any other
side ignores batches. An acknowledgement to a side that mirrors ends the batches before its number, counts them, and lets what
waited for them go on, oldest first. A heartbeat of a ZX964 with a verdict disables the port with 0x0B33; any other is noted, and
the own twin's warns of tags, forms the pair of two `UNPAIRED` sides, or starts a lone side's catch-up. Batches on a port that
is no twin port are discarded and counted. Choices of the model that it rests on: log entry 43. -/
def Obligations.TwinMessagesRun : Prop :=
  ∀ (s : State) (p : Nat) (m : Msg),
    (let n := (m.withOp opTwMirror).heard
     ForTwin s p n →
     (portRole s p = roleTwin → (s.twin.pair = psRecv ∨ (s.twin.pair = psSync ∧ s.twin.serving = false)) →
       exec (.twMirror p m) s = .next (after s
         (let b : Batch := { seq := n.fld 0 32, recs := readRecs (n.fld 32 3) n.data }
          let s1 := if reached s.twin.applied (inc32 b.seq) = true ∨ s.twin.inbox.any (fun x => decide (x.seq = b.seq)) = true
            then s else s.onTwin (fun t => { t with inbox := t.inbox ++ [b] })
          let s2 := applyInbox s1.twin.inbox.length s1
          if tierAwake s = true then emit s2 p (twMsg s2 opTwMirrorAck (twinIdent s2) s2.twin.applied) else s2))) ∧
     (portRole s p = roleTwin → s.twin.pair ≠ psRecv → (s.twin.pair ≠ psSync ∨ s.twin.serving = true) →
       exec (.twMirror p m) s = .next (after s s)) ∧
     (portRole s p ≠ roleTwin → exec (.twMirror p m) s = .next (after s (roleDiscard s)))) ∧
    (let n := (m.withOp opTwMirrorAck).heard
     let gone : Nat → Bool := fun q => reached (n.fld 0 32) (inc32 q)
     ForTwin s p n →
     (portRole s p = roleTwin → mirrorsNow s = true →
       exec (.twMirrorAck p m) s = .next (after s
         (let s1 := addStat s 0x2B0201 0 (s.twin.journal.filter (fun b => gone b.seq)).length
          catchupDone (releaseHeldIf ap (fun b => match b with | some q => gone q | none => false)
            (s1.onTwin (fun t => { t with journal := t.journal.filter (fun b => !gone b.seq) })))))) ∧
     (portRole s p = roleTwin → mirrorsNow s = false → exec (.twMirrorAck p m) s = .next (after s s)) ∧
     (portRole s p ≠ roleTwin → exec (.twMirrorAck p m) s = .next (after s (roleDiscard s)))) ∧
    (let n := (m.withOp opTwBeat).heard
     let id := n.fld 32 7
     let tags := n.fld 48 32
     let cold := n.fld 80 32
     let s1 := s.onTwin (fun t => { t with
       quarantine := t.quarantine.del id, neigh := t.neigh.put id { heard := true }, portPeer := t.portPeer.put p id
       peerTags := t.peerTags.put id tags, peerCold := t.peerCold.put id cold, peerState := t.peerState.put id (n.fld 40 4)
       silentTurns := 0 })
     let s2 := s1.onTwin (fun t => { t with twinTags := some tags })
     ForTwin s p n →
     (∀ c, s.twin.quarantine.get? id = some c → reached c cold = true →
       exec (.twBeat p m) s = .next (after s (post (portDisable s p) 0x0B33 none (pay [(1, p), (1, id), (4, cold)])))) ∧
     ((∀ c, s.twin.quarantine.get? id = some c → reached c cold = false) →
       ((portRole s p ≠ roleTwin ∨ id ≠ twinIdent s) → exec (.twBeat p m) s = .next (after s s1)) ∧
       (portRole s p = roleTwin → id = twinIdent s → tagsPass s2 tags = false →
         (s.twin.twinTags = some tags → exec (.twBeat p m) s = .next (after s s2)) ∧
         (s.twin.twinTags ≠ some tags →
           exec (.twBeat p m) s = .next (after s
             (if s.twin.pair = psRecv ∧ s.twin.claimed = true then portDisable (endReceiving (tagEvent s2 id tags)) p
              else tagEvent s2 id tags)))) ∧
       (portRole s p = roleTwin → id = twinIdent s → tagsPass s2 tags = true →
         (s2.twin.pair = psUnpaired → mayPair s2 = true →
           exec (.twBeat p m) s = .next (after s
             (formPair (if s.twin.twinTags = some tags then s2 else sendEpoch s2)))) ∧
         (s2.twin.pair = psAlone → (n.fld 40 4 = psRecv ∨ n.fld 40 4 = psDetached) →
           exec (.twBeat p m) s = .next (after s (startCatchup (tagWarning s2)))) ∧
         ((s2.twin.pair ≠ psUnpaired ∨ mayPair s2 = false) →
           (s2.twin.pair ≠ psAlone ∨ (n.fld 40 4 ≠ psRecv ∧ n.fld 40 4 ≠ psDetached)) →
           exec (.twBeat p m) s = .next (after s (tagWarning s2))))))

/-- Suspicion, verdicts and serving sides (R305, R321-R323, R330), each for this ZX964 from a peer that is not quarantined. A
suspicion is answered on its link: no opinion of a ZX964 that is no neighbour, agreement after five missed beats, else
disagreement. An answer to the present question is counted, and two peers that agree are a verdict. A verdict on this ZX964
quarantines it; one already known changes nothing; a new one is counted, recorded, sent on, and posted as 0x0B31, its subject's
ports are disabled, and the own pair or the fabric acts on it. A serving message that is newer is learned and passed on once.
Choices of the model that it rests on: log entries 45 and 57. -/
def Obligations.TwinVerdictsRun : Prop :=
  ∀ (s : State) (p : Nat) (m : Msg),
    (let n := (m.withOp opTwSuspect).heard
     ForTwin s p n →
     exec (.twSuspect p m) s = .next (after s
       (let x := n.fld 0 7
        let k := (s.twin.neigh.getD x {}).missed
        let a := if (neighbours s).contains x = false then 0 else if 5 ≤ k then 1 else 2
        emit s p (twMsg s opTwConfirm (n.fld 8 7)
          (pack [(8, x), (8, n.fld 8 8), (32, n.fld 16 32), (2, a), (6, 0), (8, min 255 k)]))))) ∧
    (let n := (m.withOp opTwConfirm).heard
     let x := n.fld 0 7
     let k := s.twin.neigh.getD x {}
     ForTwin s p n →
     (∀ who, peerOn s p = some who → n.fld 8 7 = ownIdent s → k.ask = some (n.fld 16 32) →
       (let agree := (if n.fld 48 2 = 1 then who :: k.agree else k.agree).dedup
        let disagree := (if n.fld 48 2 = 2 then who :: k.disagree else k.disagree).dedup
        let s1 := s.onTwin (fun t => { t with neigh := t.neigh.put x { k with
          agree := agree, disagree := disagree, answers := k.answers + 1 } })
        (2 ≤ agree.length → exec (.twConfirm p m) s = .next (after s
          (verdict ap s1 x (ownIdent s) (s.twin.peerCold.getD x 0) agree.length disagree.length))) ∧
        (agree.length < 2 → exec (.twConfirm p m) s = .next (after s s1)))) ∧
     ((peerOn s p = none ∨ n.fld 8 7 ≠ ownIdent s ∨ k.ask ≠ some (n.fld 16 32)) →
       exec (.twConfirm p m) s = .next (after s s))) ∧
    (let n := (m.withOp opTwVerdict).heard
     let x := n.fld 0 7
     ForTwin s p n →
     (x = ownIdent s → exec (.twVerdict p m) s = .next (after s (quarantineSelf s 0))) ∧
     (x ≠ ownIdent s → s.twin.quarantine.has x = true → exec (.twVerdict p m) s = .next (after s s)) ∧
     (x ≠ ownIdent s → s.twin.quarantine.has x = false →
       (let body := pack [(8, x), (8, n.fld 8 7), (32, n.fld 16 32)]
        let ps := portsTo s x
        let s1 := (addErr s 0x2B1003 0 1).onTwin (fun t => { t with
          quarantine := t.quarantine.put x (n.fld 16 32), neigh := t.neigh.del x })
        let s2 := ps.foldl (fun s q => portDisable (sendLast s q (twMsg s opTwVerdict x body)) q) s1
        let s3 := post (floodTwin s2 opTwVerdict body ps) 0x0B31 none (pay [(1, x), (1, n.fld 8 7), (4, 0), (4, 0)])
        (x = twinIdent s → exec (.twVerdict p m) s = .next (after s (verdictOnTwin ap s3))) ∧
        (x ≠ twinIdent s → exec (.twVerdict p m) s = .next (after s (verdictOnOther s3 x)))))) ∧
    (let n := (m.withOp opTwServing).heard
     let q := n.fld 0 7 % 64
     ForTwin s p n →
     (∀ e, s.twin.servingEpoch.get? q = some e → reached e (n.fld 8 32) = true →
       exec (.twServing p m) s = .next (after s s)) ∧
     ((∀ e, s.twin.servingEpoch.get? q = some e → reached e (n.fld 8 32) = false) →
       exec (.twServing p m) s = .next (after s (floodTwin (s.onTwin (fun t => { t with
         servingOf := t.servingOf.put q (n.fld 0 7 / 64), servingEpoch := t.servingEpoch.put q (n.fld 8 32)
         takeover := t.takeover.del q, lostPairs := t.lostPairs.filter (fun x => decide (x ≠ q)) }))
         opTwServing (pack [(8, n.fld 0 7), (32, n.fld 8 32)]) [p]))))

/-- Detaching and catching up (R313, R314, R324, R334, R336), each for this ZX964 from a peer that is not quarantined. A request
to detach is confirmed by a mirror side, which discards what it mirrors and is `DETACHED`, confirmed again by a `DETACHED` side,
refused by a side that serves, and without an effect on any other. A holding side that is confirmed goes on alone; a side that
is refused quarantines itself. An epoch forms the pair of an `UNPAIRED` side whose mirroring is enabled. A start makes a side that
may pair, or is `DETACHED` or receiving, the receiver, which keeps the batches it already
received for this catch-up; done makes a receiver that has applied all the
mirror side of the new epoch; an abort ends the catch-up at either end. In any other state each of them changes nothing.
Choices of the model that it rests on: log entry 46. -/
def Obligations.TwinCatchupRuns : Prop :=
  ∀ (s : State) (p : Nat) (m : Msg),
    (let said := fun k : Nat => sendTwin s opTwDetach (twinIdent s) (pack [(2, k), (6, 0), (8, ownIdent s)])
     ForTwin s p (m.withStep opTwDetach 0).heard →
     (s.twin.pair = psSync → s.twin.serving = false → exec (.twDetachRequest p m) s = .next (after s
       (setPair ((discardMirrored (said 1)).onTwin (fun t => { t with inbox := [], applied := 0, twinTags := none }))
         psDetached false))) ∧
     (s.twin.pair = psDetached → exec (.twDetachRequest p m) s = .next (after s (said 1))) ∧
     ((s.twin.pair ≠ psSync ∨ s.twin.serving = true) → s.twin.pair ≠ psDetached →
       (servesHere s = true → exec (.twDetachRequest p m) s = .next (after s (said 2))) ∧
       (servesHere s = false → exec (.twDetachRequest p m) s = .next (after s s)))) ∧
    (ForTwin s p (m.withStep opTwDetach 1).heard →
     (s.twin.pair = psHolding → exec (.twDetachConfirm p m) s = .next (after s (outOfSync ap s 1))) ∧
     (s.twin.pair ≠ psHolding → exec (.twDetachConfirm p m) s = .next (after s s))) ∧
    (ForTwin s p (m.withStep opTwDetach 2).heard →
     exec (.twDetachRefuse p m) s = .next (after s (quarantineSelf s 1))) ∧
    (let n := (m.withStep opTwCatchup 0).heard
     ForTwin s p n →
     (s.twin.pair = psUnpaired → cfg s 0x2B0002 = 1 → exec (.twCatchupEpoch p m) s = .next (after s
       (formPair (s.onTwin (fun t => { t with peerEpoch := some (n.fld 8 64) }))))) ∧
     ((s.twin.pair ≠ psUnpaired ∨ cfg s 0x2B0002 ≠ 1) → exec (.twCatchupEpoch p m) s = .next (after s s))) ∧
    (let n := (m.withStep opTwCatchup 1).heard
     ForTwin s p n →
     ((mayPair s = true ∨ s.twin.pair = psDetached ∨ s.twin.pair = psRecv) →
       exec (.twCatchupStart p m) s = .next (after s
         (setObj (setObj ((setPair (tagWarning s) psRecv false).onTwin (fun t => { t with
           applied := if s.twin.pair = psRecv then t.applied else 0
           inbox := if s.twin.pair = psRecv then t.inbox else []
           copyStart := s.now, peerEpoch := none })) 0x2B0301 0 0) 0x2B0302 0 (n.fld 72 64)))) ∧
     (mayPair s = false → s.twin.pair ≠ psDetached → s.twin.pair ≠ psRecv →
       exec (.twCatchupStart p m) s = .next (after s s))) ∧
    (let n := (m.withStep opTwCatchup 2).heard
     ForTwin s p n →
     (s.twin.pair = psRecv → s.twin.inbox = [] → exec (.twCatchupDone p m) s = .next (after s
       (inSyncEvent ((setPair s psSync false).onTwin (fun t => { t with epoch := n.fld 8 64 })) (1 - s.twin.side)))) ∧
     ((s.twin.pair ≠ psRecv ∨ s.twin.inbox ≠ []) → exec (.twCatchupDone p m) s = .next (after s s))) ∧
    (ForTwin s p (m.withStep opTwCatchup 3).heard →
     (s.twin.pair = psSend → exec (.twCatchupAbort p m) s = .next (after s (abandonCatchup ap s 0))) ∧
     (s.twin.pair = psRecv → exec (.twCatchupAbort p m) s = .next (after s (endReceiving s))) ∧
     (s.twin.pair ≠ psSend → s.twin.pair ≠ psRecv → exec (.twCatchupAbort p m) s = .next (after s s)))
/-! ## Legs of the compute cores -/

/-- The legs of a core that issues one (R163, R174-R188, R196): moves and gathers of good tiles, array, vector and select
legs on their engines, sends, signals, waits, loops and the end of a launch. A wait that has lasted too long ends the launch
for the core (R185). Choices of the model that it rests on: log entries 25, 26, 27, 28, 29 and 127. -/
def Obligations.LegsRun : Prop :=
  ∀ (s : State) (c comp : Nat),
    (Issues s c 1 comp →
      exec (.move c) s = .next (after s
        (let l := legNow s c
         let v := getObj (issued s c) 0x211203 (comp + mvDesc l * 2 ^ 8)
         if 2 ≤ mvDir l then issueCopy (issued s c) c (issuing s c) l
         else if moveOk (TileDesc.ofNat v) v l = true then issueMove (issued s c) c comp (issuing s c) l (rangesNow s c comp)
         else legFault (issued s c) c (issuing s c) 0 dBadTile))) ∧
    (Issues s c 2 comp →
      exec (.gather c) s = .next (after s
        (let l := legNow s c
         let v := getObj (issued s c) 0x211203 (comp + gaDesc l * 2 ^ 8)
         let d := TileDesc.ofNat v
         if tileDescOk v = true ∧ d.swizzle = 0 ∧ d.codec = 0 ∧ d.rowBytes % 32 = 0 ∧
           d.rowBytes * 8 = d.cols * formatBits d.format then
           issueGather (issued s c) c comp (issuing s c) l (rangesNow s c comp)
         else legFault (issued s c) c (issuing s c) 0 dBadTile))) ∧
    (Issues s c 3 comp →
      exec (.array c) s = .next (after s
        (let l := legNow s c
         if arLoad l = false ∧ ((legEngines l).map (fun e => 8 * c + e)).any
           (fun g => !(issued s c).compute.blocks.has g) = true then legFault (issued s c) c (issuing s c) 0 dBadLeg
         else onEngines (issued s c) c (issuing s c) l (fun s g _ => (arrayEngine s l g).getD (s, false))))) ∧
    (Issues s c 4 comp →
      exec (.vector c) s = .next (after s
        (onEngines (issued s c) c (issuing s c) (legNow s c) (fun t g _ => vectorEngine t (legNow s c) g)))) ∧
    (Issues s c 5 comp →
      exec (.select c) s = .next (after s (onEngines (issued s c) c (issuing s c) (legNow s c)
        (fun t g q => selectEngine t (issuing s c) (legNow s c) g q)))) ∧
    (Issues s c 6 comp →
      exec (.send c) s = .next (after s (issueSend (issued s c) c comp (issuing s c) (legNow s c) (rangesNow s c comp)))) ∧
    (Issues s c 7 comp →
      exec (.stash c) s = .next (after s (issueSend (issued s c) c comp (issuing s c) (legNow s c) (rangesNow s c comp)))) ∧
    (∀ q rest x, Issues s c 8 comp → legsDone s c = true → (coreOf (issued s c) c).queue = q :: rest →
      launchOf (issued s c) q = some x →
      exec (.signal c) s = .next (after s
        (let l := legNow s c
         if bits l 16 2 = 0 then signalRank (issued s c) q x (bits l 23 5) (bits l 18 5) (bits l 32 16)
         else if bits l 16 2 = 1 then trigger (issued s c) comp (bits l 28 4) else issued s c))) ∧
    (Issues s c 9 comp →
      exec (.await c) s = .next (after s
        (let l := legNow s c
         let i := bits l 16 5
         let origin := if bit l 21 = true then 0 else (issued s c).compute.origins.getD (counterKey c i) 0
         let t := (origin + bits l 22 32 + loopIdx (issuing s c) (bits l 54 2) * bits l 56 16) % 2 ^ 32
         if reached (counterOf (issued s c) c i) t = true then issued s c
         else setCore (issued s c) c { issuing s c with
           waiting := some ((issued s c).now + 1000 * cfg (issued s c) 0x282001, i * 2 ^ 32 + t) }))) ∧
    (Issues s c 10 comp →
      exec (.repeatLeg c) s = .next (after s (setCore (issued s c) c { issuing s c with
        pc := (coreOf s c).pc + 1
        loops := { start := (coreOf s c).pc + 1, stop := (coreOf s c).pc + 1 + bits (legNow s c) 32 13,
                   last := bits (legNow s c) 16 16, idx := 0 } :: (coreOf s c).loops }))) ∧
    (∀ q rest l, Issues s c 0 comp → legsDone s c = true → (coreOf (issued s c) c).queue = q :: rest →
      launchOf (issued s c) q = some l →
      (launchCores (issued s c) l).all (fun x => (l.done ++ [c]).contains x) = false →
      exec (.endLeg c) s = .next (after s (popLaunch (putLaunch (issued s c) q { l with done := l.done ++ [c] }) c))) ∧
    (∀ q rest l, Issues s c 0 comp → legsDone s c = true → (coreOf (issued s c) c).queue = q :: rest →
      launchOf (issued s c) q = some l →
      (launchCores (issued s c) l).all (fun x => (l.done ++ [c]).contains x) = true →
      exec (.endLeg c) s = .next (after s
        (let d := (itinOf (issued s c) l.itin).desc
         let s1 := addStat (issued s c) 0x282003 0 1
         let s2 := if itDoneNotify d then trigger s1 l.comp (itDoneVec d) else s1
         popLaunch (dropLaunch s2 q { l with done := l.done ++ [c] }) c))) ∧
    (∀ d t, clocked s = true → (coreOf s c).waiting = some (d, t) →
      exec (.awaitTimeout c) s = .next (after s (legFault (reachTime s d) c (coreOf s c) 0 dAwaitTimeout)))

/-! ## Rules of the spec, word for word -/

/-- R279: a breakout is accepted only while every logical port of its physical port is `DISABLED`: object 2120.02 of the physical
port then reads the new breakout, and no object but it and the credit grants of object 2120.0A changes. Otherwise the write is
refused with `BUSY` in object 2120.09, and nothing else changes. Choices of the model that it rests on: log entry 121. -/
def Obligations.BreakoutNeedsDisabledPorts : Prop :=
  ∀ (s : State) (w : Requester) (v : Nat), v ≤ 2 → Writable s w 0x212002 1 v → SMap.wf s.dict.objs = true →
    ((∀ j, j < 4 → linkState s (4 * selVal s w 0x212001 + j) = lsDisabled) →
      ∃ t, exec (.breakoutWrite w v) s = .next (after s (reply (setStatus t w 0x212009 0) w 0x212002 aeOk)) ∧
        t = { s with dict := t.dict } ∧ (selVal s w 0x212001 < 64 →
          getObj t 0x212002 (selVal s w 0x212001) = v ∧
          ∀ o i, i < 2 ^ 64 → o ≠ 0x21200A → (o ≠ 0x212002 ∨ i ≠ selVal s w 0x212001) → getObj t o i = getObj s o i)) ∧
    ((∃ j, j < 4 ∧ linkState s (4 * selVal s w 0x212001 + j) ≠ lsDisabled) →
      exec (.breakoutWrite w v) s = .next (after s (reply (setStatus s w 0x212009 1) w 0x212002 aeOk)))

/-- R276: a budget write that would make the budgets of its resource and quadrant sum to more than the capacity × (64 − object
2360.06) ÷ 64 is refused with `NO_CAPACITY` in object 2360.09; an accepted one commits at the start of the next period: the
budget objects then read what was written to them last, and no budget of the period is used yet. The host's own share (object
2360.06) is stored. -/
def Obligations.BudgetsFitTheirResource : Prop :=
  (∀ (s : State) (w : Requester) (sub v : Nat), 3 ≤ sub → sub ≤ 5 → v < 2 ^ 32 → Writable s w (0x236000 + sub) 4 v →
    (let q := selVal s w 0x236001
     let a := selVal s w 0x236002
     let sum := (((List.range 8).filter (fun x => decide (1 ≤ x) && decide (x ≠ a))).map (nextBudget s (sub - 3) q)).sum + v
     (capacityOf (sub - 3) * (64 - cfg s 0x236006) < 64 * sum →
       exec (.budgetWrite w sub v) s = .next (after s (reply (setStatus s w 0x236009 1) w (0x236000 + sub) aeOk))) ∧
     (64 * sum ≤ capacityOf (sub - 3) * (64 - cfg s 0x236006) →
       exec (.budgetWrite w sub v) s = .next (after s (reply (setStatus
         (let k := budgetKey (sub - 3) q a
          s.onDict (fun d => { d with nextPeriod := d.nextPeriod.filter (fun x => decide (x.1 ≠ k)) ++ [(k, v)] }))
         w 0x236009 0) w (0x236000 + sub) aeOk))))) ∧
  (∀ s : State, clocked s = true → SMap.wf s.dict.objs = true → ∃ t,
    exec .governorPeriod s = .next (after s (resumeSearches (resumeMovers (sendUnsent t)))) ∧
    t.dict.nextPeriod = [] ∧ t.tm.used = [] ∧ (periodOf s.now + 1) * 8192 ≤ t.now ∧
    ∀ x ∈ s.dict.nextPeriod, (∀ y ∈ s.dict.nextPeriod, y.1 = x.1 → y = x) → getObj t (x.1 / 2 ^ 64) (x.1 % 2 ^ 64) = x.2) ∧
  (∀ (s : State) (w : Requester) (v : Nat), v < 2 ^ 8 → Writable s w 0x236006 1 v →
    exec (.budgetWrite w 6 v) s = .next (after s (reply (setObj s 0x236006 0 v) w 0x236006 aeOk)))

/-- R53: no host has an eviction floor after reset; when an entry ends, its host's floor becomes the entry's `ledger_id` if the
floor is unset or the ID is ahead of it by modular difference, and stays otherwise; no other host's floor changes. -/
def Obligations.FloorFollowsTheNewestEndedEntry : Prop :=
  State.reset.home.floors = [] ∧
  ∀ (s : State) (host id : Nat), id < 2 ^ 32 →
    (s.home.floors.get? host = none → (endEntry s host id).home.floors.get? host = some id) ∧
    (∀ f, f < 2 ^ 32 → s.home.floors.get? host = some f → 0 < (id + 2 ^ 32 - f) % 2 ^ 32 →
      (id + 2 ^ 32 - f) % 2 ^ 32 < 2 ^ 31 → (endEntry s host id).home.floors.get? host = some id) ∧
    (∀ f, f < 2 ^ 32 → s.home.floors.get? host = some f →
      ((id + 2 ^ 32 - f) % 2 ^ 32 = 0 ∨ 2 ^ 31 ≤ (id + 2 ^ 32 - f) % 2 ^ 32) →
      (endEntry s host id).home.floors.get? host = some f) ∧
    (∀ h, h ≠ host → (endEntry s host id).home.floors.get? h = s.home.floors.get? h)

/-! ## The whole machine -/

/-- Once the power-loss sequence runs, or the 100 MHz reference is gone, no message has an effect, on whatever port it arrives
and whatever it is (R378, R396). Choices of the model that it rests on: log entry 11. -/
def Obligations.NoMessageActsWhileThePackageStops : Prop :=
  ∀ (s : State) (c : Instr) (p : Nat) (m : Msg), c.carried = some (p, m) →
    (s.power.losing.isSome = true ∨ s.power.halted = true) → exec c s = .next (after s s)

/-- What the operations that commands share leave unchanged (R9, R350, R367, R449). Every object stored reads as stored, every
other object reads as before, and the list of stored objects keeps its canonical form, which it has after reset. Storing an
object, counting, posting an event, and the answer of a write change the dictionary alone; charging a budget changes the
dictionary and the traffic manager alone; queuing a message changes the traffic manager alone; a stored line and a forgotten
tile change the tier alone; a write of local memory changes the compute cores alone; an extent, a transaction, a link, a core
and a partition change their own part alone. -/
def Obligations.SharedOperationsChangeOnlyTheirPart : Prop :=
  SMap.wf State.reset.dict.objs = true ∧
  (∀ (s : State) (o i v : Nat), SMap.wf s.dict.objs = true → i < 2 ^ 64 →
    getObj (setObj s o i v) o i = v ∧ SMap.wf (setObj s o i v).dict.objs = true ∧
    setObj s o i v = { s with dict := (setObj s o i v).dict } ∧
    ∀ o' i', i' < 2 ^ 64 → (o' ≠ o ∨ i' ≠ i) → getObj (setObj s o i v) o' i' = getObj s o' i') ∧
  (∀ (s : State) (code payload : Nat) (comp : Option Nat),
    post s code comp payload = { s with dict := (post s code comp payload).dict }) ∧
  (∀ (s : State) (o i n : Nat), addErr s o i n = { s with dict := (addErr s o i n).dict } ∧
    addStat s o i n = { s with dict := (addStat s o i n).dict }) ∧
  (∀ (s : State) (w : Requester) (o v : Nat), reply s w o v = { s with dict := (reply s w o v).dict } ∧
    setStatus s w o v = { s with dict := (setStatus s w o v).dict } ∧
    setStaged s w o v = { s with dict := (setStaged s w o v).dict }) ∧
  (∀ (s : State) (r q a n : Nat), charge s r q a n = { s with dict := (charge s r q a n).dict, tm := (charge s r q a n).tm }) ∧
  (∀ (s : State) (p : Nat) (m : Msg), emit s p m = { s with tm := (emit s p m).tm }) ∧
  (∀ (s : State) (line tile : Nat) (d : LineBits), storeLine s line d = { s with tier := (storeLine s line d).tier } ∧
    clearTile s tile = { s with tier := (clearTile s tile).tier }) ∧
  (∀ (s : State) (a n v : Nat), writeLoc s a n v = { s with compute := (writeLoc s a n v).compute }) ∧
  (∀ (s : State) (i : Nat) (e : Extent), setExt s i e = { s with home := (setExt s i e).home }) ∧
  (∀ (s : State) (line : Nat) (t : Txn), putTxn s line t = { s with home := (putTxn s line t).home }) ∧
  (∀ (s : State) (p : Nat) (l : Link), setLink s p l = { s with links := (setLink s p l).links }) ∧
  (∀ (s : State) (c : Nat) (k : Core), setCore s c k = { s with compute := (setCore s c k).compute }) ∧
  (∀ (s : State) (p : Nat) (x : Part), putPart s p x = { s with search := (putPart s p x).search })

/-! ## Encodings -/

/-- Messages and records read back from their encodings. Every message reads back, with every field at every value that its place
in the header admits (R30), and every slot 0 with every field at every value that its place admits (R287). Extents, handoff
records, snoop-filter entries and ledger entries read back from their bytes (the layouts of 01, 09, 03 and 02); a ledger entry's
age starts at its arrival (R307), and an extent's bytes hold neither the mask of its slots nor what its drain has done so far. -/
def Obligations.MessagesAndRecordsReadBack : Prop :=
  (∀ m : Msg, m.wf = true → Msg.ofSlots m.header m.data = m ∧ m.slots.length = m.slotCount) ∧
  (∀ z : Slot0, z.seq < 2 ^ 12 → z.load < 2 ^ 4 → z.ackSeq < 2 ^ 12 → z.keyPhase < 2 → z.cont < 2 ^ 3 → z.attempt < 2 ^ 4 →
    z.credits < 2 ^ 48 → z.tag < 2 ^ 128 → z.crc < 2 ^ 32 → Slot0.ofSlot z.toSlot = z) ∧
  (∀ e : Extent, e.base < 2 ^ 31 → e.length < 2 ^ 31 → e.state < 8 → e.comp < 128 → e.owner < 1024 → e.rights < 16 →
    e.backing < 4 → e.tileDesc < 256 → e.stripeSet < 256 → e.drainUs < 2 ^ 16 → e.generation < 2 ^ 32 →
    Extent.ofNat e.toNat = { e with drainAt := none, marked := 0, slotMask := 0 }) ∧
  (∀ r : Rec, r.state < 16 → r.comp < 128 → r.owner < 1024 → r.generation < 2 ^ 32 → r.producer < 1024 → r.consumer < 1024 →
    r.target < 4096 → r.lastFunction < 16 → r.lastHost < 1024 → r.firstTile < 2 ^ 31 → r.tiles < 2 ^ 32 →
    r.requestTag < 2 ^ 64 → r.fillLines < 2 ^ 32 → r.openedAt < 2 ^ 32 → r.stateAt < 2 ^ 32 → r.producerInfo < 2 ^ 128 →
    Rec.ofNat r.toNat = { r with offerEnd := none }) ∧
  (∀ (e : FEntry) (line : Nat), e.mode < 4 → (e.mode = 2 → e.ptrs = []) → e.ptrs.length ≤ 4 → (∀ h ∈ e.ptrs, h < 1024) →
    e.comp < 128 → e.seq < 2 ^ 32 → FEntry.ofNat (e.toNat line) = some e) ∧
  (∀ (e : LEntry) (host id t : Nat), e.state < 4 → e.comp < 128 → e.line < 2 ^ 40 → e.word < 16 → e.aop < 16 → e.status < 16 →
    e.result < 2 ^ 64 → LEntry.ofNat (e.toNat host id) t = some { e with stamp := t })

/-! ## The addressed RAMs -/

/-- A stored line reads as it was stored, and every byte of the fast tier outside its 128 bytes reads as before; a forgotten tile
reads as zeros, and every byte outside its 65,536 bytes reads as before; a write of a core's local memory stores its bytes that
lie in that memory (log entry 25), and every other byte reads as before. The fast tier and the local memories have their
canonical form after reset, and the operations that write them keep it: addresses rise, and no byte that reads as an unlisted
one is listed (log entry 3). -/
def Obligations.RamsReadAsWritten : Prop :=
  (∀ (s : State) (line : Nat) (d : LineBits), lineNat (storeLine s line d) line = d.toNat ∧
    ∀ a, (a < line * 128 ∨ line * 128 + 128 ≤ a) →
      Memory.readByte (storeLine s line d).tier.mem a = Memory.readByte s.tier.mem a) ∧
  (∀ (s : State) (tile a : Nat), Memory.readByte (clearTile s tile).tier.mem a =
    if tile * 65536 ≤ a ∧ a < tile * 65536 + 65536 then 0 else Memory.readByte s.tier.mem a) ∧
  (∀ (s : State) (a n v b : Nat), Memory.readByte (writeLoc s a n v).compute.loc b =
    if a ≤ b ∧ b < a + locLen a n then BitVec.ofNat 8 (v / 256 ^ (b - a)) else Memory.readByte s.compute.loc b) ∧
  MemoriesWf State.reset ∧
  ∀ s : State, MemoriesWf s →
    (∀ line d, MemoriesWf (storeLine s line d)) ∧ (∀ tile, MemoriesWf (clearTile s tile)) ∧
    (∀ a n v, MemoriesWf (writeLoc s a n v)) ∧ (∀ c, MemoriesWf (clearLocal s c))
end

