-- ==== Sys2Proof/Laws/Bits.lean ====
section
/-! SUPPORT. Fields of packed numbers: what is packed reads back, and a replaced field leaves the others. -/

namespace Sys2Proof.Machine

/-- The first field of a packed list. -/
theorem bits_pack_head (w v : Nat) (r : List (Nat × Nat)) : bits (pack ((w, v) :: r)) 0 w = v % 2 ^ w := by
  simp only [bits, pack, Nat.shiftRight_zero, Nat.add_mul_mod_self_left, Nat.mod_mod]

/-- Fields above the first one are fields of the rest. -/
theorem bits_pack_skip (w v lo len : Nat) (r : List (Nat × Nat)) (h : w ≤ lo) :
    bits (pack ((w, v) :: r)) lo len = bits (pack r) (lo - w) len := by
  obtain ⟨k, rfl⟩ := Nat.exists_eq_add_of_le h
  simp only [bits, pack, Nat.shiftRight_eq_div_pow, Nat.add_sub_cancel_left, Nat.pow_add]
  rw [← Nat.div_div_eq_div_mul, Nat.add_mul_div_left _ _ (Nat.two_pow_pos w),
    Nat.div_eq_of_lt (Nat.mod_lt _ (Nat.two_pow_pos w)), Nat.zero_add]

/-- A single bit is a field of one bit. -/
theorem bit_eq_bits (v i : Nat) : bit v i = decide (bits v i 1 = 1) := rfl

/-- A packed list stays below the sum of its widths. -/
theorem pack_lt (l : List (Nat × Nat)) : pack l < 2 ^ (l.map Prod.fst).sum := by
  induction l with
  | nil => simp [pack]
  | cons x r ih =>
    obtain ⟨w, v⟩ := x
    simp only [pack, List.map_cons, List.sum_cons, Nat.pow_add]
    have h1 := Nat.mod_lt v (Nat.two_pow_pos w)
    calc v % 2 ^ w + 2 ^ w * pack r < 2 ^ w + 2 ^ w * pack r := Nat.add_lt_add_right h1 _
      _ = 2 ^ w * (pack r + 1) := by ring
      _ ≤ 2 ^ w * 2 ^ (r.map Prod.fst).sum := Nat.mul_le_mul_left _ ih

/-- A replaced field reads as it was replaced. -/
theorem bits_setBits_same (v lo len x : Nat) : bits (setBits v lo len x) lo len = x % 2 ^ len := by
  simp only [bits, setBits, Nat.shiftRight_eq_div_pow]
  have e : v % 2 ^ lo + x % 2 ^ len * 2 ^ lo + v / 2 ^ (lo + len) * 2 ^ (lo + len) =
      v % 2 ^ lo + 2 ^ lo * (x % 2 ^ len + 2 ^ len * (v / 2 ^ (lo + len))) := by
    simp only [Nat.pow_add]; ring
  rw [e, Nat.add_mul_div_left _ _ (Nat.two_pow_pos lo), Nat.div_eq_of_lt (Nat.mod_lt _ (Nat.two_pow_pos lo)),
    Nat.zero_add, Nat.add_mul_mod_self_left, Nat.mod_mod]

/-- A field above a replaced one reads as before. -/
theorem bits_setBits_above (v lo len x a n : Nat) (h : lo + len ≤ a) : bits (setBits v lo len x) a n = bits v a n := by
  obtain ⟨k, rfl⟩ := Nat.exists_eq_add_of_le h
  simp only [bits, setBits, Nat.shiftRight_eq_div_pow]
  have h1 : v % 2 ^ lo + x % 2 ^ len * 2 ^ lo < 2 ^ (lo + len) := by
    have a1 := Nat.mod_lt v (Nat.two_pow_pos lo)
    have a2 : x % 2 ^ len + 1 ≤ 2 ^ len := Nat.mod_lt x (Nat.two_pow_pos len)
    calc v % 2 ^ lo + x % 2 ^ len * 2 ^ lo < 2 ^ lo + x % 2 ^ len * 2 ^ lo := Nat.add_lt_add_right a1 _
      _ = (x % 2 ^ len + 1) * 2 ^ lo := by ring
      _ ≤ 2 ^ len * 2 ^ lo := Nat.mul_le_mul_right _ a2
      _ = 2 ^ (lo + len) := by rw [Nat.pow_add, Nat.mul_comm]
  rw [Nat.pow_add 2 (lo + len) k, ← Nat.div_div_eq_div_mul, ← Nat.div_div_eq_div_mul,
    Nat.mul_comm (v / 2 ^ (lo + len)), Nat.add_mul_div_left _ _ (Nat.two_pow_pos (lo + len)), Nat.div_eq_of_lt h1,
    Nat.zero_add]

/-- A field below a replaced one reads as before. -/
theorem bits_setBits_below (v lo len x a n : Nat) (h : a + n ≤ lo) : bits (setBits v lo len x) a n = bits v a n := by
  obtain ⟨k, rfl⟩ := Nat.exists_eq_add_of_le h
  simp only [bits, setBits, Nat.shiftRight_eq_div_pow]
  have e : v % 2 ^ (a + n + k) + x % 2 ^ len * 2 ^ (a + n + k) + v / 2 ^ (a + n + k + len) * 2 ^ (a + n + k + len) =
      v % 2 ^ (a + n + k) + 2 ^ a * (2 ^ n * (2 ^ k * (x % 2 ^ len + v / 2 ^ (a + n + k + len) * 2 ^ len))) := by
    simp only [Nat.pow_add]; ring
  rw [e, Nat.add_mul_div_left _ _ (Nat.two_pow_pos a), Nat.add_mul_mod_self_left,
    show (2 : Nat) ^ (a + n + k) = 2 ^ a * 2 ^ (n + k) by rw [← Nat.pow_add]; congr 1; omega,
    Nat.mod_mul_right_div_self, Nat.mod_mod_of_dvd]
  exact Dvd.intro _ (Nat.pow_add 2 n k).symm

/-- A bit outside a replaced field reads as before. -/
theorem bit_setBits_outside (v lo len x i : Nat) (h : i < lo ∨ lo + len ≤ i) : bit (setBits v lo len x) i = bit v i := by
  rw [bit_eq_bits, bit_eq_bits]
  rcases h with h | h
  · rw [bits_setBits_below _ _ _ _ _ _ (by omega)]
  · rw [bits_setBits_above _ _ _ _ _ _ h]

/-- A message of a service row has the row's function. -/
theorem func_withFunc (m : Msg) (op k : Nat) (h : k < 16) : (m.withFunc op k).func = k := by
  simp only [Msg.withFunc, Msg.func, Msg.fld, bits_setBits_same]
  exact Nat.mod_eq_of_lt h

/-- A message of a twin-range row with a step has the row's step. -/
theorem step_withStep (m : Msg) (op k : Nat) (h : k < 4) : (m.withStep op k).fld 0 2 = k := by
  simp only [Msg.withStep, Msg.fld, bits_setBits_same]
  exact Nat.mod_eq_of_lt h

/-- Fields that begin at or above a bit add a multiple of its power of two. -/
theorem keepFields_above (v n : Nat) (r : List (Nat × Nat)) (h : ∀ f ∈ r, n ≤ f.1) : ∃ k, keepFields v r = 2 ^ n * k := by
  induction r with
  | nil => exact ⟨0, rfl⟩
  | cons f r ih =>
    obtain ⟨k, hk⟩ := ih (fun g hg => h g (List.mem_cons_of_mem _ hg))
    obtain ⟨j, hj⟩ := Nat.exists_eq_add_of_le (h f List.mem_cons_self)
    refine ⟨bits v f.1 f.2 * 2 ^ j + k, ?_⟩
    unfold keepFields at *
    rw [List.map_cons, List.sum_cons, hk, hj, Nat.pow_add]
    ring

/-- A part of the first field of a received message's bytes is as it was sent. -/
theorem bits_keepFields_head (v n lo len : Nat) (r : List (Nat × Nat)) (hl : lo + len ≤ n) (h : ∀ f ∈ r, n ≤ f.1) :
    bits (keepFields v ((0, n) :: r)) lo len = bits v lo len := by
  obtain ⟨k, hk⟩ := keepFields_above v n r h
  obtain ⟨j, rfl⟩ := Nat.exists_eq_add_of_le hl
  have e : keepFields v ((0, lo + len + j) :: r) = v % 2 ^ (lo + len + j) + 2 ^ lo * (2 ^ len * (2 ^ j * k)) := by
    have : keepFields v ((0, lo + len + j) :: r) = bits v 0 (lo + len + j) * 2 ^ 0 + keepFields v r := rfl
    rw [this, hk]
    simp only [bits, Nat.shiftRight_zero, Nat.pow_zero, Nat.mul_one, Nat.pow_add]
    ring
  rw [e]
  simp only [bits, Nat.shiftRight_eq_div_pow]
  rw [Nat.add_mul_div_left _ _ (Nat.two_pow_pos lo), Nat.add_mul_mod_self_left, Nat.add_assoc lo, Nat.pow_add,
    Nat.mod_mul_right_div_self, Nat.pow_add, Nat.mod_mul_right_mod]

/-- A service message of a row is received with the row's function. -/
theorem func_heard (m : Msg) (op k : Nat) (hop : op = opSearch ∨ op = opHandoff ∨ op = opDoorbell ∨ op = opMgmt)
    (h : k < 16) : (m.withFunc op k).heard.func = k := by
  have e : (m.withFunc op k).heard.func = bits (keepFields (m.withFunc op k).body (m.withFunc op k).bodyFields) 8 4 := by
    rcases hop with rfl | rfl | rfl | rfl <;> rfl
  have key : ∃ n r, (m.withFunc op k).bodyFields = (0, n) :: r ∧ 12 ≤ n ∧ ∀ f ∈ r, n ≤ f.1 := by
    rcases hop with rfl | rfl | rfl | rfl
    · refine ⟨14, [(16, 4), (24, 6), (32, 6), (40, 9)] ++ if (m.withFunc opSearch k).func = 1 then [] else [(64, 32)], rfl,
        by decide, ?_⟩
      split <;> simp
    · exact ⟨12, _, rfl, by decide, by simp⟩
    · have hb : (m.withFunc opDoorbell k).bodyFields =
          if (m.withFunc opDoorbell k).func = 2 then [(0, 12), (16, 13), (32, 16)] else [(0, 12), (16, 8), (32, 128)] := rfl
      rw [hb]
      split <;> exact ⟨12, _, rfl, by decide, by simp⟩
    · exact ⟨12, _, rfl, by decide, by simp⟩
  obtain ⟨n, r, h1, h2, h3⟩ := key
  rw [e, h1, bits_keepFields_head _ _ _ _ _ (by omega) h3]
  exact func_withFunc m op k h

/-- A twin-range message of a row with a step is received with the row's step. -/
theorem step_heard (m : Msg) (op k : Nat) (hop : op = opTwDetach ∨ op = opTwCatchup) (h : k < 4) :
    (m.withStep op k).heard.fld 0 2 = k := by
  have key : ∃ r, (m.withStep op k).bodyFields = (0, 2) :: r ∧ ∀ f ∈ r, 2 ≤ f.1 := by
    rcases hop with rfl | rfl <;> exact ⟨_, rfl, by simp⟩
  obtain ⟨r, h1, h2⟩ := key
  have e : (m.withStep op k).heard.fld 0 2 = bits (keepFields (m.withStep op k).body (m.withStep op k).bodyFields) 0 2 := by
    rcases hop with rfl | rfl <;> rfl
  rw [e, h1, bits_keepFields_head _ _ _ _ _ (by decide) h2]
  exact step_withStep m op k h

/-- A replaced field keeps a number below a power of two that covers the field. -/
theorem setBits_lt (v lo len x n : Nat) (h : v < 2 ^ n) (hn : lo + len ≤ n) : setBits v lo len x < 2 ^ n := by
  obtain ⟨k, rfl⟩ := Nat.exists_eq_add_of_le hn
  have h1 : v / 2 ^ (lo + len) < 2 ^ k := by
    rw [Nat.div_lt_iff_lt_mul (Nat.two_pow_pos _), ← Nat.pow_add, Nat.add_comm k]; exact h
  have a1 := Nat.mod_lt v (Nat.two_pow_pos lo)
  have a2 : x % 2 ^ len + 1 ≤ 2 ^ len := Nat.mod_lt x (Nat.two_pow_pos len)
  have a3 : v / 2 ^ (lo + len) + 1 ≤ 2 ^ k := h1
  simp only [setBits, Nat.shiftRight_eq_div_pow]
  calc v % 2 ^ lo + x % 2 ^ len * 2 ^ lo + v / 2 ^ (lo + len) * 2 ^ (lo + len)
      < 2 ^ lo + x % 2 ^ len * 2 ^ lo + v / 2 ^ (lo + len) * 2 ^ (lo + len) := by omega
    _ = (x % 2 ^ len + 1) * 2 ^ lo + v / 2 ^ (lo + len) * 2 ^ (lo + len) := by ring
    _ ≤ 2 ^ len * 2 ^ lo + v / 2 ^ (lo + len) * 2 ^ (lo + len) := by gcongr
    _ = (v / 2 ^ (lo + len) + 1) * 2 ^ (lo + len) := by rw [Nat.pow_add]; ring
    _ ≤ 2 ^ k * 2 ^ (lo + len) := Nat.mul_le_mul_right _ a3
    _ = 2 ^ (lo + len + k) := by rw [← Nat.pow_add, Nat.add_comm]

/-- A row's opcode keeps a message well-formed. -/
theorem Msg.wf_withOp (m : Msg) (op : Nat) (h : m.wf = true) (ho : op < 256) : (m.withOp op).wf = true := by
  simp_all [Msg.wf, Msg.withOp]

/-- A row's opcode and a replaced field of header bytes 12-31 keep a message well-formed. -/
theorem Msg.wf_setBody (m : Msg) (op lo len x : Nat) (h : m.wf = true) (ho : op < 256) (hl : lo + len ≤ 160) :
    ({ m with opcode := op, body := setBits m.body lo len x } : Msg).wf = true := by
  have hb := setBits_lt m.body lo len x 160 (by simp_all [Msg.wf]) hl
  simp_all [Msg.wf]

/-- A service row's function keeps a message well-formed. -/
theorem Msg.wf_withFunc (m : Msg) (op f : Nat) (h : m.wf = true) (ho : op < 256) : (m.withFunc op f).wf = true :=
  Msg.wf_setBody m op 8 4 f h ho (by decide)

/-- A twin-range row's step keeps a message well-formed. -/
theorem Msg.wf_withStep (m : Msg) (op k : Nat) (h : m.wf = true) (ho : op < 256) : (m.withStep op k).wf = true :=
  Msg.wf_setBody m op 0 2 k h ho (by decide)

/-- One bit step stays in 32 bits. -/
theorem crcBit_lt (p c : Nat) (hp : p < 2 ^ 32) (hc : c < 2 ^ 32) : crcBit p c < 2 ^ 32 := by
  unfold crcBit
  split
  · exact Nat.xor_lt_two_pow (by omega) hp
  · omega

/-- One byte step stays in 32 bits. -/
theorem crcByte_lt (p c b : Nat) (hp : p < 2 ^ 32) (hc : c < 2 ^ 32) (hb : b < 2 ^ 32) : crcByte p c b < 2 ^ 32 := by
  unfold crcByte
  have h0 := Nat.xor_lt_two_pow hc hb
  repeat apply crcBit_lt _ _ hp
  exact h0

/-- A CRC stays in 32 bits. -/
theorem crcNat_lt (p : Nat) (hp : p < 2 ^ 32) (n : Nat) : ∀ v c, c < 2 ^ 32 → crcNat p v n c < 2 ^ 32 := by
  induction n with
  | zero => exact fun _ _ h => h
  | succ n ih => exact fun v c h => ih _ _ (crcByte_lt _ _ _ hp h (by omega))

/-- A flit's CRC fits its field (R287). -/
theorem flitCrc_lt (h : Slot) (l : List Slot) : flitCrc h l < 2 ^ 32 :=
  Nat.xor_lt_two_pow (crcNat_lt _ (by decide) _ _ _ (by decide)) (by decide)

/-- A slot of 256 packed bits is the packed number. -/
theorem toNat_pack (l : List (Nat × Nat)) (h : (l.map Prod.fst).sum = 256) : (BitVec.ofNat 256 (pack l)).toNat = pack l := by
  rw [BitVec.toNat_ofNat]
  exact Nat.mod_eq_of_lt (h ▸ pack_lt l)

/-- Slot 0 as a number. -/
theorem toSlot_toNat (z : Slot0) : z.toSlot.toNat = pack [(12, z.seq), (4, z.load), (12, z.ackSeq), (1, b2n z.nak), (1, b2n z.idle),
    (1, z.keyPhase), (1, b2n z.wide), (3, z.cont), (1, b2n z.cut), (4, z.attempt), (8, 0), (48, z.credits),
    (128, z.tag), (32, z.crc)] := by
  unfold Slot0.toSlot
  rw [toNat_pack _ (by simp)]

/-- Packed lists one after the other. -/
theorem pack_append (l r : List (Nat × Nat)) : pack (l ++ r) = pack l + 2 ^ (l.map Prod.fst).sum * pack r := by
  induction l with
  | nil => simp [pack]
  | cons x t ih =>
    obtain ⟨w, v⟩ := x
    simp only [List.cons_append, pack, ih, List.map_cons, List.sum_cons, Nat.pow_add]
    ring

/-- The bits of the first of two packed lists. -/
theorem bits_pack_append (l r : List (Nat × Nat)) (n : Nat) (h : (l.map Prod.fst).sum = n) :
    bits (pack (l ++ r)) 0 n = bits (pack l) 0 n := by
  rw [pack_append, h]
  simp only [bits, Nat.shiftRight_zero, Nat.add_mul_mod_self_left]

/-- Bytes 0-27 of slot 0 do not depend on its CRC. -/
theorem low_crc (z : Slot0) (c : Nat) : bits ({ z with crc := c } : Slot0).toSlot.toNat 0 224 = bits z.toSlot.toNat 0 224 := by
  have key : ∀ c : Nat, bits (pack ([(12, z.seq), (4, z.load), (12, z.ackSeq), (1, b2n z.nak), (1, b2n z.idle),
      (1, z.keyPhase), (1, b2n z.wide), (3, z.cont), (1, b2n z.cut), (4, z.attempt), (8, 0), (48, z.credits),
      (128, z.tag)] ++ [(32, c)])) 0 224 = _ := fun c => bits_pack_append _ [(32, c)] 224 (by simp)
  rw [toSlot_toNat, toSlot_toNat]
  exact (key c).trans (key z.crc).symm

/-- A flit's CRC does not depend on the CRC field (R287). -/
theorem flitCrc_crc (z : Slot0) (l : List Slot) (c : Nat) : flitCrc ({ z with crc := c } : Slot0).toSlot l = flitCrc z.toSlot l := by
  unfold flitCrc
  rw [low_crc]

/-- The CRC field reads back. -/
theorem ofSlot_crc (z : Slot0) : (Slot0.ofSlot z.toSlot).crc = z.crc % 2 ^ 32 := by
  show bits z.toSlot.toNat 224 32 = _
  rw [toSlot_toNat]
  simp (disch := decide) only [bits_pack_skip, Nat.reduceSub, bits_pack_head]

end Sys2Proof.Machine
end

