-- ==== Sys2Proof/Laws/Memory.lean ====
section
/-! SUPPORT. Memories: the canonical form is kept, a write reads back, and every other byte is unchanged. Sparse maps: what is
put is found, and every other key is unchanged. -/

namespace Sys2Proof.Machine

namespace Memory

/-- The canonical form as two facts about the list. -/
theorem wf_iff (m : Memory) : wf m = true ↔ m.Pairwise (fun x y => x.1 < y.1) ∧ ∀ c ∈ m, c.2 ≠ unlisted := by
  induction m with
  | nil => simp [wf]
  | cons x r ih =>
    obtain ⟨a, v⟩ := x
    cases r with
    | nil => simp [wf]
    | cons y r' =>
      obtain ⟨b, w⟩ := y
      simp only [wf, Bool.and_eq_true, decide_eq_true_eq, ih]
      constructor
      · rintro ⟨⟨h1, h2⟩, h3, h4⟩
        refine ⟨List.pairwise_cons.mpr ⟨?_, h3⟩, ?_⟩
        · intro c hc
          rcases List.mem_cons.mp hc with rfl | hc
          · exact h1
          · exact Nat.lt_trans h1 ((List.pairwise_cons.mp h3).1 c hc)
        · intro c hc
          rcases List.mem_cons.mp hc with rfl | hc
          · exact h2
          · exact h4 c hc
      · rintro ⟨h1, h2⟩
        have h3 := List.pairwise_cons.mp h1
        exact ⟨⟨h3.1 _ (List.mem_cons_self ..), h2 _ (List.mem_cons_self ..)⟩, h3.2,
          fun c hc => h2 c (List.mem_cons_of_mem _ hc)⟩

/-- The pairs of n bytes lie at those bytes, rise, and are not zero. -/
theorem cells_spec (n : Nat) : ∀ a v, (cells a v n).Pairwise (fun x y => x.1 < y.1) ∧
    ∀ c ∈ cells a v n, a ≤ c.1 ∧ c.1 < a + n ∧ c.2 ≠ unlisted := by
  induction n with
  | zero => intro a v; simp [cells]
  | succ n ih =>
    intro a v
    obtain ⟨h1, h2⟩ := ih (a + 1) (v / 256)
    unfold cells
    split
    · exact ⟨h1, fun c hc => ⟨by have := h2 c hc; omega, by have := h2 c hc; omega, (h2 c hc).2.2⟩⟩
    · rename_i hv
      refine ⟨List.pairwise_cons.mpr ⟨fun c hc => by have := h2 c hc; simp only; omega, h1⟩, ?_⟩
      intro c hc
      rcases List.mem_cons.mp hc with rfl | hc
      · refine ⟨Nat.le_refl _, by simp only; omega, ?_⟩
        intro h
        have := congrArg BitVec.toNat h
        simp [unlisted] at this
        omega
      · have := h2 c hc
        exact ⟨by omega, by omega, this.2.2⟩

/-- Three rising parts in rising order are one. -/
theorem wf_parts (m x : Memory) (a n : Nat) (hm : wf m = true) (hx : x.Pairwise (fun x y => x.1 < y.1))
    (hc : ∀ c ∈ x, a ≤ c.1 ∧ c.1 < a + n ∧ c.2 ≠ unlisted) :
    wf (m.filter (fun c => decide (c.1 < a)) ++ x ++ m.filter (fun c => decide (a + n ≤ c.1))) = true := by
  obtain ⟨h1, h2⟩ := (wf_iff m).mp hm
  refine (wf_iff _).mpr ⟨?_, ?_⟩
  · refine List.pairwise_append.mpr ⟨List.pairwise_append.mpr ⟨h1.filter _, hx, ?_⟩, h1.filter _, ?_⟩
    · intro c hcm d hd
      have e1 := of_decide_eq_true (List.mem_filter.mp hcm).2
      have e2 := (hc d hd).1
      omega
    · intro c hcm d hd
      have e2 := of_decide_eq_true (List.mem_filter.mp hd).2
      rcases List.mem_append.mp hcm with hcm | hcm
      · have e1 := of_decide_eq_true (List.mem_filter.mp hcm).2
        omega
      · have e1 := (hc c hcm).2.1
        omega
  · intro c hcm
    rcases List.mem_append.mp hcm with hcm | hcm
    · rcases List.mem_append.mp hcm with hcm | hcm
      · exact h2 c (List.mem_filter.mp hcm).1
      · exact (hc c hcm).2.2
    · exact h2 c (List.mem_filter.mp hcm).1

/-- A write keeps the canonical form. -/
theorem wf_writeNat (m : Memory) (a n v : Nat) (h : wf m = true) : wf (writeNat m a n v) = true :=
  wf_parts m _ a n h (cells_spec n a v).1 (cells_spec n a v).2

/-- A write of one byte keeps the canonical form. -/
theorem wf_writeByte (m : Memory) (a : Nat) (v : Byte) (h : wf m = true) : wf (writeByte m a v) = true :=
  wf_writeNat m a 1 v.toNat h

/-- Clearing bytes keeps the canonical form. -/
theorem wf_clear (m : Memory) (a n : Nat) (h : wf m = true) : wf (clear m a n) = true := by
  have := wf_parts m [] a n h List.Pairwise.nil (by simp)
  rwa [List.append_nil] at this

/-- A byte in the first of two lists, or not listed there. -/
theorem readByte_append (x y : Memory) (a : Nat) (h : ∀ c ∈ x, c.1 ≠ a) : readByte (x ++ y) a = readByte y a := by
  induction x with
  | nil => rfl
  | cons c r ih =>
    obtain ⟨b, v⟩ := c
    have hb : b ≠ a := h _ (List.mem_cons_self ..)
    simp only [List.cons_append, readByte, if_neg hb]
    exact ih (fun c hc => h c (List.mem_cons_of_mem _ hc))

/-- A byte that the second list does not list. -/
theorem readByte_append_left (x y : Memory) (a : Nat) (h : ∀ c ∈ y, c.1 ≠ a) : readByte (x ++ y) a = readByte x a := by
  induction x with
  | nil => simpa [readByte] using readByte_append y [] a h
  | cons c r ih =>
    obtain ⟨b, v⟩ := c
    simp only [List.cons_append, readByte, ih]

/-- Pairs that a filter drops elsewhere leave a byte. -/
theorem readByte_filter (m : Memory) (p : Host.Cell → Bool) (a : Nat) (h : ∀ v, p (a, v) = true) :
    readByte (m.filter p) a = readByte m a := by
  induction m with
  | nil => rfl
  | cons c r ih =>
    obtain ⟨b, v⟩ := c
    by_cases hb : b = a
    · subst hb
      simp [List.filter_cons, h, readByte]
    · by_cases hp : p (b, v) = true
      · simp [List.filter_cons, hp, readByte, hb, ih]
      · simp [List.filter_cons, hp, readByte, hb, ih]

/-- The bytes of a number, listed. -/
theorem readByte_cells (n : Nat) : ∀ a v b, a ≤ b → b < a + n →
    readByte (cells a v n) b = BitVec.ofNat 8 (v / 256 ^ (b - a)) := by
  induction n with
  | zero => intro a v b h1 h2; omega
  | succ n ih =>
    intro a v b h1 h2
    have step : ∀ b', a + 1 ≤ b' → b' < a + 1 + n →
        readByte (cells (a + 1) (v / 256) n) b' = BitVec.ofNat 8 (v / 256 ^ (b' - a)) := by
      intro b' g1 g2
      rw [ih (a + 1) (v / 256) b' g1 g2, Nat.div_div_eq_div_mul,
        show b' - a = (b' - (a + 1)) + 1 by omega, Nat.pow_succ, Nat.mul_comm]
    unfold cells
    by_cases hb : b = a
    · subst hb
      split
      · rename_i hv
        rw [← List.append_nil (cells (b + 1) (v / 256) n), readByte_append]
        · simp only [readByte, unlisted, Nat.sub_self, Nat.pow_zero, Nat.div_one]
          apply BitVec.eq_of_toNat_eq
          simp [hv]
        · intro c hc
          have := ((cells_spec n (b + 1) (v / 256)).2 c hc).1
          omega
      · simp [readByte]
    · split
      · exact step b (by omega) (by omega)
      · simp only [readByte, if_neg (Ne.symm hb)]
        exact step b (by omega) (by omega)

/-- A written byte reads as it was written; every other byte reads as before. -/
theorem readByte_writeNat (m : Memory) (a n v b : Nat) : readByte (writeNat m a n v) b =
    if a ≤ b ∧ b < a + n then BitVec.ofNat 8 (v / 256 ^ (b - a)) else readByte m b := by
  have hc := (cells_spec n a v).2
  unfold writeNat
  by_cases h1 : b < a
  · rw [if_neg (by omega), readByte_append_left, readByte_append_left, readByte_filter]
    · intro w; simp [h1]
    · intro c hcm; have := (hc c hcm).1; omega
    · intro c hcm; have := of_decide_eq_true (List.mem_filter.mp hcm).2; omega
  · by_cases h2 : b < a + n
    · rw [if_pos ⟨by omega, h2⟩, readByte_append_left, readByte_append, readByte_cells n a v b (by omega) h2]
      · intro c hcm; have := of_decide_eq_true (List.mem_filter.mp hcm).2; omega
      · intro c hcm; have := of_decide_eq_true (List.mem_filter.mp hcm).2; omega
    · rw [if_neg (by omega), readByte_append, readByte_filter]
      · intro w; simp; omega
      · intro c hcm
        rcases List.mem_append.mp hcm with hcm | hcm
        · have := of_decide_eq_true (List.mem_filter.mp hcm).2; omega
        · have := (hc c hcm).2.1; omega

/-- A cleared byte reads as an unlisted one; every other byte reads as before. -/
theorem readByte_clear (m : Memory) (a n b : Nat) : readByte (clear m a n) b =
    if a ≤ b ∧ b < a + n then unlisted else readByte m b := by
  unfold clear
  by_cases h1 : b < a
  · rw [if_neg (by omega), readByte_append_left, readByte_filter]
    · intro w; simp [h1]
    · intro c hcm; have := of_decide_eq_true (List.mem_filter.mp hcm).2; omega
  · rw [readByte_append]
    · by_cases h2 : b < a + n
      · rw [if_pos ⟨by omega, h2⟩, ← List.append_nil (m.filter _), readByte_append]
        · rfl
        · intro c hcm; have := of_decide_eq_true (List.mem_filter.mp hcm).2; omega
      · rw [if_neg (by omega), readByte_filter]
        intro w; simp; omega
    · intro c hcm; have := of_decide_eq_true (List.mem_filter.mp hcm).2; omega

/-- A written number reads back, cut to its bytes. -/
theorem readNat_writeNat (m : Memory) (a n v : Nat) : readNat (writeNat m a n v) a n = v % 256 ^ n := by
  have key : ∀ k i, i + k = n → readNat (writeNat m a n v) (a + i) k = v / 256 ^ i % 256 ^ k := by
    intro k
    induction k with
    | zero => intro i _; simp [readNat, Nat.mod_one]
    | succ k ih =>
      intro i hi
      have e := readByte_writeNat m a n v (a + i)
      rw [if_pos ⟨by omega, by omega⟩] at e
      simp only [readNat, e, Nat.add_assoc, ih (i + 1) (by omega), Nat.add_sub_cancel_left, BitVec.toNat_ofNat]
      rw [show (256 : Nat) ^ (k + 1) = 256 * 256 ^ k by ring, Nat.mod_mul, Nat.pow_succ 256 i, ← Nat.div_div_eq_div_mul]
  simpa using key n 0 (Nat.zero_add n)

end Memory

namespace SMap

variable {α : Type}

/-- What is put is found. -/
@[simp] theorem get?_put_same (m : SMap α) (k : Nat) (v : α) : (put m k v).get? k = some v := by
  induction m with
  | nil => simp [put, get?]
  | cons x r ih =>
    obtain ⟨a, w⟩ := x
    unfold put
    split
    · simp [get?]
    · split
      · simp [get?]
      · rename_i h1 h2
        simp [get?, Ne.symm h2, ih]

/-- A put leaves every other key. -/
theorem get?_put_other (m : SMap α) (k j : Nat) (v : α) (h : j ≠ k) : (put m k v).get? j = m.get? j := by
  induction m with
  | nil => simp [put, get?, Ne.symm h]
  | cons x r ih =>
    obtain ⟨a, w⟩ := x
    unfold put
    split
    · simp [get?, Ne.symm h]
    · split
      · rename_i h1 h2
        subst h2
        simp [get?, Ne.symm h]
      · by_cases ha : a = j
        · simp [get?, ha]
        · simp [get?, ha, ih]

/-- A deletion leaves every other key. -/
theorem get?_del_other (m : SMap α) (k j : Nat) (h : j ≠ k) : (del m k).get? j = m.get? j := by
  induction m with
  | nil => rfl
  | cons x r ih =>
    obtain ⟨a, w⟩ := x
    unfold del
    split
    · rename_i ha
      subst ha
      simp [get?, Ne.symm h]
    · by_cases ha : a = j
      · simp [get?, ha]
      · simp [get?, ha, ih]

/-- The canonical form of a map: its keys strictly rise. -/
theorem wf_iff (m : SMap α) : wf m = true ↔ List.Pairwise (fun x y => x.1 < y.1) m := by
  induction m with
  | nil => simp [wf]
  | cons x r ih =>
    obtain ⟨a, v⟩ := x
    cases r with
    | nil => simp [wf]
    | cons y t =>
      obtain ⟨b, w⟩ := y
      simp only [wf, Bool.and_eq_true, decide_eq_true_eq, ih, List.pairwise_cons]
      constructor
      · rintro ⟨h1, h2, h3⟩
        refine ⟨?_, h2, h3⟩
        intro c hc
        rcases List.mem_cons.mp hc with rfl | hc
        · exact h1
        · exact Nat.lt_trans h1 (h2 c hc)
      · rintro ⟨h1, h2, h3⟩
        exact ⟨h1 _ (List.mem_cons_self ..), h2, h3⟩

/-- The keys of a map after a put are the key put and keys from before. -/
theorem mem_put (m : SMap α) (k : Nat) (v : α) (x : Nat × α) (h : x ∈ put m k v) : x.1 = k ∨ x ∈ m := by
  induction m with
  | nil => simp only [put, List.mem_singleton] at h; exact .inl (by rw [h])
  | cons y r ih =>
    obtain ⟨a, w⟩ := y
    unfold put at h
    split at h
    · rcases List.mem_cons.mp h with rfl | h
      · exact .inl rfl
      · exact .inr h
    · split at h
      · rcases List.mem_cons.mp h with rfl | h
        · exact .inl rfl
        · exact .inr (List.mem_cons_of_mem _ h)
      · rcases List.mem_cons.mp h with rfl | h
        · exact .inr (List.mem_cons_self ..)
        · exact (ih h).imp_right (List.mem_cons_of_mem _)

/-- A put keeps the canonical form. -/
theorem wf_put (m : SMap α) (k : Nat) (v : α) (h : wf m = true) : wf (put m k v) = true := by
  rw [wf_iff] at *
  induction m with
  | nil => simp [put]
  | cons y r ih =>
    obtain ⟨a, w⟩ := y
    obtain ⟨h1, h2⟩ := List.pairwise_cons.mp h
    unfold put
    split
    · rename_i hk
      refine List.pairwise_cons.mpr ⟨?_, h⟩
      intro c hc
      rcases List.mem_cons.mp hc with rfl | hc
      · exact hk
      · exact Nat.lt_trans hk (h1 c hc)
    · split
      · rename_i _ hk
        subst hk
        exact List.pairwise_cons.mpr ⟨h1, h2⟩
      · rename_i hk hn
        refine List.pairwise_cons.mpr ⟨?_, ih h2⟩
        intro c hc
        rcases mem_put r k v c hc with hc | hc
        · simp only [hc]; omega
        · exact h1 c hc

/-- A deletion keeps a part of the map. -/
theorem del_sublist (m : SMap α) (k : Nat) : List.Sublist (del m k) m := by
  induction m with
  | nil => exact List.Sublist.refl _
  | cons y r ih =>
    obtain ⟨a, w⟩ := y
    unfold del
    split
    · exact List.sublist_cons_self ..
    · exact ih.cons_cons _

/-- A deletion keeps the canonical form. -/
theorem wf_del (m : SMap α) (k : Nat) (h : wf m = true) : wf (del m k) = true := by
  rw [wf_iff] at *
  exact h.sublist (del_sublist m k)

/-- A key that is not listed is not found. -/
theorem get?_none (m : SMap α) (k : Nat) (h : ∀ x ∈ m, x.1 ≠ k) : m.get? k = none := by
  induction m with
  | nil => rfl
  | cons y r ih =>
    obtain ⟨a, w⟩ := y
    have := h (a, w) (List.mem_cons_self ..)
    simp only at this
    simp only [get?, if_neg this]
    exact ih (fun x hx => h x (List.mem_cons_of_mem _ hx))

/-- In a canonical map, what is deleted is not found. -/
theorem get?_del_same (m : SMap α) (k : Nat) (h : wf m = true) : (del m k).get? k = none := by
  rw [wf_iff] at h
  induction m with
  | nil => rfl
  | cons y r ih =>
    obtain ⟨a, w⟩ := y
    obtain ⟨h1, h2⟩ := List.pairwise_cons.mp h
    unfold del
    split
    · rename_i ha
      subst ha
      exact get?_none _ _ (fun x hx => Nat.ne_of_gt (h1 x hx))
    · rename_i ha
      simp only [get?, if_neg ha]
      exact ih h2

/-- A stored value that differs from the default is listed, and one that equals it is not: the canonical form is kept. -/
theorem wf_setD [DecidableEq α] (m : SMap α) (k : Nat) (d v : α) (h : wf m = true) : wf (setD m k d v) = true := by
  unfold setD
  split
  · exact wf_del m k h
  · exact wf_put m k v h

/-- In a canonical map, a stored value reads as stored. -/
theorem getD_setD_same [DecidableEq α] (m : SMap α) (k : Nat) (d v : α) (h : wf m = true) :
    (setD m k d v).getD k d = v := by
  unfold setD getD
  split
  · rename_i hv
    rw [get?_del_same m k h, hv]
    rfl
  · rw [get?_put_same]
    rfl

/-- Storing a value leaves every other key. -/
theorem getD_setD_other [DecidableEq α] (m : SMap α) (k j : Nat) (d v e : α) (h : j ≠ k) :
    (setD m k d v).getD j e = m.getD j e := by
  unfold setD getD
  split
  · rw [get?_del_other m k j h]
  · rw [get?_put_other m k j v h]

end SMap

end Sys2Proof.Machine
end

