-- ==== Sys2Proof/Laws/Outcome.lean ====
section
/-! SUPPORT. What the operations that every meaning shares can do: the outcome of a command, a write on its transport, a message
on each kind of port, and the issue of a leg. -/

namespace Sys2Proof.Machine

/-! ## Outcomes -/

/-- A meaning's outcome is the state that its effect leaves. -/
theorem done_eq (s t : State) : done s t = .next (after s t) := by simp only [done, after]

/-- Every command answers a next state and leaves the queue. -/
theorem done_next (s t : State) : ∃ u, done s t = .next u ∧ u.pending = s.pending := ⟨_, rfl, rfl⟩

/-- A timed event while local time counts. -/
theorem timed_on (s : State) (f : State → State) (h : clocked s = true) : timed s f = f s := if_pos h

/-- A timed event while local time does not count. -/
theorem timed_off (s : State) (f : State → State) (h : clocked s = false) : timed s f = s := by simp [timed, h]

/-- An event of a block in service. -/
theorem running_on (s : State) (f : State → State) (h : inService s = true) : running s f = f s := if_pos h

/-- An event of a part that has power. -/
theorem powered_on (s : State) (f : State → State) (h : s.power.state ≠ pwOff) : powered s f = f s := if_neg h

/-! ## Writes -/

/-- The row found for an object number is that object's. -/
theorem objRow_obj (o : Nat) (r : ObjRow) (h : objRow o = some r) : r.obj = o := by
  unfold objRow at h
  have := List.find?_some h
  simpa using this

/-- A write that passes its checks has the row of its object. -/
theorem writeCheck_ok (s : State) (a : Access) (l : Nat) (h : (writeCheck s a l).1 = aeOk) :
    ∃ r, writeCheck s a l = (aeOk, some r) ∧ objRow (objNo a.idx a.sub) = some r := by
  unfold writeCheck at *
  dsimp only at *
  cases hr : objRow (objNo a.idx a.sub) with
  | none => simp_all [aeOk, aeNoSubindex, aeNoObject]; split at h <;> simp_all
  | some r =>
    refine ⟨r, ?_, rfl⟩
    simp only [hr] at h ⊢
    split_ifs at h ⊢ <;> simp_all [aeOk, aeNotServing, aeLength, aeRange]

/-- A write that reaches the dictionary, waits for nothing, passes its checks and is accepted by its chapter: it is answered
`OK` in the state that the chapter gives. -/
theorem submit_ok (s t : State) (w : Requester) (a : Access) (ha : a.who = w)
    (h1 : Reaches s w (objNo a.idx a.sub)) (h2 : waitsBehind s w = none) (h3 : holdsNow s = false)
    (h4 : (writeCheck s a (pieceLimit w)).1 = aeOk) (h5 : objNo a.idx a.sub ≠ 0x291102)
    (h6 : ∀ r : ObjRow, objRow (objNo a.idx a.sub) = some r → writeObject ap s a r (a.value % 2 ^ (8 * a.len)) = (aeOk, t)) :
    submit s { access := a } = accessAnswer t { access := a } aeOk := by
  subst ha
  have key : dictWrite ap s { access := a } = accessAnswer t { access := a } aeOk := by
    obtain ⟨r, hr, ho⟩ := writeCheck_ok _ _ _ h4
    simp only [dictWrite, h2, if_neg h5, commitWrite, writeNow, hr, h6 r ho, h3]
    simp [answerOrHold]
  rw [← key]
  unfold submit
  cases hw : a.who with
  | steward => simp only [hw, Reaches] at h1; simp [h1]
  | can => simp only [hw, Reaches] at h1; rcases h1.2 with h | h <;> simp [h1.1, h]
  | inband p c => simp only [hw, Reaches] at h1; simp [h1]

/-- A whole-object command that its chapter accepts. -/
theorem command_ok (s t : State) (w : Requester) (o len v : Nat) (hW : Writable s w o len v) (h5 : o ≠ 0x291102)
    (ho : objNo (o / 2 ^ 8) (o % 2 ^ 8) = o)
    (h6 : ∀ r : ObjRow, objRow o = some r → writeObject ap s (wholeWrite w o len v) r (v % 2 ^ (8 * len)) = (aeOk, t)) :
    done s (command s w o len v) = .next (after s (reply t w o aeOk)) := by
  rw [done_eq]
  have := submit_ok s t w (wholeWrite w o len v) rfl (by simp only [wholeWrite, ho]; exact hW.1) hW.2.1 hW.2.2.1
    hW.2.2.2 (by simp only [wholeWrite, ho]; exact h5)
    (by intro r hr; exact h6 r (by simp only [wholeWrite, ho] at hr; exact hr))
  have e : command s w o len v = submit s { access := wholeWrite w o len v } := rfl
  rw [e, this]
  simp [accessAnswer, reply, wholeWrite]

/-! ## Messages -/

/-- A message that a host port admits goes on its way. -/
theorem receive_admitted (s : State) (p : Nat) (m0 m : Msg) (hm : m = m0.heard) (h : Admits s p m) (hne : m.opcode ≠ opEmpty) :
    receive s p m0 = go (onWay s p m) p m := by
  obtain ⟨⟨⟨a1, a2, a3, a4, a5⟩, b, c⟩, d, e, f⟩ := h
  have : receive s p m0 = hostMessage go s p m := by simp [receive, ← hm, a1, a2, a3, a4, a5, b, hostPortMessage, c]
  rw [this]
  unfold hostMessage
  simp only [if_neg hne, d, e]
  unfold onWay
  by_cases ha : hostAnswer m = true
  · simp [ha, admitMsg]
  · rcases f with f | ⟨f1, f2, f3, f4, f5⟩
    · exact absurd f ha
    · simp [ha, f1, f2, f3, f4, f5, admitMsg]

/-- A message that a host port admits comes from a host. -/
theorem host_of_admits (s : State) (p : Nat) (m : Msg) (h : Admits s p m) : peerIsAgent m.peer = false := by
  have := h.2.2.1
  unfold stepsOneToFour at this
  by_contra hc
  simp at hc
  cases hb : badForm m <;> simp [hb, hc] at this
  split at this <;> simp at this

/-- A request on a line that this ZX964 homes and serves is admitted there. -/
theorem go_line (u : State) (p : Nat) (m : Msg) (hl : HomesLine u m.line) (ha : m.isAddressed = true)
    (hf : peerIsAgent m.peer = false) (h1 : m.opcode ≠ opFence) (h2 : m.opcode ≠ opSnpResp) :
    go u p m = admitAtHome u { m := m, port := some p } := by
  obtain ⟨a, b, c, d⟩ := hl
  simp [go, a, h1, h2, ha, routeReq, b, c, routeOwn, d, fromCore, hf]

/-- A host's request that begins its line's transaction. -/
theorem receive_begins (s : State) (p : Nat) (m0 m : Msg) (hm : m = m0.heard) (v : State) (r : Req) (h : Begins s p m v r)
    (ha : m.isAddressed = true) (h0 : m.opcode ≠ opEmpty) (h1 : m.opcode ≠ opFence) (h2 : m.opcode ≠ opSnpResp)
    (h3 : m.opcode ≠ opWbDirty) (h4 : m.opcode ≠ opEvictClean) :
    receive s p m0 = enqueue v m.line (.ops [r]) := by
  obtain ⟨b1, b2, b3, b4, b5⟩ := h
  rw [receive_admitted _ _ _ _ hm b1 h0, go_line _ _ _ b2 ha (host_of_admits _ _ _ b1) h1 h2]
  unfold admitAtHome
  simp only [h3, h4, or_self, false_and, if_false]
  unfold mergeLookup
  have e1 : (atHome (onWay s p m)) = (onWay s p m).onHome (fun h => { h with admits := h.admits + 1 }) := rfl
  rw [← e1]
  have e2 : (atHome (onWay s p m)).home.groups.find? (fun g => decide (g.line = m.line)) = none := b3
  dsimp only
  rw [e2]
  unfold openGroup
  dsimp only
  rw [if_neg (by simp [b4])]
  have e4 := b5
  unfold homeReq at e4
  simp [groupToHome, e4]

/-- A host's service request for this ZX964. -/
theorem receive_service (s : State) (p : Nat) (m0 m : Msg) (hm : m = m0.heard) (h : Serves s p m) (h0 : m.opcode ≠ opEmpty)
    (h1 : m.opcode ≠ opFence) (h2 : m.opcode ≠ opSnpResp) (h3 : m.isAddressed = false) :
    receive s p m0 = serviceAt (onWay s p m) p m := by
  obtain ⟨ha, q1, q2, q3, q4, q5, q6⟩ := h
  rw [receive_admitted _ _ _ _ hm ha h0]
  rw [q5] at q3 q4
  simp [go, q1, h1, h2, h3, routeService, q2, q3, q4, q5, q6]

/-- A message on a trunk or twin port. -/
theorem receive_fabric (s : State) (p : Nat) (m0 m : Msg) (hm : m = m0.heard) (h : FabricPort s p) :
    receive s p m0 = fabricMessage s p m := by
  obtain ⟨⟨a1, a2, a3, a4, a5⟩, b1, b2, b3, b4⟩ := h
  simp [receive, ← hm, a1, a2, a3, a4, a5, b1, b2]

/-- A twin-range message for this ZX964. -/
theorem receive_twin (s : State) (p : Nat) (n0 n : Msg) (hn : n = n0.heard) (h : ForTwin s p n) (ht : n.isTwin = true)
    (hne : n.opcode ≠ opEmpty) : receive s p n0 = twinHere s p n := by
  obtain ⟨h1, h2, _⟩ := h
  rw [receive_fabric s p n0 n hn h1]
  simp [fabricMessage, hne, h1.2.2.2.1, ht, twinMessage, h1.2.2.2.2, h2]

/-! ## Legs -/

/-- A core that issues a leg: the leg's effect, from the state in which it has issued. -/
theorem issueLeg_issued (s : State) (c kind comp : Nat) (f : State → Nat → Core → Nat → List LRange → State)
    (h : Issues s c kind comp) :
    issueLeg s c kind f = f (issued s c) comp (issuing s c) (legNow s c) (rangesNow s c comp) := by
  obtain ⟨h1, h2, h3, h4, h5, h6, h0, h7, h8⟩ := h
  obtain ⟨q, r, hq⟩ := List.exists_cons_of_ne_nil h4
  unfold issueLeg
  rw [h3, hq]
  dsimp only
  generalize hl : legAt s _ (coreOf s c).pc = l
  have e1 : l = legNow s c := by
    rw [← hl]
    simp only [legNow, hq] <;> rfl
  subst e1
  have e2 : legRanges s c comp (coreOf s c) (legNow s c) = rangesNow s c comp := rfl
  rw [e2, if_pos ⟨h6, h5, by simp [h7], h2, by simp [h0]⟩, h8]
  rfl

/-! ## The tier -/

/-- A posted event leaves the tier. -/
theorem post_tier (s : State) (code payload : Nat) (comp : Option Nat) : (post s code comp payload).tier = s.tier := by
  have h1 : ∀ s a b c, (pushSteward s a b c).tier = s.tier := by intro s a b c; unfold pushSteward; split <;> rfl
  have h2 : ∀ s a b c, (pushCan s a b c).tier = s.tier := by intro s a b c; unfold pushCan; split <;> rfl
  have h3 : ∀ s a b, (overflowNotice s a b).tier = s.tier := by
    intro s a b
    unfold overflowNotice
    simp only [apply_ite State.tier, h1, h2]
    split
    · split <;> split <;> rfl
    · rfl
  unfold post
  simp only
  split <;> simp only [h1, h2, h3]

/-- Charging a budget leaves the tier. -/
theorem charge_tier (s : State) (r q a n : Nat) : (charge s r q a n).tier = s.tier := by
  have h1 : ∀ (s : State) f, (s.onTm f).tier = s.tier := fun _ _ => rfl
  have h2 : ∀ (s : State) a b c, (addStat s a b c).tier = s.tier := fun _ _ _ _ => rfl
  unfold charge
  simp only [apply_ite State.tier, post_tier, h1, h2, ite_self]

/-- A changed slot keeps every slot. -/
theorem updTile_keeps (s : State) (tile t : Nat) (f : Tile → Tile) (h : (tileAt s t).isSome = true) :
    (tileAt (updTile s tile f) t).isSome = true := by
  have key : ∀ m : SMap Tile, (m.get? t).isSome = true → ((m.upd tile f).get? t).isSome = true := by
    intro m
    induction m with
    | nil => exact id
    | cons x r ih =>
      obtain ⟨a, w⟩ := x
      unfold SMap.upd
      split <;> simp only [SMap.get?] <;> split <;> first | exact fun _ => rfl | exact id | exact ih
  exact key _ h

end Sys2Proof.Machine
end

