-- ==== Sys2Proof/Laws/PerInstr.lean ====
section
/-! SUPPORT. One lemma per command: what `MessageShape` says of it. -/

namespace Sys2Proof.Laws.MessageShape

open Sys2Proof Sys2Proof.Machine

/-- A well-formed command that arrives as a message carries a well-formed message on a logical port: every field of the header
in its width, and a slot for each that `ext` counts (R30). -/
def Statement (i : Instr) : Prop :=
  i.wf = true → ∀ p m, i.carried = some (p, m) → p < 256 ∧ m.wf = true

/-- A command that arrives as no message. -/
theorem of_none (i : Instr) (h : i.carried = none) : Statement i := fun _ _ _ e => by simp [h] at e

/-- A row of one opcode. -/
theorem of_op (i : Instr) (port : Nat) (m : Msg) (op : Nat) (hc : i.carried = some (port, m.withOp op))
    (hw : i.wf = (portWf port && m.wf)) (ho : op < 256) : Statement i := by
  intro h p x e
  rw [hc] at e
  obtain ⟨rfl, rfl⟩ := Prod.mk.inj (Option.some.inj e)
  simp only [hw, Bool.and_eq_true, portWf, decide_eq_true_eq] at h
  exact ⟨h.1, Msg.wf_withOp m op h.2 ho⟩

/-- A row of one function of a service. -/
theorem of_func (i : Instr) (port : Nat) (m : Msg) (op f : Nat) (hc : i.carried = some (port, m.withFunc op f))
    (hw : i.wf = (portWf port && m.wf)) (ho : op < 256) : Statement i := by
  intro h p x e
  rw [hc] at e
  obtain ⟨rfl, rfl⟩ := Prod.mk.inj (Option.some.inj e)
  simp only [hw, Bool.and_eq_true, portWf, decide_eq_true_eq] at h
  exact ⟨h.1, Msg.wf_withFunc m op f h.2 ho⟩

/-- A row of one step of the twin range. -/
theorem of_step (i : Instr) (port : Nat) (m : Msg) (op k : Nat) (hc : i.carried = some (port, m.withStep op k))
    (hw : i.wf = (portWf port && m.wf)) (ho : op < 256) : Statement i := by
  intro h p x e
  rw [hc] at e
  obtain ⟨rfl, rfl⟩ := Prod.mk.inj (Option.some.inj e)
  simp only [hw, Bool.and_eq_true, portWf, decide_eq_true_eq] at h
  exact ⟨h.1, Msg.wf_withStep m op k h.2 ho⟩

theorem objectWrite (a : Access) : Statement (.objectWrite a) := of_none _ rfl
theorem governorPeriod : Statement .governorPeriod := of_none _ rfl
theorem bind (who : Requester) : Statement (.bind who) := of_none _ rfl
theorem revoke (who : Requester) : Statement (.revoke who) := of_none _ rfl
theorem restore (who : Requester) : Statement (.restore who) := of_none _ rfl
theorem extentRelease (who : Requester) : Statement (.extentRelease who) := of_none _ rfl
theorem drainComplete (ext : Nat) : Statement (.drainComplete ext) := of_none _ rfl
theorem drainTimerExpiry (ext : Nat) : Statement (.drainTimerExpiry ext) := of_none _ rfl
theorem tileZeroMark (ext : Nat) : Statement (.tileZeroMark ext) := of_none _ rfl
theorem rdShared (port : Nat) (m : Msg) : Statement (.rdShared port m) :=
  of_op _ port m opRdShared rfl rfl (by decide)
theorem rdOwn (port : Nat) (m : Msg) : Statement (.rdOwn port m) :=
  of_op _ port m opRdOwn rfl rfl (by decide)
theorem rdNc (port : Nat) (m : Msg) : Statement (.rdNc port m) :=
  of_op _ port m opRdNc rfl rfl (by decide)
theorem wrNc (port : Nat) (m : Msg) : Statement (.wrNc port m) :=
  of_op _ port m opWrNc rfl rfl (by decide)
theorem wrStash (port : Nat) (m : Msg) : Statement (.wrStash port m) :=
  of_op _ port m opWrStash rfl rfl (by decide)
theorem wbDirty (port : Nat) (m : Msg) : Statement (.wbDirty port m) :=
  of_op _ port m opWbDirty rfl rfl (by decide)
theorem evictClean (port : Nat) (m : Msg) : Statement (.evictClean port m) :=
  of_op _ port m opEvictClean rfl rfl (by decide)
theorem atomic (port : Nat) (m : Msg) : Statement (.atomic port m) :=
  of_op _ port m opAtomic rfl rfl (by decide)
theorem fence (port : Nat) (m : Msg) : Statement (.fence port m) :=
  of_op _ port m opFence rfl rfl (by decide)
theorem milestone (port : Nat) (m : Msg) : Statement (.milestone port m) :=
  of_op _ port m opMilestone rfl rfl (by decide)
theorem snpInv (port : Nat) (m : Msg) : Statement (.snpInv port m) :=
  of_op _ port m opSnpInv rfl rfl (by decide)
theorem snpShare (port : Nat) (m : Msg) : Statement (.snpShare port m) :=
  of_op _ port m opSnpShare rfl rfl (by decide)
theorem stashFill (port : Nat) (m : Msg) : Statement (.stashFill port m) :=
  of_op _ port m opStashFill rfl rfl (by decide)
theorem snpResp (port : Nat) (m : Msg) : Statement (.snpResp port m) :=
  of_op _ port m opSnpResp rfl rfl (by decide)
theorem resp (port : Nat) (m : Msg) : Statement (.resp port m) :=
  of_op _ port m opResp rfl rfl (by decide)
theorem respData (port : Nat) (m : Msg) : Statement (.respData port m) :=
  of_op _ port m opRespData rfl rfl (by decide)
theorem mergeHoldExpiry (line : Nat) : Statement (.mergeHoldExpiry line) := of_none _ rfl
theorem residencyLimit (pos : Nat) : Statement (.residencyLimit pos) := of_none _ rfl
theorem requestTimeout (peer tag : Nat) : Statement (.requestTimeout peer tag) := of_none _ rfl
theorem pathChangeStart (pair newPort cause : Nat) : Statement (.pathChangeStart pair newPort cause) := of_none _ rfl
theorem milestoneTimeout (pair : Nat) : Statement (.milestoneTimeout pair) := of_none _ rfl
theorem ledgerEntryExpiry (host id : Nat) : Statement (.ledgerEntryExpiry host id) := of_none _ rfl
theorem dwellExpiry (line : Nat) : Statement (.dwellExpiry line) := of_none _ rfl
theorem homeTimeout (line : Nat) : Statement (.homeTimeout line) := of_none _ rfl
theorem stashOfferTimeout (line : Nat) : Statement (.stashOfferTimeout line) := of_none _ rfl
theorem tierAccessDone (line errs : Nat) : Statement (.tierAccessDone line errs) := of_none _ rfl
theorem filterWalkComplete : Statement .filterWalkComplete := of_none _ rfl
theorem hostLossHoldExpiry (host : Nat) : Statement (.hostLossHoldExpiry host) := of_none _ rfl
theorem hostDeclareLost (who : Requester) : Statement (.hostDeclareLost who) := of_none _ rfl
theorem readmit (who : Requester) : Statement (.readmit who) := of_none _ rfl
theorem notice (port : Nat) (m : Msg) : Statement (.notice port m) :=
  of_func _ port m opMgmt 3 rfl rfl (by decide)
theorem sharersDropped (who : Requester) : Statement (.sharersDropped who) := of_none _ rfl
theorem trayRequestTimeout (port tag : Nat) : Statement (.trayRequestTimeout port tag) := of_none _ rfl
theorem trayLossHoldExpiry (port : Nat) : Statement (.trayLossHoldExpiry port) := of_none _ rfl
theorem memberDeclareLost (who : Requester) : Statement (.memberDeclareLost who) := of_none _ rfl
theorem replace (who : Requester) : Statement (.replace who) := of_none _ rfl
theorem replaceFillComplete (set member : Nat) : Statement (.replaceFillComplete set member) := of_none _ rfl
theorem trayReadReissue : Statement .trayReadReissue := of_none _ rfl
theorem prefetchFill : Statement .prefetchFill := of_none _ rfl
theorem dirtyWriteback : Statement .dirtyWriteback := of_none _ rfl
theorem flush (who : Requester) : Statement (.flush who) := of_none _ rfl
theorem flushComplete (comp : Nat) : Statement (.flushComplete comp) := of_none _ rfl
theorem cacheQuotaWrite (who : Requester) (tiles : Nat) : Statement (.cacheQuotaWrite who tiles) := of_none _ rfl
theorem windowDescriptorWrite (who : Requester) (value : Nat) : Statement (.windowDescriptorWrite who value) := of_none _ rfl
theorem windowCursorWrite (who : Requester) (value : Nat) : Statement (.windowCursorWrite who value) := of_none _ rfl
theorem windowRepointComplete (comp window : Nat) : Statement (.windowRepointComplete comp window) := of_none _ rfl
theorem regionCreate (who : Requester) : Statement (.regionCreate who) := of_none _ rfl
theorem regionDestroy (who : Requester) : Statement (.regionDestroy who) := of_none _ rfl
theorem eccRecoveryComplete (line : Nat) (ok : Bool) (data : LineBits) : Statement (.eccRecoveryComplete line ok data) := of_none _ rfl
theorem patrolScrub (line errs : Nat) : Statement (.patrolScrub line errs) := of_none _ rfl
theorem tableLoad (who : Requester) : Statement (.tableLoad who) := of_none _ rfl
theorem tableLoadComplete (slot : Nat) : Statement (.tableLoadComplete slot) := of_none _ rfl
theorem tableRetire (who : Requester) : Statement (.tableRetire who) := of_none _ rfl
theorem tableRefsZero (slot : Nat) : Statement (.tableRefsZero slot) := of_none _ rfl
theorem arm (who : Requester) : Statement (.arm who) := of_none _ rfl
theorem rearm (who : Requester) : Statement (.rearm who) := of_none _ rfl
theorem disarm (who : Requester) : Statement (.disarm who) := of_none _ rfl
theorem reduceRoundComplete (slot : Nat) : Statement (.reduceRoundComplete slot) := of_none _ rfl
theorem reduceRoundTimeout (slot : Nat) : Statement (.reduceRoundTimeout slot) := of_none _ rfl
theorem engineIdle (engine : Nat) : Statement (.engineIdle engine) := of_none _ rfl
theorem corePllIdle (core : Nat) : Statement (.corePllIdle core) := of_none _ rfl
theorem alloc (who : Requester) : Statement (.alloc who) := of_none _ rfl
theorem close (who : Requester) : Statement (.close who) := of_none _ rfl
theorem accept (who : Requester) : Statement (.accept who) := of_none _ rfl
theorem reject (who : Requester) : Statement (.reject who) := of_none _ rfl
theorem itineraryRetire (who : Requester) : Statement (.itineraryRetire who) := of_none _ rfl
theorem itineraryFree (who : Requester) : Statement (.itineraryFree who) := of_none _ rfl
theorem launch (port : Nat) (m : Msg) : Statement (.launch port m) :=
  of_func _ port m opDoorbell 1 rfl rfl (by decide)
theorem count (port : Nat) (m : Msg) : Statement (.count port m) :=
  of_func _ port m opDoorbell 2 rfl rfl (by decide)
theorem move (core : Nat) : Statement (.move core) := of_none _ rfl
theorem gather (core : Nat) : Statement (.gather core) := of_none _ rfl
theorem array (core : Nat) : Statement (.array core) := of_none _ rfl
theorem vector (core : Nat) : Statement (.vector core) := of_none _ rfl
theorem select (core : Nat) : Statement (.select core) := of_none _ rfl
theorem send (core : Nat) : Statement (.send core) := of_none _ rfl
theorem stash (core : Nat) : Statement (.stash core) := of_none _ rfl
theorem signal (core : Nat) : Statement (.signal core) := of_none _ rfl
theorem await (core : Nat) : Statement (.await core) := of_none _ rfl
theorem repeatLeg (core : Nat) : Statement (.repeatLeg core) := of_none _ rfl
theorem endLeg (core : Nat) : Statement (.endLeg core) := of_none _ rfl
theorem awaitTimeout (core : Nat) : Statement (.awaitTimeout core) := of_none _ rfl
theorem coreReset (who : Requester) : Statement (.coreReset who) := of_none _ rfl
theorem lookup (port : Nat) (m : Msg) : Statement (.lookup port m) :=
  of_func _ port m opSearch 1 rfl rfl (by decide)
theorem walk (port : Nat) (m : Msg) : Statement (.walk port m) :=
  of_func _ port m opSearch 2 rfl rfl (by decide)
theorem searchWrite (port : Nat) (m : Msg) : Statement (.searchWrite port m) :=
  of_func _ port m opSearch 3 rfl rfl (by decide)
theorem searchClear (port : Nat) (m : Msg) : Statement (.searchClear port m) :=
  of_func _ port m opSearch 4 rfl rfl (by decide)
theorem searchUpdateApply (part errs : Nat) : Statement (.searchUpdateApply part errs) := of_none _ rfl
theorem entryRecordWrite (who : Requester) (value : Nat) : Statement (.entryRecordWrite who value) := of_none _ rfl
theorem walkIdleTimeout (ctx : Nat) : Statement (.walkIdleTimeout ctx) := of_none _ rfl
theorem parityScan (part row : Nat) (bad : List Nat) : Statement (.parityScan part row bad) := of_none _ rfl
theorem partitionCreate (who : Requester) : Statement (.partitionCreate who) := of_none _ rfl
theorem partitionDestroy (who : Requester) : Statement (.partitionDestroy who) := of_none _ rfl
theorem partitionCleared (part : Nat) : Statement (.partitionCleared part) := of_none _ rfl
theorem partitionReloaded (part : Nat) : Statement (.partitionReloaded part) := of_none _ rfl
theorem bankIdleGate (bank : Nat) : Statement (.bankIdleGate bank) := of_none _ rfl
theorem compositionCreate (who : Requester) : Statement (.compositionCreate who) := of_none _ rfl
theorem compositionReset (who : Requester) : Statement (.compositionReset who) := of_none _ rfl
theorem compositionResetComplete (comp : Nat) : Statement (.compositionResetComplete comp) := of_none _ rfl
theorem compositionDestroy (who : Requester) : Statement (.compositionDestroy who) := of_none _ rfl
theorem compositionDescriptorWrite (who : Requester) (offset len value : Nat) : Statement (.compositionDescriptorWrite who offset len value) := of_none _ rfl
theorem join (who : Requester) : Statement (.join who) := of_none _ rfl
theorem leave (who : Requester) : Statement (.leave who) := of_none _ rfl
theorem interruptWriteTimeout (host tag : Nat) : Statement (.interruptWriteTimeout host tag) := of_none _ rfl
theorem openRec (port : Nat) (m : Msg) : Statement (.openRec port m) :=
  of_func _ port m opHandoff 1 rfl rfl (by decide)
theorem sealRec (port : Nat) (m : Msg) : Statement (.sealRec port m) :=
  of_func _ port m opHandoff 2 rfl rfl (by decide)
theorem offer (port : Nat) (m : Msg) : Statement (.offer port m) :=
  of_func _ port m opHandoff 3 rfl rfl (by decide)
theorem withdraw (port : Nat) (m : Msg) : Statement (.withdraw port m) :=
  of_func _ port m opHandoff 4 rfl rfl (by decide)
theorem claim (port : Nat) (m : Msg) : Statement (.claim port m) :=
  of_func _ port m opHandoff 5 rfl rfl (by decide)
theorem handoffRelease (port : Nat) (m : Msg) : Statement (.handoffRelease port m) :=
  of_func _ port m opHandoff 6 rfl rfl (by decide)
theorem discard (port : Nat) (m : Msg) : Statement (.discard port m) :=
  of_func _ port m opHandoff 7 rfl rfl (by decide)
theorem query (port : Nat) (m : Msg) : Statement (.query port m) :=
  of_func _ port m opHandoff 8 rfl rfl (by decide)
theorem offerTimerExpiry (record : Nat) : Statement (.offerTimerExpiry record) := of_none _ rfl
theorem forceFree (who : Requester) : Statement (.forceFree who) := of_none _ rfl
theorem admissionHoldRelease (port tc : Nat) : Statement (.admissionHoldRelease port tc) := of_none _ rfl
theorem gateEntryChange (port : Nat) : Statement (.gateEntryChange port) := of_none _ rfl
theorem gateSwitchTimeWrite (who : Requester) (time : Nat) : Statement (.gateSwitchTimeWrite who time) := of_none _ rfl
theorem gateBankSwitch (port : Nat) : Statement (.gateBankSwitch port) := of_none _ rfl
theorem budgetWrite (who : Requester) (sub value : Nat) : Statement (.budgetWrite who sub value) := of_none _ rfl
theorem portEnable (who : Requester) : Statement (.portEnable who) := of_none _ rfl
theorem portDisable (who : Requester) : Statement (.portDisable who) := of_none _ rfl
theorem portReset (who : Requester) : Statement (.portReset who) := of_none _ rfl
theorem portRetrain (who : Requester) : Statement (.portRetrain who) := of_none _ rfl
theorem breakoutWrite (who : Requester) (value : Nat) : Statement (.breakoutWrite who value) := of_none _ rfl
theorem portRoleWrite (who : Requester) (value : Nat) : Statement (.portRoleWrite who value) := of_none _ rfl
theorem laserInputLow (input : Nat) (power : Int) : Statement (.laserInputLow input power) := of_none _ rfl
theorem laserInputRestored (input : Nat) (power : Int) : Statement (.laserInputRestored input power) := of_none _ rfl
theorem lanePresenceChange (phys lane : Nat) (power : Int) : Statement (.lanePresenceChange phys lane power) := of_none _ rfl
theorem receiversAdapted (port : Nat) : Statement (.receiversAdapted port) := of_none _ rfl
theorem trainTimeout (port : Nat) : Statement (.trainTimeout port) := of_none _ rfl
theorem codewordsLocked (port : Nat) : Statement (.codewordsLocked port) := of_none _ rfl
theorem alignTimeout (port : Nat) : Statement (.alignTimeout port) := of_none _ rfl
theorem parameterBlockReceived (port : Nat) (block : Slot) : Statement (.parameterBlockReceived port block) := of_none _ rfl
theorem paramTimeout (port : Nat) : Statement (.paramTimeout port) := of_none _ rfl
theorem secureTimeout (port : Nat) : Statement (.secureTimeout port) := of_none _ rfl
theorem codewordLockLost (port : Nat) : Statement (.codewordLockLost port) := of_none _ rfl
theorem retrainComplete (port : Nat) : Statement (.retrainComplete port) := of_none _ rfl
theorem retrainTimeout (port : Nat) : Statement (.retrainTimeout port) := of_none _ rfl
theorem flitReceived (port : Nat) (flit : Flit) : Statement (.flitReceived port flit) := of_none _ rfl
theorem replayTimeout (port : Nat) : Statement (.replayTimeout port) := of_none _ rfl
theorem rekeyLimit (port : Nat) : Statement (.rekeyLimit port) := of_none _ rfl
theorem rekeyDeadline (port : Nat) : Statement (.rekeyDeadline port) := of_none _ rfl
theorem narrowIdle (port : Nat) : Statement (.narrowIdle port) := of_none _ rfl
theorem twMirror (port : Nat) (m : Msg) : Statement (.twMirror port m) :=
  of_op _ port m opTwMirror rfl rfl (by decide)
theorem twMirrorAck (port : Nat) (m : Msg) : Statement (.twMirrorAck port m) :=
  of_op _ port m opTwMirrorAck rfl rfl (by decide)
theorem twBeat (port : Nat) (m : Msg) : Statement (.twBeat port m) :=
  of_op _ port m opTwBeat rfl rfl (by decide)
theorem twSuspect (port : Nat) (m : Msg) : Statement (.twSuspect port m) :=
  of_op _ port m opTwSuspect rfl rfl (by decide)
theorem twConfirm (port : Nat) (m : Msg) : Statement (.twConfirm port m) :=
  of_op _ port m opTwConfirm rfl rfl (by decide)
theorem twVerdict (port : Nat) (m : Msg) : Statement (.twVerdict port m) :=
  of_op _ port m opTwVerdict rfl rfl (by decide)
theorem twServing (port : Nat) (m : Msg) : Statement (.twServing port m) :=
  of_op _ port m opTwServing rfl rfl (by decide)
theorem twDetachRequest (port : Nat) (m : Msg) : Statement (.twDetachRequest port m) :=
  of_step _ port m opTwDetach 0 rfl rfl (by decide)
theorem twDetachConfirm (port : Nat) (m : Msg) : Statement (.twDetachConfirm port m) :=
  of_step _ port m opTwDetach 1 rfl rfl (by decide)
theorem twDetachRefuse (port : Nat) (m : Msg) : Statement (.twDetachRefuse port m) :=
  of_step _ port m opTwDetach 2 rfl rfl (by decide)
theorem twCatchupEpoch (port : Nat) (m : Msg) : Statement (.twCatchupEpoch port m) :=
  of_step _ port m opTwCatchup 0 rfl rfl (by decide)
theorem twCatchupStart (port : Nat) (m : Msg) : Statement (.twCatchupStart port m) :=
  of_step _ port m opTwCatchup 1 rfl rfl (by decide)
theorem twCatchupDone (port : Nat) (m : Msg) : Statement (.twCatchupDone port m) :=
  of_step _ port m opTwCatchup 2 rfl rfl (by decide)
theorem twCatchupAbort (port : Nat) (m : Msg) : Statement (.twCatchupAbort port m) :=
  of_step _ port m opTwCatchup 3 rfl rfl (by decide)
theorem catchupCopy : Statement .catchupCopy := of_none _ rfl
theorem turn : Statement .turn := of_none _ rfl
theorem pairLostTimeout (pair : Nat) : Statement (.pairLostTimeout pair) := of_none _ rfl
theorem spareCallTimeout : Statement .spareCallTimeout := of_none _ rfl
theorem tagWarningRepeat : Statement .tagWarningRepeat := of_none _ rfl
theorem mirrorDisable (who : Requester) : Statement (.mirrorDisable who) := of_none _ rfl
theorem scoreDecay : Statement .scoreDecay := of_none _ rfl
theorem drillStart : Statement .drillStart := of_none _ rfl
theorem drillPathFlapReturn : Statement .drillPathFlapReturn := of_none _ rfl
theorem drillOutcome (passed : Bool) : Statement (.drillOutcome passed) := of_none _ rfl
theorem spdm (port : Nat) (m : Msg) : Statement (.spdm port m) :=
  of_func _ port m opMgmt 4 rfl rfl (by decide)
theorem canEventPop (who : Requester) : Statement (.canEventPop who) := of_none _ rfl
theorem stewardAlive (who : Requester) : Statement (.stewardAlive who) := of_none _ rfl
theorem stewardWatchdogExpiry : Statement .stewardWatchdogExpiry := of_none _ rfl
theorem stewardRestart (who : Requester) : Statement (.stewardRestart who) := of_none _ rfl
theorem enterRecovery (who : Requester) : Statement (.enterRecovery who) := of_none _ rfl
theorem stewardRunning : Statement .stewardRunning := of_none _ rfl
theorem recoveryInstall (who : Requester) : Statement (.recoveryInstall who) := of_none _ rfl
theorem recoveryAbort (who : Requester) : Statement (.recoveryAbort who) := of_none _ rfl
theorem inputPowerUp : Statement .inputPowerUp := of_none _ rfl
theorem powerLoss : Statement .powerLoss := of_none _ rfl
theorem pgoodLow : Statement .pgoodLow := of_none _ rfl
theorem powerLossWritesComplete (durationUs : Nat) : Statement (.powerLossWritesComplete durationUs) := of_none _ rfl
theorem powerStageFailure (stage : Nat) : Statement (.powerStageFailure stage) := of_none _ rfl
theorem powerCapStep (watts : Nat) : Statement (.powerCapStep watts) := of_none _ rfl
theorem referenceLoss : Statement .referenceLoss := of_none _ rfl
theorem referenceReturn : Statement .referenceReturn := of_none _ rfl
theorem reference156Loss : Statement .reference156Loss := of_none _ rfl
theorem reference156Return : Statement .reference156Return := of_none _ rfl
theorem powerFull (who : Requester) : Statement (.powerFull who) := of_none _ rfl
theorem powerTrim (who : Requester) : Statement (.powerTrim who) := of_none _ rfl
theorem powerQuiet (who : Requester) : Statement (.powerQuiet who) := of_none _ rfl
theorem powerWatch (who : Requester) : Statement (.powerWatch who) := of_none _ rfl
theorem powerOff (who : Requester) : Statement (.powerOff who) := of_none _ rfl
theorem handshakeAccepted : Statement .handshakeAccepted := of_none _ rfl
theorem handshakeRefused : Statement .handshakeRefused := of_none _ rfl
theorem handshakeTimeout : Statement .handshakeTimeout := of_none _ rfl
theorem warmReset (who : Requester) : Statement (.warmReset who) := of_none _ rfl
theorem coldReset (who : Requester) : Statement (.coldReset who) := of_none _ rfl
theorem coldStart (who : Requester) : Statement (.coldStart who) := of_none _ rfl
theorem resetContact : Statement .resetContact := of_none _ rfl
theorem islandBrownOut : Statement .islandBrownOut := of_none _ rfl
theorem watchWakePeriod (readings : List (Nat × Int)) (temp : Int) : Statement (.watchWakePeriod readings temp) := of_none _ rfl
theorem startStepComplete (info : StartInfo) : Statement (.startStepComplete info) := of_none _ rfl
theorem startStepFailed (detail : Nat) : Statement (.startStepFailed detail) := of_none _ rfl
theorem scoreJournalPeriod : Statement .scoreJournalPeriod := of_none _ rfl
theorem thermalThrottle (cls item : Nat) (temp : Int) : Statement (.thermalThrottle cls item temp) := of_none _ rfl
theorem thermalThrottleEnd : Statement .thermalThrottleEnd := of_none _ rfl
theorem thermalTrip (cls item : Nat) (temp : Int) : Statement (.thermalTrip cls item temp) := of_none _ rfl
theorem certInstall (who : Requester) : Statement (.certInstall who) := of_none _ rfl
theorem certErase (who : Requester) : Statement (.certErase who) := of_none _ rfl
theorem ownerSet (who : Requester) : Statement (.ownerSet who) := of_none _ rfl
theorem ownerTransfer (who : Requester) : Statement (.ownerTransfer who) := of_none _ rfl
theorem imageStage (who : Requester) : Statement (.imageStage who) := of_none _ rfl
theorem imageAbort (who : Requester) : Statement (.imageAbort who) := of_none _ rfl
theorem sessionRetryHoldoff (port : Nat) : Statement (.sessionRetryHoldoff port) := of_none _ rfl
theorem randomSourceUnhealthy (test : Nat) : Statement (.randomSourceUnhealthy test) := of_none _ rfl
theorem jtagBypass : Statement .jtagBypass := of_none _ rfl
theorem jtagIdcode : Statement .jtagIdcode := of_none _ rfl
theorem jtagSamplePreload (pins : Nat) : Statement (.jtagSamplePreload pins) := of_none _ rfl
theorem jtagExtest : Statement .jtagExtest := of_none _ rfl
theorem egressSlot (port : Nat) : Statement (.egressSlot port) := of_none _ rfl
theorem fullWidthRestored (port : Nat) : Statement (.fullWidthRestored port) := of_none _ rfl
theorem stewardDieFault : Statement .stewardDieFault := of_none _ rfl
theorem canBusOff : Statement .canBusOff := of_none _ rfl
theorem randomSourceHealthy : Statement .randomSourceHealthy := of_none _ rfl
theorem crystalChange (oscillating : Bool) : Statement (.crystalChange oscillating) := of_none _ rfl
theorem zeroTileTrayWrite : Statement .zeroTileTrayWrite := of_none _ rfl
theorem markedTileOverwrite : Statement .markedTileOverwrite := of_none _ rfl

end Sys2Proof.Laws.MessageShape
end

