-- ==== Sys2Proof/Laws/State.lean ====
section
/-! SUPPORT. What each update of the state leaves in each field: true by unfolding. -/

namespace Sys2Proof.Machine

variable (s : State)

@[simp] theorem State.onDict_now (f : Dict → Dict) : (s.onDict f).now = s.now := rfl
@[simp] theorem State.onDict_free (f : Dict → Dict) : (s.onDict f).free = s.free := rfl
@[simp] theorem State.onDict_pending (f : Dict → Dict) : (s.onDict f).pending = s.pending := rfl
@[simp] theorem State.onDict_dict (f : Dict → Dict) : (s.onDict f).dict = f s.dict := rfl
@[simp] theorem State.onDict_home (f : Dict → Dict) : (s.onDict f).home = s.home := rfl
@[simp] theorem State.onDict_tier (f : Dict → Dict) : (s.onDict f).tier = s.tier := rfl
@[simp] theorem State.onDict_comps (f : Dict → Dict) : (s.onDict f).comps = s.comps := rfl
@[simp] theorem State.onDict_tm (f : Dict → Dict) : (s.onDict f).tm = s.tm := rfl
@[simp] theorem State.onDict_twin (f : Dict → Dict) : (s.onDict f).twin = s.twin := rfl
@[simp] theorem State.onDict_health (f : Dict → Dict) : (s.onDict f).health = s.health := rfl
@[simp] theorem State.onDict_codec (f : Dict → Dict) : (s.onDict f).codec = s.codec := rfl
@[simp] theorem State.onDict_compute (f : Dict → Dict) : (s.onDict f).compute = s.compute := rfl
@[simp] theorem State.onDict_search (f : Dict → Dict) : (s.onDict f).search = s.search := rfl
@[simp] theorem State.onDict_power (f : Dict → Dict) : (s.onDict f).power = s.power := rfl
@[simp] theorem State.onDict_security (f : Dict → Dict) : (s.onDict f).security = s.security := rfl
@[simp] theorem State.onDict_links (f : Dict → Dict) : (s.onDict f).links = s.links := rfl

@[simp] theorem State.onHome_now (f : Home → Home) : (s.onHome f).now = s.now := rfl
@[simp] theorem State.onHome_free (f : Home → Home) : (s.onHome f).free = s.free := rfl
@[simp] theorem State.onHome_pending (f : Home → Home) : (s.onHome f).pending = s.pending := rfl
@[simp] theorem State.onHome_dict (f : Home → Home) : (s.onHome f).dict = s.dict := rfl
@[simp] theorem State.onHome_home (f : Home → Home) : (s.onHome f).home = f s.home := rfl
@[simp] theorem State.onHome_tier (f : Home → Home) : (s.onHome f).tier = s.tier := rfl
@[simp] theorem State.onHome_comps (f : Home → Home) : (s.onHome f).comps = s.comps := rfl
@[simp] theorem State.onHome_tm (f : Home → Home) : (s.onHome f).tm = s.tm := rfl
@[simp] theorem State.onHome_twin (f : Home → Home) : (s.onHome f).twin = s.twin := rfl
@[simp] theorem State.onHome_health (f : Home → Home) : (s.onHome f).health = s.health := rfl
@[simp] theorem State.onHome_codec (f : Home → Home) : (s.onHome f).codec = s.codec := rfl
@[simp] theorem State.onHome_compute (f : Home → Home) : (s.onHome f).compute = s.compute := rfl
@[simp] theorem State.onHome_search (f : Home → Home) : (s.onHome f).search = s.search := rfl
@[simp] theorem State.onHome_power (f : Home → Home) : (s.onHome f).power = s.power := rfl
@[simp] theorem State.onHome_security (f : Home → Home) : (s.onHome f).security = s.security := rfl
@[simp] theorem State.onHome_links (f : Home → Home) : (s.onHome f).links = s.links := rfl

@[simp] theorem State.onTier_now (f : Tier → Tier) : (s.onTier f).now = s.now := rfl
@[simp] theorem State.onTier_free (f : Tier → Tier) : (s.onTier f).free = s.free := rfl
@[simp] theorem State.onTier_pending (f : Tier → Tier) : (s.onTier f).pending = s.pending := rfl
@[simp] theorem State.onTier_dict (f : Tier → Tier) : (s.onTier f).dict = s.dict := rfl
@[simp] theorem State.onTier_home (f : Tier → Tier) : (s.onTier f).home = s.home := rfl
@[simp] theorem State.onTier_tier (f : Tier → Tier) : (s.onTier f).tier = f s.tier := rfl
@[simp] theorem State.onTier_comps (f : Tier → Tier) : (s.onTier f).comps = s.comps := rfl
@[simp] theorem State.onTier_tm (f : Tier → Tier) : (s.onTier f).tm = s.tm := rfl
@[simp] theorem State.onTier_twin (f : Tier → Tier) : (s.onTier f).twin = s.twin := rfl
@[simp] theorem State.onTier_health (f : Tier → Tier) : (s.onTier f).health = s.health := rfl
@[simp] theorem State.onTier_codec (f : Tier → Tier) : (s.onTier f).codec = s.codec := rfl
@[simp] theorem State.onTier_compute (f : Tier → Tier) : (s.onTier f).compute = s.compute := rfl
@[simp] theorem State.onTier_search (f : Tier → Tier) : (s.onTier f).search = s.search := rfl
@[simp] theorem State.onTier_power (f : Tier → Tier) : (s.onTier f).power = s.power := rfl
@[simp] theorem State.onTier_security (f : Tier → Tier) : (s.onTier f).security = s.security := rfl
@[simp] theorem State.onTier_links (f : Tier → Tier) : (s.onTier f).links = s.links := rfl

@[simp] theorem State.onComps_now (f : Comps → Comps) : (s.onComps f).now = s.now := rfl
@[simp] theorem State.onComps_free (f : Comps → Comps) : (s.onComps f).free = s.free := rfl
@[simp] theorem State.onComps_pending (f : Comps → Comps) : (s.onComps f).pending = s.pending := rfl
@[simp] theorem State.onComps_dict (f : Comps → Comps) : (s.onComps f).dict = s.dict := rfl
@[simp] theorem State.onComps_home (f : Comps → Comps) : (s.onComps f).home = s.home := rfl
@[simp] theorem State.onComps_tier (f : Comps → Comps) : (s.onComps f).tier = s.tier := rfl
@[simp] theorem State.onComps_comps (f : Comps → Comps) : (s.onComps f).comps = f s.comps := rfl
@[simp] theorem State.onComps_tm (f : Comps → Comps) : (s.onComps f).tm = s.tm := rfl
@[simp] theorem State.onComps_twin (f : Comps → Comps) : (s.onComps f).twin = s.twin := rfl
@[simp] theorem State.onComps_health (f : Comps → Comps) : (s.onComps f).health = s.health := rfl
@[simp] theorem State.onComps_codec (f : Comps → Comps) : (s.onComps f).codec = s.codec := rfl
@[simp] theorem State.onComps_compute (f : Comps → Comps) : (s.onComps f).compute = s.compute := rfl
@[simp] theorem State.onComps_search (f : Comps → Comps) : (s.onComps f).search = s.search := rfl
@[simp] theorem State.onComps_power (f : Comps → Comps) : (s.onComps f).power = s.power := rfl
@[simp] theorem State.onComps_security (f : Comps → Comps) : (s.onComps f).security = s.security := rfl
@[simp] theorem State.onComps_links (f : Comps → Comps) : (s.onComps f).links = s.links := rfl

@[simp] theorem State.onTm_now (f : Tm → Tm) : (s.onTm f).now = s.now := rfl
@[simp] theorem State.onTm_free (f : Tm → Tm) : (s.onTm f).free = s.free := rfl
@[simp] theorem State.onTm_pending (f : Tm → Tm) : (s.onTm f).pending = s.pending := rfl
@[simp] theorem State.onTm_dict (f : Tm → Tm) : (s.onTm f).dict = s.dict := rfl
@[simp] theorem State.onTm_home (f : Tm → Tm) : (s.onTm f).home = s.home := rfl
@[simp] theorem State.onTm_tier (f : Tm → Tm) : (s.onTm f).tier = s.tier := rfl
@[simp] theorem State.onTm_comps (f : Tm → Tm) : (s.onTm f).comps = s.comps := rfl
@[simp] theorem State.onTm_tm (f : Tm → Tm) : (s.onTm f).tm = f s.tm := rfl
@[simp] theorem State.onTm_twin (f : Tm → Tm) : (s.onTm f).twin = s.twin := rfl
@[simp] theorem State.onTm_health (f : Tm → Tm) : (s.onTm f).health = s.health := rfl
@[simp] theorem State.onTm_codec (f : Tm → Tm) : (s.onTm f).codec = s.codec := rfl
@[simp] theorem State.onTm_compute (f : Tm → Tm) : (s.onTm f).compute = s.compute := rfl
@[simp] theorem State.onTm_search (f : Tm → Tm) : (s.onTm f).search = s.search := rfl
@[simp] theorem State.onTm_power (f : Tm → Tm) : (s.onTm f).power = s.power := rfl
@[simp] theorem State.onTm_security (f : Tm → Tm) : (s.onTm f).security = s.security := rfl
@[simp] theorem State.onTm_links (f : Tm → Tm) : (s.onTm f).links = s.links := rfl

@[simp] theorem State.onTwin_now (f : Twin → Twin) : (s.onTwin f).now = s.now := rfl
@[simp] theorem State.onTwin_free (f : Twin → Twin) : (s.onTwin f).free = s.free := rfl
@[simp] theorem State.onTwin_pending (f : Twin → Twin) : (s.onTwin f).pending = s.pending := rfl
@[simp] theorem State.onTwin_dict (f : Twin → Twin) : (s.onTwin f).dict = s.dict := rfl
@[simp] theorem State.onTwin_home (f : Twin → Twin) : (s.onTwin f).home = s.home := rfl
@[simp] theorem State.onTwin_tier (f : Twin → Twin) : (s.onTwin f).tier = s.tier := rfl
@[simp] theorem State.onTwin_comps (f : Twin → Twin) : (s.onTwin f).comps = s.comps := rfl
@[simp] theorem State.onTwin_tm (f : Twin → Twin) : (s.onTwin f).tm = s.tm := rfl
@[simp] theorem State.onTwin_twin (f : Twin → Twin) : (s.onTwin f).twin = f s.twin := rfl
@[simp] theorem State.onTwin_health (f : Twin → Twin) : (s.onTwin f).health = s.health := rfl
@[simp] theorem State.onTwin_codec (f : Twin → Twin) : (s.onTwin f).codec = s.codec := rfl
@[simp] theorem State.onTwin_compute (f : Twin → Twin) : (s.onTwin f).compute = s.compute := rfl
@[simp] theorem State.onTwin_search (f : Twin → Twin) : (s.onTwin f).search = s.search := rfl
@[simp] theorem State.onTwin_power (f : Twin → Twin) : (s.onTwin f).power = s.power := rfl
@[simp] theorem State.onTwin_security (f : Twin → Twin) : (s.onTwin f).security = s.security := rfl
@[simp] theorem State.onTwin_links (f : Twin → Twin) : (s.onTwin f).links = s.links := rfl

@[simp] theorem State.onCompute_now (f : Compute → Compute) : (s.onCompute f).now = s.now := rfl
@[simp] theorem State.onCompute_free (f : Compute → Compute) : (s.onCompute f).free = s.free := rfl
@[simp] theorem State.onCompute_pending (f : Compute → Compute) : (s.onCompute f).pending = s.pending := rfl
@[simp] theorem State.onCompute_dict (f : Compute → Compute) : (s.onCompute f).dict = s.dict := rfl
@[simp] theorem State.onCompute_home (f : Compute → Compute) : (s.onCompute f).home = s.home := rfl
@[simp] theorem State.onCompute_tier (f : Compute → Compute) : (s.onCompute f).tier = s.tier := rfl
@[simp] theorem State.onCompute_comps (f : Compute → Compute) : (s.onCompute f).comps = s.comps := rfl
@[simp] theorem State.onCompute_tm (f : Compute → Compute) : (s.onCompute f).tm = s.tm := rfl
@[simp] theorem State.onCompute_twin (f : Compute → Compute) : (s.onCompute f).twin = s.twin := rfl
@[simp] theorem State.onCompute_health (f : Compute → Compute) : (s.onCompute f).health = s.health := rfl
@[simp] theorem State.onCompute_codec (f : Compute → Compute) : (s.onCompute f).codec = s.codec := rfl
@[simp] theorem State.onCompute_compute (f : Compute → Compute) : (s.onCompute f).compute = f s.compute := rfl
@[simp] theorem State.onCompute_search (f : Compute → Compute) : (s.onCompute f).search = s.search := rfl
@[simp] theorem State.onCompute_power (f : Compute → Compute) : (s.onCompute f).power = s.power := rfl
@[simp] theorem State.onCompute_security (f : Compute → Compute) : (s.onCompute f).security = s.security := rfl
@[simp] theorem State.onCompute_links (f : Compute → Compute) : (s.onCompute f).links = s.links := rfl

@[simp] theorem State.onSearch_now (f : Search → Search) : (s.onSearch f).now = s.now := rfl
@[simp] theorem State.onSearch_free (f : Search → Search) : (s.onSearch f).free = s.free := rfl
@[simp] theorem State.onSearch_pending (f : Search → Search) : (s.onSearch f).pending = s.pending := rfl
@[simp] theorem State.onSearch_dict (f : Search → Search) : (s.onSearch f).dict = s.dict := rfl
@[simp] theorem State.onSearch_home (f : Search → Search) : (s.onSearch f).home = s.home := rfl
@[simp] theorem State.onSearch_tier (f : Search → Search) : (s.onSearch f).tier = s.tier := rfl
@[simp] theorem State.onSearch_comps (f : Search → Search) : (s.onSearch f).comps = s.comps := rfl
@[simp] theorem State.onSearch_tm (f : Search → Search) : (s.onSearch f).tm = s.tm := rfl
@[simp] theorem State.onSearch_twin (f : Search → Search) : (s.onSearch f).twin = s.twin := rfl
@[simp] theorem State.onSearch_health (f : Search → Search) : (s.onSearch f).health = s.health := rfl
@[simp] theorem State.onSearch_codec (f : Search → Search) : (s.onSearch f).codec = s.codec := rfl
@[simp] theorem State.onSearch_compute (f : Search → Search) : (s.onSearch f).compute = s.compute := rfl
@[simp] theorem State.onSearch_search (f : Search → Search) : (s.onSearch f).search = f s.search := rfl
@[simp] theorem State.onSearch_power (f : Search → Search) : (s.onSearch f).power = s.power := rfl
@[simp] theorem State.onSearch_security (f : Search → Search) : (s.onSearch f).security = s.security := rfl
@[simp] theorem State.onSearch_links (f : Search → Search) : (s.onSearch f).links = s.links := rfl

@[simp] theorem State.onPower_now (f : Power → Power) : (s.onPower f).now = s.now := rfl
@[simp] theorem State.onPower_free (f : Power → Power) : (s.onPower f).free = s.free := rfl
@[simp] theorem State.onPower_pending (f : Power → Power) : (s.onPower f).pending = s.pending := rfl
@[simp] theorem State.onPower_dict (f : Power → Power) : (s.onPower f).dict = s.dict := rfl
@[simp] theorem State.onPower_home (f : Power → Power) : (s.onPower f).home = s.home := rfl
@[simp] theorem State.onPower_tier (f : Power → Power) : (s.onPower f).tier = s.tier := rfl
@[simp] theorem State.onPower_comps (f : Power → Power) : (s.onPower f).comps = s.comps := rfl
@[simp] theorem State.onPower_tm (f : Power → Power) : (s.onPower f).tm = s.tm := rfl
@[simp] theorem State.onPower_twin (f : Power → Power) : (s.onPower f).twin = s.twin := rfl
@[simp] theorem State.onPower_health (f : Power → Power) : (s.onPower f).health = s.health := rfl
@[simp] theorem State.onPower_codec (f : Power → Power) : (s.onPower f).codec = s.codec := rfl
@[simp] theorem State.onPower_compute (f : Power → Power) : (s.onPower f).compute = s.compute := rfl
@[simp] theorem State.onPower_search (f : Power → Power) : (s.onPower f).search = s.search := rfl
@[simp] theorem State.onPower_power (f : Power → Power) : (s.onPower f).power = f s.power := rfl
@[simp] theorem State.onPower_security (f : Power → Power) : (s.onPower f).security = s.security := rfl
@[simp] theorem State.onPower_links (f : Power → Power) : (s.onPower f).links = s.links := rfl

@[simp] theorem State.onSecurity_now (f : Security → Security) : (s.onSecurity f).now = s.now := rfl
@[simp] theorem State.onSecurity_free (f : Security → Security) : (s.onSecurity f).free = s.free := rfl
@[simp] theorem State.onSecurity_pending (f : Security → Security) : (s.onSecurity f).pending = s.pending := rfl
@[simp] theorem State.onSecurity_dict (f : Security → Security) : (s.onSecurity f).dict = s.dict := rfl
@[simp] theorem State.onSecurity_home (f : Security → Security) : (s.onSecurity f).home = s.home := rfl
@[simp] theorem State.onSecurity_tier (f : Security → Security) : (s.onSecurity f).tier = s.tier := rfl
@[simp] theorem State.onSecurity_comps (f : Security → Security) : (s.onSecurity f).comps = s.comps := rfl
@[simp] theorem State.onSecurity_tm (f : Security → Security) : (s.onSecurity f).tm = s.tm := rfl
@[simp] theorem State.onSecurity_twin (f : Security → Security) : (s.onSecurity f).twin = s.twin := rfl
@[simp] theorem State.onSecurity_health (f : Security → Security) : (s.onSecurity f).health = s.health := rfl
@[simp] theorem State.onSecurity_codec (f : Security → Security) : (s.onSecurity f).codec = s.codec := rfl
@[simp] theorem State.onSecurity_compute (f : Security → Security) : (s.onSecurity f).compute = s.compute := rfl
@[simp] theorem State.onSecurity_search (f : Security → Security) : (s.onSecurity f).search = s.search := rfl
@[simp] theorem State.onSecurity_power (f : Security → Security) : (s.onSecurity f).power = s.power := rfl
@[simp] theorem State.onSecurity_security (f : Security → Security) : (s.onSecurity f).security = f s.security := rfl
@[simp] theorem State.onSecurity_links (f : Security → Security) : (s.onSecurity f).links = s.links := rfl

@[simp] theorem State.onHealth_now (f : Health → Health) : (s.onHealth f).now = s.now := rfl
@[simp] theorem State.onHealth_free (f : Health → Health) : (s.onHealth f).free = s.free := rfl
@[simp] theorem State.onHealth_pending (f : Health → Health) : (s.onHealth f).pending = s.pending := rfl
@[simp] theorem State.onHealth_dict (f : Health → Health) : (s.onHealth f).dict = s.dict := rfl
@[simp] theorem State.onHealth_home (f : Health → Health) : (s.onHealth f).home = s.home := rfl
@[simp] theorem State.onHealth_tier (f : Health → Health) : (s.onHealth f).tier = s.tier := rfl
@[simp] theorem State.onHealth_comps (f : Health → Health) : (s.onHealth f).comps = s.comps := rfl
@[simp] theorem State.onHealth_tm (f : Health → Health) : (s.onHealth f).tm = s.tm := rfl
@[simp] theorem State.onHealth_twin (f : Health → Health) : (s.onHealth f).twin = s.twin := rfl
@[simp] theorem State.onHealth_health (f : Health → Health) : (s.onHealth f).health = f s.health := rfl
@[simp] theorem State.onHealth_codec (f : Health → Health) : (s.onHealth f).codec = s.codec := rfl
@[simp] theorem State.onHealth_compute (f : Health → Health) : (s.onHealth f).compute = s.compute := rfl
@[simp] theorem State.onHealth_search (f : Health → Health) : (s.onHealth f).search = s.search := rfl
@[simp] theorem State.onHealth_power (f : Health → Health) : (s.onHealth f).power = s.power := rfl
@[simp] theorem State.onHealth_security (f : Health → Health) : (s.onHealth f).security = s.security := rfl
@[simp] theorem State.onHealth_links (f : Health → Health) : (s.onHealth f).links = s.links := rfl

@[simp] theorem reachTime_now (t : Nat) : (reachTime s t).now = max s.now t := rfl
@[simp] theorem reachTime_free (t : Nat) : (reachTime s t).free = s.free := rfl
@[simp] theorem reachTime_pending (t : Nat) : (reachTime s t).pending = s.pending := rfl
@[simp] theorem reachTime_dict (t : Nat) : (reachTime s t).dict = s.dict := rfl
@[simp] theorem reachTime_home (t : Nat) : (reachTime s t).home = s.home := rfl
@[simp] theorem reachTime_tier (t : Nat) : (reachTime s t).tier = s.tier := rfl
@[simp] theorem reachTime_comps (t : Nat) : (reachTime s t).comps = s.comps := rfl
@[simp] theorem reachTime_tm (t : Nat) : (reachTime s t).tm = s.tm := rfl
@[simp] theorem reachTime_twin (t : Nat) : (reachTime s t).twin = s.twin := rfl
@[simp] theorem reachTime_health (t : Nat) : (reachTime s t).health = s.health := rfl
@[simp] theorem reachTime_codec (t : Nat) : (reachTime s t).codec = s.codec := rfl
@[simp] theorem reachTime_compute (t : Nat) : (reachTime s t).compute = s.compute := rfl
@[simp] theorem reachTime_search (t : Nat) : (reachTime s t).search = s.search := rfl
@[simp] theorem reachTime_power (t : Nat) : (reachTime s t).power = s.power := rfl
@[simp] theorem reachTime_security (t : Nat) : (reachTime s t).security = s.security := rfl
@[simp] theorem reachTime_links (t : Nat) : (reachTime s t).links = s.links := rfl

@[simp] theorem setObj_now (o i v : Nat) : (setObj s o i v).now = s.now := rfl
@[simp] theorem setObj_free (o i v : Nat) : (setObj s o i v).free = s.free := rfl
@[simp] theorem setObj_pending (o i v : Nat) : (setObj s o i v).pending = s.pending := rfl
@[simp] theorem setObj_home (o i v : Nat) : (setObj s o i v).home = s.home := rfl
@[simp] theorem setObj_tier (o i v : Nat) : (setObj s o i v).tier = s.tier := rfl
@[simp] theorem setObj_comps (o i v : Nat) : (setObj s o i v).comps = s.comps := rfl
@[simp] theorem setObj_tm (o i v : Nat) : (setObj s o i v).tm = s.tm := rfl
@[simp] theorem setObj_twin (o i v : Nat) : (setObj s o i v).twin = s.twin := rfl
@[simp] theorem setObj_health (o i v : Nat) : (setObj s o i v).health = s.health := rfl
@[simp] theorem setObj_codec (o i v : Nat) : (setObj s o i v).codec = s.codec := rfl
@[simp] theorem setObj_compute (o i v : Nat) : (setObj s o i v).compute = s.compute := rfl
@[simp] theorem setObj_search (o i v : Nat) : (setObj s o i v).search = s.search := rfl
@[simp] theorem setObj_power (o i v : Nat) : (setObj s o i v).power = s.power := rfl
@[simp] theorem setObj_security (o i v : Nat) : (setObj s o i v).security = s.security := rfl
@[simp] theorem setObj_links (o i v : Nat) : (setObj s o i v).links = s.links := rfl

end Sys2Proof.Machine
end

