-- ==== Sys2Proof/Tests/Slice0.lean ====
section
/-! SUPPORT. Tests: ill-formed commands are refused, values that the spec gives are reached, and for each statement with
hypotheses a state and operands that meet them, clause by clause. -/

namespace Sys2Proof.Tests

set_option Elab.async false

open Sys2Proof Sys2Proof.Machine

/-! ## A small ZX964 -/

/-- Objects set by number, selectors and value. -/
def withObjs (l : List (Nat × Nat × Nat)) (s : State) : State := l.foldl (fun s x => setObj s x.1 x.2.1 x.2.2) s

/-- A ZX964 without a twin, home for lines of tile region 0: port 4 is a host's (host 5), port 8 a tray's, port 12 a trunk, port
16 a twin's, all `UP`; composition 3 is `ACTIVE` with host 5; extent 0, tiles 0 to 15, is `ACTIVE` in it. -/
def lab : State :=
  (withObjs [(0x210002, 0, 1), (0x2B0002, 0, 0), (0x212007, 4, 6), (0x212007, 8, 6), (0x212007, 12, 6), (0x212007, 16, 6),
    (0x212004, 8, 1), (0x212004, 12, 2), (0x212004, 16, 3), (0x230202, 4, 1024 + 5), (0x2A1306, 3, 255)] State.reset)
  |>.onHome (fun h => { h with exts := [(0, { length := 16, state := 1, comp := 3, owner := 5, rights := 15 })] })
  |>.onComps (fun c => { c with comps := [(3, { state := 1, owner := 5, recordCount := 4, members := [(5, 1)] })] })

/-- A ZX964 whose 100 MHz reference is gone. -/
def halted : State := lab.onPower (fun p => { p with halted := true })

/-- A message of host 5 in composition 3 on line 7, with its header's body and slots. -/
def hostMsg (body : Nat) (data : List Slot) : Msg :=
  { opcode := 0, peer := 5, composition := 3, tag := 9, line := 7, body := body, ext := data.length, data := data }

/-- A request of host 5 for line 7. -/
def req (op : Nat) : Req := { m := { hostMsg 0 [] with opcode := op }, port := some 4, served := 7 }

/-! ## Witnesses: the queue and the step -/

theorem witness_StepRunsTheFrontCommand :
    ({ lab with pending := [.turn, .powerLoss] } : State).pending = .turn :: [.powerLoss] := rfl

theorem witness_StepIdlesOnAnEmptyQueue :
    (lab.pending = [] ∧ clocked lab = true) ∧ (halted.pending = [] ∧ clocked halted = false) := by decide +kernel

theorem witness_StepKeepsTheQueueWellFormed :
    QueueWf { lab with pending := [.turn] } ∧ ∃ t, step { lab with pending := [.turn] } = .next t :=
  ⟨by unfold QueueWf; decide +kernel, _, rfl⟩

theorem witness_NothingFollowsWhereNothingIsDue : quiet lab = true := by decide +kernel

theorem witness_NoTimedEventWithoutAClock : clocked halted = false := by decide +kernel

/-! ## Witnesses: the home -/

/-- The lab with extent 0 as given. -/
def labExt (e : Extent) : State := lab.onHome (fun h => { h with exts := [(0, e)] })

theorem witness_ExtentEventsRun :
    (let s := labExt { length := 1, state := 2, drainAt := some 5 }
     clocked s = true ∧ (extOf s 0).state = 2 ∧ drainPending s 0 = false ∧ (extOf s 0).drainAt = some 5) ∧
    (let s := labExt { length := 2, state := 4, marked := 1 }
     clocked s = true ∧ (extOf s 0).state = 4 ∧ (extOf s 0).marked < (extOf s 0).length ∧
       hasBudget s 0 (quadrantOf s (extOf s 0).comp ((extOf s 0).base + (extOf s 0).marked)) 2 1 = true) ∧
    (let s := labExt { length := 2, state := 5, marked := 1 }
     clocked s = true ∧ (extOf s 0).state = 5 ∧ (extOf s 0).marked < (extOf s 0).length ∧
       hasBudget s 0 (quadrantOf s (extOf s 0).comp ((extOf s 0).base + (extOf s 0).marked)) 2 1 = true) := by decide +kernel

/-- A merge group of one request of host 5. -/
def group : MGroup :=
  { line := 7, opcode := opRdShared, comp := 3, word := 0, aop := 0, reqs := [req opRdShared], opened := 0, hold := 160,
    closeAt := 100, quadrant := 0 }

/-- A host's request that waits for its answer. -/
def hostReq : HostReq :=
  { host := 5, tag := 9, port := 4, tc := 0, comp := 3, line := 7, dest := 0, path := 256, deadline := 500, seq := 0 }

/-- A path change of pair 1 that still waits for two milestones. -/
def change : PathChange := { oldPort := 12, newPort := 20, cause := 1, milestones := [3, 4], deadline := 50, held := [] }

/-- A line that a tile mover has asked for. -/
def asked : MReq := { tag := 9, op := opRdNc, line := 7, deadline := 90 }

/-- A tile mover's job with that line outstanding. -/
def job : Job := { leg := 1, pc := 0, todo := [], outstanding := [asked], ranges := [] }

/-- The lab with core 0 in a launch in a state, its tile mover waiting for a line. -/
def labJob (st : Nat) : State :=
  lab.onCompute (fun x => { x with
    launches := [(1, { itin := 0, comp := 3, host := 5, args := 0, state := st })]
    cores := [(0, { queue := [1], started := true, jobs := [job] })] })

theorem witness_RequestTimersRun :
    (let s := lab.onHome (fun h => { h with groups := [group] })
     clocked s = true ∧ s.home.groups.find? (fun g => decide (g.line = 7)) = some group ∧
       s.home.groups.find? (fun g => decide (g.line = 8)) = none) ∧
    (let s := (emit lab 4 (hostMsg 0 [])).onTm (fun t => { t with changes := [(1, { change with held := [(12, hostMsg 0 [], 0)] })] })
     clocked s = true ∧ egressNth s.tm.egress 0 = some (32, 0) ∧
       (s.tm.egress.getD 32 [])[0]? = some { m := hostMsg 0 [], since := 0 } ∧
       egressNth s.tm.egress 1 = none ∧ heldNth s.tm.changes (1 - egressCount s) = some (1, 0) ∧
       s.tm.changes.get? 1 = some { change with held := [(12, hostMsg 0 [], 0)] } ∧
       egressNth s.tm.egress 2 = none ∧ heldNth s.tm.changes (2 - egressCount s) = none) ∧
    (let s := lab.onTm (fun t => { t with hostReqs := [hostReq] })
     clocked s = true ∧ peerIsAgent 5 = false ∧ hostReqOf s (peerHost 5) 9 = some hostReq ∧ hostReqOf s (peerHost 5) 10 = none) ∧
    (let s := labJob 1
     let s' := labJob 2
     let found := fun (s : State) => (coreOf s 0).jobs.findSome? (fun j =>
       ((j.outstanding ++ j.again).find? (fun q => decide (q.tag = 9))).map (fun q => (j, q)))
     clocked s = true ∧ clocked s' = true ∧ peerIsAgent (2 ^ 15 + 128) = true ∧ bits (2 ^ 15 + 128) 7 5 - 1 = 0 ∧
       found s = some (job, asked) ∧ found s' = some (job, asked) ∧ (coreOf s 0).queue = 1 :: [] ∧ (coreOf s' 0).queue = 1 :: [] ∧
       (∃ l, launchOf (forgetSent (reachTime s asked.deadline) (ownAgent s 1) 9) 1 = some l ∧ l.state ≠ 2) ∧
       ∃ l, launchOf (forgetSent (reachTime s' asked.deadline) (ownAgent s' 1) 9) 1 = some l ∧ l.state = 2) ∧
    (clocked lab = true ∧ (coreOf lab 0).jobs = []) := by
  repeat' first
    | decide +kernel
    | exact ⟨_, rfl, by decide +kernel⟩
    | refine And.intro ?_ ?_

theorem witness_PathChangesRun :
    (let s := (withObjs [(0x212007, 20, 6), (0x212004, 20, 2)] lab).onTm (fun t => { t with sent := [(sentKey 5 9, 8)] })
     clocked s = true ∧ s.tm.changes.get? 1 = none ∧ pathTo s 1 256 = some 12 ∧ (12 : Nat) ≠ 20 ∧ 20 ∈ candidates s 1 ∧
       classesTo s 1 = [0]) ∧
    (let s := withObjs [(0x212007, 20, 6), (0x212004, 20, 2)] lab
     clocked s = true ∧ s.tm.changes.get? 1 = none ∧ pathTo s 1 256 = some 12 ∧ 20 ∈ candidates s 1 ∧ classesTo s 1 = []) ∧
    (let s := lab.onTm (fun t => { t with changes := [(1, change)] })
     clocked s = true ∧ s.tm.changes.get? 1 = some change ∧ change.milestones ≠ []) := by
  decide +kernel

/-- The lab with a transaction of one request on line 7, and a dwell of host 5 on it until 40. -/
def labTxn (t : Txn) : State :=
  lab.onHome (fun h => { h with txns := [(7, t)], dwells := [(7, (5, 40))], filter := [(7, { mode := 0, ptrs := [5], comp := 3, seq := 1 })] })

/-- A transaction of a read by host 5. -/
def txn (st : TxnState) : Txn := { state := st, work := .ops [req opRdOwn] }

theorem witness_HomeTimersRun :
    (let e : LEntry := { state := 1, comp := 3, line := 7, word := 0, aop := 0, status := 0, cas := false, result := 0, stamp := 0 }
     let s := lab.onHome (fun h => { h with ledger := [(ledgerKey 5 1, e)] })
     clocked s = true ∧ ledgerFind s 5 1 = some e ∧ e.state ≠ 0) ∧
    (let s := lab.onHome (fun h => { h with dwells := [(7, (5, 40))] })
     clocked s = true ∧ s.home.dwells.get? 7 = some (5, 40) ∧ s.home.txns.get? 7 = none) ∧
    (let t := txn .dwellWait
     clocked (labTxn t) = true ∧ (labTxn t).home.dwells.get? 7 = some (5, 40) ∧ (labTxn t).home.txns.get? 7 = some t ∧
       t.state = .dwellWait ∧ t.work = .ops [req opRdOwn]) ∧
    (let t : Txn := { txn .stashing with deadline := some 60, targets := [5] }
     clocked (labTxn t) = true ∧ (labTxn t).home.txns.get? 7 = some t ∧ t.state = .stashing ∧ t.deadline = some 60 ∧
       t.targets = 5 :: []) ∧
    (let s := lab.onHome (fun h => { h with hostDown := [(5, 10)] })
     clocked s = true ∧ s.home.hostDown.get? 5 = some 10 ∧ getObj s 0x242005 5 = 0 ∧ isLost s 5 = false ∧ inService s = true) ∧
    (let t : Txn := { txn .snooping with deadline := some 60, snoops := [{ host := 5, tag := 1, opcode := opSnpInv }] }
     clocked (labTxn t) = true ∧ (labTxn t).home.txns.get? 7 = some t ∧ t.state = .snooping ∧ t.deadline = some 60 ∧
       t.work = .ops [req opRdOwn] ∧ answersIgnored (labTxn t) 7 = false) := by decide +kernel

/-- A slot of composition 3. -/
def tile (st : TileState) (dirty : Nat) : Tile := { state := st, comp := 3, quadrant := 0, dirty := dirty }

/-- A write of all of line 7, admitted with a dirty limit of 1. -/
def wholeStore : Req :=
  { m := { hostMsg (2 ^ 128 - 1) [0, 0, 0, 0] with opcode := opWrNc }, port := some 4, served := 7, limit := 1 }

/-- The lab with a transaction on line 7, these tiles and these uses of budgets in the period. -/
def labAccess (t : Txn) (tiles : SMap Tile) (used : SMap Nat) : State :=
  ((labTxn t).onTier (fun x => { x with tiles := tiles })).onTm (fun x => { x with used := used })

theorem witness_TierAccessRuns :
    (let t := txn .serving
     let s := labAccess t [(0, tile .resident 0)] []
     let s0 := demandFor s 7 t
     let a := accessLine s0 7 t.work
     let s1 := if slotDue s0 a t = true then hostCharge s0 0 (stackOf s0 a / 4) (lineComp s0 7) 1 else s0
     clocked s = true ∧ s.home.txns.get? 7 = some t ∧ accessReady s0 a 7 t = true ∧ s0.tier.recover.has a = false ∧
       slotDue s0 a t = true ∧ slotFree s0 7 a = true ∧ t.state = .serving ∧ limitHolds s1 7 t.work = false ∧
       endHeld s1 7 t = false) ∧
    (let t := txn .snooping
     let s := labAccess t [(0, tile .resident 0)] []
     let s0 := demandFor s 7 t
     let a := accessLine s0 7 t.work
     clocked s = true ∧ s.home.txns.get? 7 = some t ∧ accessReady s0 a 7 t = true ∧ s0.tier.recover.has a = false ∧
       slotDue s0 a t = true ∧ slotFree s0 7 a = true ∧ t.state = .snooping) ∧
    (let t : Txn := { state := .serving, work := .ops [wholeStore] }
     let s := labAccess t [(0, tile .resident 0), (1, tile .resident 1)] []
     let s0 := demandFor s 7 t
     let a := accessLine s0 7 t.work
     let s1 := if slotDue s0 a t = true then hostCharge s0 0 (stackOf s0 a / 4) (lineComp s0 7) 1 else s0
     clocked s = true ∧ s.home.txns.get? 7 = some t ∧ accessReady s0 a 7 t = true ∧ s0.tier.recover.has a = false ∧
       slotDue s0 a t = true ∧ slotFree s0 7 a = true ∧ readsStack t.work = false ∧ t.state = .serving ∧ t.returned = none ∧
       limitHolds s1 7 t.work = true) ∧
    (let t := txn .serving
     let s := labAccess t [(0, tile .resident 0)] [(useKey 0 0 0, 2 ^ 32)]
     let s0 := demandFor s 7 t
     let a := accessLine s0 7 t.work
     clocked s = true ∧ s.home.txns.get? 7 = some t ∧ accessReady s0 a 7 t = true ∧ s0.tier.recover.has a = false ∧
       t.state = .serving ∧ slotDue s0 a t = true ∧ slotFree s0 7 a = false) ∧
    (let t := txn .serving
     let s := labAccess t [] []
     let s0 := demandFor s 7 t
     clocked s = true ∧ s.home.txns.get? 7 = some t ∧ accessReady s0 (accessLine s0 7 t.work) 7 t = false) := by decide +kernel

/-! ## Witnesses: the tier engine -/

/-- The lab with extent 0 in a pool of one tray member on port 8, and slots for tiles. -/
def labPool (tiles : SMap Tile) (objs : List (Nat × Nat × Nat)) : State :=
  ((withObjs ([(0x252002, 0, 2 ^ 39 + 1), (0x252004, 0, 8 * 2 ^ 40)] ++ objs) lab).onHome
    (fun h => { h with exts := [(0, { length := 16, state := 1, comp := 3, owner := 5, rights := 15 })] })).onTier
    (fun t => { t with tiles := tiles })

/-- The lab with one tile in a pool whose one member is `REFILLING`: its poison fill has written five lines and goes on at a
line. -/
def labRefill (first : Nat) (objs : List (Nat × Nat × Nat)) : State :=
  ((labPool [] ([(0x252004, 0, 8 * 2 ^ 40 + 3 * 2 ^ 56)] ++ objs)).onHome (fun h => { h with
    exts := [(0, { length := 1, state := 1, comp := 3, owner := 5, rights := 15 })] })).onTier
    (fun t => { t with refills := [(0, (first, 5))] })

theorem witness_TrayEventsRun :
    (let r : TrayReq := { port := 8, tag := 0, kind := .fill, line := 7, deadline := 90 }
     let s := (labPool [] []).onTier (fun t => { t with reqs := [r] })
     clocked s = true ∧ s.tier.reqs.find? (fun x => decide (x.port = 8) && decide (x.tag = 0)) = some r) ∧
    (let s := (withObjs [(0x212007, 8, 0)] (labPool [] [])).onTier (fun t => { t with down := [(8, 0)] })
     clocked s = true ∧ inService s = true ∧ s.tier.down.get? 8 = some 0 ∧ portRole s 8 = roleTray ∧ linkUp s 8 = false) ∧
    (let s := (labPool [(0, tile .filling 0)] []).onTier (fun t => { t with reissue := [7] })
     let n := match tileAt s (7 / 512) with | some t => if t.prefetch = 2 then 0 else 1 | none => 1
     clocked s = true ∧ s.tier.owed = [] ∧ s.tier.reissue = [7] ∧ hasBudget s 0 (stackOf s 7 / 4) 1 n = true ∧
       hasBudget s 1 (stackOf s 7 / 4) 1 6 = true) ∧
    (let s := labRefill 512 []
     (clocked s = true ∧ memberState s 0 0 = 3 ∧ s.tier.refills.getD (0 + 0 * 2 ^ 8) (0, 0) = (512, 5)) ∧
       ∃ s1 n, poisonFill s 5 (refillLines s 0 0 512) = (s1, none, n)) ∧
    (let s := labRefill 511 [(0x236004, 0 + 2 * 2 ^ 8, 4)]
     (clocked s = true ∧ memberState s 0 0 = 3 ∧ s.tier.refills.getD (0 + 0 * 2 ^ 8) (0, 0) = (511, 5)) ∧
       ∃ s1 l n, poisonFill s 5 (refillLines s 0 0 511) = (s1, some l, n)) :=
  ⟨by decide +kernel, by decide +kernel, by decide +kernel,
    ⟨by decide +kernel, _, _, Prod.ext rfl (Prod.ext (show _ = none by decide +kernel) rfl)⟩,
    ⟨by decide +kernel, _, _, _, Prod.ext rfl (Prod.ext (show _ = some 511 by decide +kernel) rfl)⟩⟩

/-- The lab with a pool whose tiles are coded in blocks of 16 KiB, so that a fill asks for four lines first. -/
def labCoded (objs : List (Nat × Nat × Nat)) (touched : List Nat) : State :=
  ((labPool [] ([(0x251002, 3, 4), (0x211203, 3 + 2 ^ 8, 3 + 255 * 2 ^ 8 + 255 * 2 ^ 20 + 2 ^ 32 + 3 * 2 ^ 36)] ++ objs)).onHome
    (fun h => { h with exts := [(0, { length := 16, state := 1, comp := 3, owner := 5, rights := 15, tileDesc := 1 })] })).onTier
    (fun t => { t with touchQ := touched })

theorem witness_TierBackgroundRuns :
    (let r : Req := { m := { hostMsg 0 [] with opcode := opWrNc }, port := some 4, served := 8 }
     let s := (labPool [(0, tile .resident 1)] []).onHome (fun h => { h with
       txns := [(8, { state := .serving, work := .ops [r], atLimit := true })] })
     clocked s = true ∧
       (tierComps s).findSome? (fun c => if holdsRequest s c then nextDirty s c true else none) = some 0) ∧
    (let s := labPool [(0, tile .resident 0xFFFF)] [(0x251002, 3, 40), (0x251003, 3, 1)]
     clocked s = true ∧ heldWriteback s = none ∧ limitWriteback s = none ∧ (prefetchNext s).2 = false ∧
       (tierComps s).findSome? (fun c => if owesWriteback s c then nextDirty s c false else none) = some 0 ∧
       hasBudget s 0 0 1 1 = true ∧ hasBudget s 1 0 1 5 = true) ∧
    (let s := (labPool [(0, tile .resident 3)] [(0x251002, 3, 40)]).onTier (fun t => { t with
       flushes := [(3, { lines := [0, 1], stale := [], written := 0, held := 0 })] })
     clocked s = true ∧ heldWriteback s = none ∧ limitWriteback s = none ∧ (prefetchNext s).2 = false ∧
       (tierComps s).findSome? (fun c => if owesWriteback s c then nextDirty s c false else none) = none ∧ nextFlush s = some 0) ∧
    (let s := (labPool [(0, tile .resident 0xFFFFFF)] [(0x251002, 3, 40), (0x251003, 3, 1)]).onTm
       (fun t => { t with used := [(useKey 0 0 1, 2 ^ 32)] })
     clocked s = true ∧ heldWriteback s = none ∧
       (tierComps s).findSome? (fun c => if atDirtyLimit s c && owesWriteback s c then nextDirty s c false else none) = some 0 ∧
       limitWriteback s = some 0 ∧ hasBudget s 0 0 1 1 = false) ∧
    (let f : Flush := { lines := [0, 1], stale := [], written := 2, held := 0 }
     let s := (labPool [(0, tile .resident 4)] []).onTier (fun t => { t with flushes := [(3, f)] })
     clocked s = true ∧ s.tier.flushes.get? 3 = some f ∧
       (f.lines.filter (fun l => match tileAt s (l / 512) with | some t => bit t.dirty (l % 512) | none => false)).all
         (lineLost s) = true) ∧
    (let s := labPool [(0, { tile .resident 0 with zeroLeft := 2 })] []
     clocked s = true ∧ nextZero s = some 1 ∧ lineLost s 1 = false ∧
       hasBudget s 1 (quadrantOf s (lineComp s 1) (1 / 512)) 2 5 = true) ∧
    (let s := (labPool [] []).onTier (fun t => { t with marked := [3] })
     clocked s = true ∧ s.tier.marked = [3] ∧ tileAt s 3 = none ∧
       hasBudget s 0 (quadrantOf s (lineComp s (3 * 512)) 3) 2 512 = true) ∧
    (let s := (labPool [(3, tile .resident 0)] []).onTier (fun t => { t with touchQ := [3] })
     clocked s = true ∧ limitWriteback s = none ∧ windowComps s = [] ∧ s.tier.touchQ = [3] ∧ prefetchable s 3 = false) ∧
    (let s := labCoded [] [3]
     clocked s = true ∧ limitWriteback s = none ∧ windowComps s = [] ∧ s.tier.touchQ = [3] ∧ prefetchable s 3 = true ∧
       (prefetchTile s (lineComp s (3 * 512)) 3).any (fun t => (tileAt t 3).isSome) = true) ∧
    (let s := labCoded [(0x254003, 3, 2 ^ 32), (0x254006, 3, 2 ^ 32 + 3)] []
     clocked s = true ∧ limitWriteback s = none ∧ windowComps s = [3] ∧ (prefetchComp (s, false) 3).2 = true) := by
  decide +kernel

theorem witness_TierRepairsRun :
    (let s := (labPool [(0, tile .resident 0)] []).onTier (fun t => { t with repoints := [(3 * 16 + 2, 1)] })
     clocked s = true ∧ s.tier.repoints.get? (3 * 16 + 2) = some 1 ∧ toFetch s 3 (windowOf s 3 2) = 0) ∧
    ((labPool [] []).onTier (fun t => { t with recover := [(7, 1)] })).tier.recover.get? 7 = some 1 ∧
    (let s := labPool [(0, tile .resident 0)] []
     clocked s = true ∧ patrolPass s = (0, cfg s 0x260303, []) ∧ 511 < reservationBase ∧ patrolled s 511 = true ∧
       ([] : List Nat).contains 511 = false ∧ hasBudget s 0 (patrolQuadrant s 511) 2 1 = true) := by decide +kernel

/-- The lab with decode-table slot 1 as given. -/
def labSlot (d : DSlot) : State := { lab with codec := { slots := [(1, d)], recent := [] } }

theorem witness_TableEventsRun :
    (clocked (labSlot { loading := some 77, gen := 0xFFFF }) = true ∧
      (dslot (labSlot { loading := some 77, gen := 0xFFFF }) 1).loading = some 77) ∧
    (let s := labSlot { state := 2, gen := 4, image := 77, before := 9 }
     (dslot s 1).state = 2 ∧ decodeRefs s (dslot s 1).before + moverRefs s (dslot s 1).before = 0) := by decide +kernel

/-! ## Witnesses: periods, gates, idle parts, rounds, searches and compositions -/

theorem witness_TrafficTimersRun :
    (let s := putGate lab 4 { running := some 1, entry := 2, since := 5 }
     clocked s = true ∧ (gateOf s 4).running = some 1) ∧
    (let s := putGate lab 4 { pendingAt := some 2000, nextBank := 1 }
     clocked s = true ∧ (gateOf s 4).pendingAt = some 2000) ∧
    (let x : Nat × Msg × Nat := (4, { hostMsg 0 [] with opcode := opRdNc }, 0)
     let s := lab.onTm (fun t => { t with held := [x] })
     clocked s = true ∧ inService s = true ∧
       s.tm.held.find? (fun x => decide (x.1 = 4) && decide (x.2.1.tc = 0)) = some x) := by decide +kernel

theorem witness_IdlePartsAreGated :
    (inService lab = true ∧ lab.compute.gated.contains 191 = false) ∧
    (let s := lab.onPower (fun p => { p with state := pwTrim })
     inService s = true ∧ s.power.state = pwTrim ∧ (coreOf s 23).pllOff = false ∧
       (usedSlots s).any (fun i => bit (rsCores (slotDesc s i)) 23) = false) ∧
    (let s := (lab.onPower (fun p => { p with state := pwTrim })).onSearch (fun k => { k with
       parts := [(0, { state := 2, desc := 2 ^ 8 * 255 })] })
     inService s = true ∧ s.power.state = pwTrim ∧
       (List.range 8).any (fun b => bankPowered s b && !s.search.gated.contains b) = true) := by decide +kernel

/-- The lab with reduce slot 2 `ARMED` for composition 3: one line, members 0 and 1 of the default. -/
def labReduce (r : RSlot) : State :=
  (withObjs [(0x271007, 2, 1), (0x271002, 2, 3 * 2 ^ 48)] lab).onCompute (fun x => { x with slots := [(2, r)] })

theorem witness_ReduceEventsRun :
    (let s := labReduce { lines := [(0, { stored := true })] }
     clocked s = true ∧ slotState s 2 = 1 ∧ (List.range (rsLines (slotDesc s 2))).all (fun k => (rline (rslot s 2) k).stored) = true ∧
       (rslot s 2).unmirrored = []) ∧
    (let s := labReduce { lines := [(0, { stored := false })], opened := some 300 }
     clocked s = true ∧ slotState s 2 = 1 ∧
       (List.range (rsLines (slotDesc s 2))).all (fun k => (rline (rslot s 2) k).stored) = false ∧ (rslot s 2).opened = some 300) ∧
    (let s := labReduce { lines := [(0, { stored := true })], unmirrored := [0] }
     clocked s = true ∧ slotState s 2 = 1 ∧ (rslot s 2).unmirrored ≠ []) := by decide +kernel

/-- The lab with partition 1 as given. -/
def labPart (x : Part) : State := lab.onSearch (fun k => { k with parts := [(1, x)] })

/-- An update of entry 5 by a request that port 4 carried. -/
def upd : SUpd := { idx := 5, record := some 1, source := .req (hostMsg 0 []) (some 4) }

theorem witness_SearchEventsRun :
    (let c : WalkCtx := { host := 5, comp := 3, part := 1, key := 0, group := 0, mask := 0, plen := 0, pos := 0, limit := 10, used := 0 }
     let s := lab.onSearch (fun k => { k with ctxs := [(1023, c)] })
     clocked s = true ∧ s.search.ctxs.get? 1023 = some c) ∧
    (let s := labPart { state := 2, desc := 255 * 2 ^ 4, queue := [upd] }
     clocked s = true ∧ (partOf s 1).queue = upd :: [] ∧ (partOf s 1).state = 2 ∧ upd.source = .req (hostMsg 0 []) (some 4) ∧
       upd.begun = false ∧ upd.record.isSome = true ∧ pdAll (partOf s 1).desc = true ∧
       hasBudget s 2 0 5 (updateCost (partOf s 1).desc upd) = true) ∧
    (let s := labPart { state := 2, desc := 255 * 2 ^ 4, queue := [{ upd with begun := true }], hidden := [5] }
     (partOf s 1).queue = { upd with begun := true } :: [] ∧ (partOf s 1).state = 2 ∧ pdAll (partOf s 1).desc = true) ∧
    (let s := labPart { state := 2, queue := [upd] }
     (partOf s 1).queue = upd :: [] ∧ (partOf s 1).state = 2 ∧ pdAll (partOf s 1).desc = false ∧
       hasBudget s 2 0 5 (updateCost (partOf s 1).desc upd) = true) ∧
    (let s := (labPart { state := 2, queue := [upd] }).onTm (fun t => { t with used := [(useKey 2 0 5, 2 ^ 32)] })
     (partOf s 1).queue = upd :: [] ∧ upd.begun = false ∧ hasBudget s 2 0 5 (updateCost (partOf s 1).desc upd) = false) ∧
    (let s := labPart { state := 2, desc := 2 ^ 20 - 1 }
     clocked s = true ∧ (partOf s 1).state = 2 ∧ 0 < pdRows (partOf s 1).desc ∧ s.search.scanned.getD 1 0 / 2 ^ 0 % 2 = 0 ∧
       hasBudget (reachTime s s.search.scanFrom) 2 0 2 1 = true) ∧
    ((partOf (labPart { state := 1 }) 1).state = 1 ∧ (partOf (labPart { state := 1 }) 1).destroying = false) ∧
    ((partOf (labPart { state := 1, destroying := true }) 1).state = 1 ∧
      (partOf (labPart { state := 1, destroying := true }) 1).destroying = true) ∧
    (clocked (labPart { state := 3 }) = true ∧ (partOf (labPart { state := 3 }) 1).state = 3) := by decide +kernel

theorem witness_CompositionEventsRun :
    (let s := (labPart { state := 2 }).onComps (fun c => { c with
       comps := [(3, { state := 2, owner := 5, members := [(5, 1)], waitExts := [0], waitParts := [1] })] })
     clocked s = true ∧ (compOf s 3).state = 2 ∧ (compOf s 3).waitWalk = false ∧
       (∀ i ∈ (compOf s 3).waitExts, (extOf s i).state = 1) ∧ ∀ p ∈ (compOf s 3).waitParts, (partOf s p).state = 2) ∧
    (let v : VecWrite := { host := 5, tag := 0, deadline := 100 }
     let s := lab.onComps (fun c => { c with vecs := [v] })
     clocked s = true ∧ s.comps.vecs.find? (fun v => decide (v.host = 5) && decide (v.tag = 0)) = some v) ∧
    (let s := lab.onComps (fun c => { c with recs := [(2 ^ 20 - 1, { state := 3, offerEnd := some 100 })] })
     clocked s = true ∧ (recOf s (2 ^ 20 - 1)).state = 3 ∧ (recOf s (2 ^ 20 - 1)).offerEnd = some 100) := by decide +kernel

/-! ## Witnesses: links and ports -/

/-- The lab with port 4's link in a state, with these objects. -/
def labLink (st : Nat) (l : Link) (objs : List (Nat × Nat × Nat)) : State :=
  setLink (withObjs ([(0x212007, 4, st)] ++ objs) lab) 4 l

theorem witness_LightAndLanesRun :
    (let s := withObjs [(0x216004, 63, 2)] lab
     (63 : Nat) < 64 ∧ clocked s = true ∧ (1499 : Int) < sint (getObj s 0x216003 63) 32 ∧ getObj s 0x216004 63 = 2) ∧
    (let s := withObjs [(0x216004, 63, 1)] lab
     clocked s = true ∧ sint (getObj s 0x216003 63) 32 + 50 ≤ 1550 ∧ getObj s 0x216004 63 = 1) ∧
    (let s := withObjs [(0x215106, laneKey 63 7, 100)] lab
     let s1 := setObj s 0x215103 (laneKey 63 7) (i32 100)
     (7 : Nat) < 8 ∧ s.power.state ≠ pwOff ∧ s.power.state ≠ pwWatch ∧ sint (getObj s 0x215106 (laneKey 63 7)) 32 ≤ 100 ∧
       getObj s1 0x215105 (laneKey 63 7) ≠ 1) ∧
    (let s := withObjs [(0x215106, laneKey 63 7, 100), (0x215105, laneKey 63 7, 1)] lab
     let s1 := setObj s 0x215103 (laneKey 63 7) (i32 99)
     s.power.state ≠ pwOff ∧ s.power.state ≠ pwWatch ∧ (99 : Int) < sint (getObj s 0x215106 (laneKey 63 7)) 32 ∧
       getObj s1 0x215105 (laneKey 63 7) ≠ 0) ∧
    (let s := withObjs [(0x215106, laneKey 63 7, 100), (0x215105, laneKey 63 7, 1)] lab
     s.power.state ≠ pwOff ∧ s.power.state ≠ pwWatch ∧ sint (getObj s 0x215106 (laneKey 63 7)) 32 ≤ 100 ∧
       getObj (setObj s 0x215103 (laneKey 63 7) (i32 100)) 0x215105 (laneKey 63 7) = 1) ∧
    (let s := withObjs [(0x215106, laneKey 63 7, 100)] lab
     s.power.state ≠ pwOff ∧ s.power.state ≠ pwWatch ∧ (99 : Int) < sint (getObj s 0x215106 (laneKey 63 7)) 32 ∧
       getObj (setObj s 0x215103 (laneKey 63 7) (i32 99)) 0x215105 (laneKey 63 7) = 0) := by decide +kernel

theorem witness_LinkStartRuns :
    (clocked (labLink lsTrain {} []) = true ∧ linkState (labLink lsTrain {} []) 4 = lsTrain) ∧
    (clocked (labLink lsAlign {} []) = true ∧ linkState (labLink lsAlign {} []) 4 = lsAlign ∧
      ¬ (unclaimedSpare (labLink lsAlign {} []) = true ∧ portRole (labLink lsAlign {} []) 4 = roleTwin)) := by decide +kernel

theorem witness_LinkKeepsRunning :
    (clocked (labLink lsParam {} []) = true ∧ linkState (labLink lsParam {} []) 4 = lsParam ∧
      ¬ (unclaimedSpare (labLink lsParam {} []) = true ∧ portRole (labLink lsParam {} []) 4 = roleTwin)) ∧
    (clocked (labLink lsSecure {} []) = true ∧ linkState (labLink lsSecure {} []) 4 = lsSecure) ∧
    (clocked lab = true ∧ linkState lab 4 = lsUp) ∧
    (clocked (labLink lsRetrain {} []) = true ∧ linkState (labLink lsRetrain {} []) 4 = lsRetrain) := by decide +kernel

/-- Slot 0 of a flit of seven empty slots, its CRC field not set. -/
def slot0 (seq : Nat) (idle : Bool) : Slot0 := { seq := seq, idle := idle }

/-- The CRC of that flit. -/
def crcOf (z : Slot0) : Nat := flitCrc z.toSlot (List.replicate 7 0)

/-- That flit with its CRC, `d` added to it. -/
def flit (z : Slot0) (d : Nat) : Flit :=
  { slot0 := ({ z with crc := crcOf z + d } : Slot0).toSlot, slots := List.replicate 7 0 }

/-- The CRC of a flit against its field: equal, and different when one is added. -/
theorem flit_crc (z : Slot0) (d : Nat) : flitCrc (flit z d).slot0 (flit z d).slots = crcOf z ∧
    (Slot0.ofSlot (flit z d).slot0).crc = (crcOf z + d) % 2 ^ 32 :=
  ⟨flitCrc_crc z _ _, ofSlot_crc _⟩

/-- A field of slot 0 that lies below the CRC field does not depend on it. -/
theorem slot0_low (z : Slot0) (c lo len : Nat) (h : lo + len ≤ 224) :
    bits ({ z with crc := c } : Slot0).toSlot.toNat lo len = bits z.toSlot.toNat lo len := by
  have key : ∀ v : Nat, bits v lo len = bits (bits v 0 224) lo len := by
    intro v
    obtain ⟨k, hk⟩ := Nat.exists_eq_add_of_le h
    simp only [bits, Nat.shiftRight_eq_div_pow, hk, Nat.pow_zero, Nat.div_one]
    rw [Nat.pow_add 2 (lo + len) k, Nat.pow_add 2 lo len, Nat.mul_assoc, Nat.mod_mul_right_div_self, Nat.mod_mod_of_dvd]
    exact Nat.dvd_mul_right ..
  rw [key, low_crc, ← key]

/-- The lab with port 4 not encrypting. -/
def labPlain : State := withObjs [(0x213001, 4, 0)] lab

theorem witness_FlitsAreReceived :
    (clocked labPlain = true ∧ linkState labPlain 4 = lsUp ∧
      (let f : Flit := { flit (slot0 0 false) 0 with codewords := [List.range 16] }
       f.uncorrectable = true ∧ 0 < f.lostCodewords) ∧
      (let f : Flit := { flit (slot0 0 false) 0 with codewords := [List.range 15], spoiled := true }
       f.uncorrectable = true ∧ f.lostCodewords = 0)) ∧
    (let f := flit (slot0 0 false) 1
     f.uncorrectable = false ∧ f.slots.length = 7 ∧ flitCrc f.slot0 f.slots ≠ (Slot0.ofSlot f.slot0).crc) ∧
    (let f := flit (slot0 4095 false) 0
     let s0 := correctedSymbols labPlain 4 f
     let z := Slot0.ofSlot f.slot0
     f.uncorrectable = false ∧ f.slots.length = 7 ∧ flitCrc f.slot0 f.slots = z.crc ∧ z.idle = false ∧
       z.seq ≠ (linkOf s0 4).rxExt % 4096) ∧
    (let f := flit { slot0 0 false with keyPhase := 1 } 0
     let s0 := correctedSymbols lab 4 f
     let z := Slot0.ofSlot f.slot0
     clocked lab = true ∧ linkState lab 4 = lsUp ∧ f.uncorrectable = false ∧ f.slots.length = 7 ∧
       flitCrc f.slot0 f.slots = z.crc ∧ z.seq = (linkOf s0 4).rxExt % 4096 ∧ openFlit s0 4 z f = none) ∧
    (let f := flit (slot0 0 false) 0
     let s0 := correctedSymbols labPlain 4 f
     let z := Slot0.ofSlot f.slot0
     f.uncorrectable = false ∧ f.slots.length = 7 ∧ flitCrc f.slot0 f.slots = z.crc ∧
       openFlit s0 4 z f = some (f.slots, false) ∧ z.idle = false ∧ z.seq = (linkOf s0 4).rxExt % 4096) ∧
    (let f := flit (slot0 0 true) 0
     let s0 := correctedSymbols labPlain 4 f
     let z := Slot0.ofSlot f.slot0
     f.uncorrectable = false ∧ f.slots.length = 7 ∧ flitCrc f.slot0 f.slots = z.crc ∧
       openFlit s0 4 z f = some (f.slots, false) ∧ z.idle = true) := by
  have hk : ∀ z : Slot0, flitCrc (flit z 0).slot0 (flit z 0).slots = (Slot0.ofSlot (flit z 0).slot0).crc := by
    intro z
    rw [(flit_crc z 0).1, (flit_crc z 0).2]
    exact (Nat.mod_eq_of_lt (flitCrc_lt _ _)).symm
  have hi : ∀ z : Slot0, (Slot0.ofSlot (flit z 0).slot0).idle = (Slot0.ofSlot z.toSlot).idle := by
    intro z
    show bit _ 29 = bit _ 29
    rw [bit_eq_bits, bit_eq_bits, flit, slot0_low _ _ _ _ (by decide)]
  have hs : ∀ z : Slot0, (Slot0.ofSlot (flit z 0).slot0).seq = (Slot0.ofSlot z.toSlot).seq := by
    intro z
    exact slot0_low _ _ _ _ (by decide)
  have hp : ∀ z : Slot0, (Slot0.ofSlot (flit z 0).slot0).keyPhase = (Slot0.ofSlot z.toSlot).keyPhase := by
    intro z
    exact slot0_low _ _ _ _ (by decide)
  have he : encrypting labPlain 4 = false := by decide +kernel
  have hc : ∀ s z d, correctedSymbols s 4 (flit z d) = s := fun _ _ _ => rfl
  have ho : ∀ z f, openFlit labPlain 4 z f = some (f.slots, false) := by
    intro z f
    simp [openFlit, he]
  have hn : openFlit lab 4 (Slot0.ofSlot (flit { slot0 0 false with keyPhase := 1 } 0).slot0)
      (flit { slot0 0 false with keyPhase := 1 } 0) = none := by
    have e : encrypting lab 4 = true := by decide +kernel
    have k : rxKeyFor (linkOf lab 4) (Slot0.ofSlot ({ slot0 0 false with keyPhase := 1 } : Slot0).toSlot).keyPhase = none := by
      decide +kernel
    unfold openFlit
    rw [hp]
    simp only [e, k, if_true]
  have h7 : ∀ z d, (flit z d).uncorrectable = false ∧ (flit z d).slots.length = 7 := fun _ _ => ⟨rfl, rfl⟩
  simp only [hc, ho, hn, hk, hi, hs, h7, true_and, and_true]
  refine ⟨by decide +kernel, ?_, by decide +kernel⟩
  rw [(flit_crc _ 1).1, (flit_crc _ 1).2]
  have := flitCrc_lt (slot0 0 false).toSlot (List.replicate 7 0)
  simp only [crcOf]
  omega

/-- A flit sent and not acknowledged. -/
def sent : Sent := { ext := 0, slots := [], cont := 0, credits := 0, sentAt := 30 }

theorem witness_LinkTimersRun :
    (let s := labLink lsUp { replay := [sent] } []
     clocked s = true ∧ (linkOf s 4).replay = sent :: [] ∧ linkState s 4 = lsUp) ∧
    (let s := labLink lsUp {} [(0x213001, 4, 1)]
     clocked s = true ∧ encrypting s 4 = true ∧ linkState s 4 = lsUp ∧ (linkOf s 4).rekeying = false) ∧
    (let s := labLink lsUp { rekeying := true } []
     clocked s = true ∧ (linkOf s 4).rekeying = true ∧ portDown s 4 = false) ∧
    (let s := (labLink lsUp {} [(0x214001, 4, 1), (0x21200B, 4, 2 ^ 512 - 1)]).onPower (fun p => { p with state := pwTrim })
     clocked s = true ∧ s.power.state = pwTrim ∧ linkState s 4 = lsUp ∧ portRole s 4 = roleHost ∧ pbNarrow (peerParams s 4) = true ∧
       getObj s 0x214001 4 = 1 ∧ (s.tm.gates.getD 4 {}).running = none ∧ (linkOf s 4).narrow = false) ∧
    (let s := (labLink lsUp { narrow := true, rxWide := true } []).onPower (fun p => { p with state := pwTrim })
     clocked s = true ∧ (linkOf s 4).narrow = true ∧ (linkOf s 4).rxWide = true ∧ s.power.state = pwTrim) ∧
    (let s := labLink lsRetrain { narrow := true } []
     clocked s = true ∧ (linkOf s 4).narrow = true ∧ s.power.state ≠ pwTrim) ∧
    (let s := (withObjs [(0x212007, 8, 5)] lab).onSecurity (fun x => { x with holdoff := [(8, 70)] })
     clocked s = true ∧ s.security.holdoff.get? 8 = some 70 ∧ linkState s 8 = lsSecure ∧ requestsSession s 8 = true) := by
  decide +kernel

theorem witness_EgressSlotsRun :
    (let s := labLink lsUp { replay := List.replicate 4095 sent } []
     clocked s = true ∧ linkState s 4 = lsUp ∧ flitWindow s 4 ≤ (linkOf s 4).replay.length) ∧
    (clocked lab = true ∧ linkState lab 4 = lsUp ∧ (linkOf lab 4).replay.length < flitWindow lab 4 ∧ (linkOf lab 4).rest = [] ∧
      (pickClass (countShaperWait lab 4) 4).isNone = true) ∧
    (let s := emit (setLink lab 4 { credits := [(0, 100)] }) 4 { hostMsg 0 [] with opcode := opResp }
     clocked s = true ∧ linkState s 4 = lsUp ∧ (linkOf s 4).replay.length < flitWindow s 4 ∧ (linkOf s 4).rest = [] ∧
       (pickClass (countShaperWait s 4) 4).isSome = true) ∧
    (let s := labLink lsUp { rest := [1, 2], build := [(3, 5)], serial := 5 } []
     clocked s = true ∧ linkState s 4 = lsUp ∧ (linkOf s 4).replay.length < flitWindow s 4 ∧ (linkOf s 4).rest = 1 :: [2] ∧
       (linkOf s 4).build.any (fun y => decide (y.2 = (linkOf s 4).serial)) = true) ∧
    (let s := labLink lsUp { rest := [1, 2], build := [(0, 0)], serial := 5, cont := 1 } []
     (linkOf s 4).replay.length < flitWindow s 4 ∧ (linkOf s 4).rest = 1 :: [2] ∧ (linkOf s 4).build.length = (linkOf s 4).cont) ∧
    (let s := labLink lsUp { rest := [1, 2], build := [(0, 0)], serial := 5, cont := 3 } []
     clocked s = true ∧ linkState s 4 = lsUp ∧ (linkOf s 4).replay.length < flitWindow s 4 ∧ (linkOf s 4).rest = 1 :: [2] ∧
       (linkOf s 4).build.any (fun y => decide (y.2 = (linkOf s 4).serial)) = false ∧
       (linkOf s 4).build.length ≠ (linkOf s 4).cont) := by
  refine ⟨⟨by decide +kernel, by decide +kernel, ?_⟩, by decide +kernel⟩
  have h : (linkOf (labLink lsUp { replay := List.replicate 4095 sent } []) 4).replay = List.replicate 4095 sent := rfl
  rw [h, List.length_replicate]
  decide +kernel

/-! ## Witnesses: the twin, health, power, clocks, starts, heat and the steward -/

/-- The lab with its pair in a state. -/
def labPair (st : Nat) : State := lab.onTwin (fun t => { t with pair := st })

/-- A record of line 7. -/
def mrec : MRec := { kind := 1, comp := 3, key := 7 }

theorem witness_TwinTimersRun :
    (clocked (labPair psQuarantined) = true ∧ (labPair psQuarantined).twin.pair = psQuarantined) ∧
    (let s1 := addSeq (reachTime lab ((lab.now / 100000 + 1) * 100000)) 0x2B1001 0 1
     let s2 := s1.onTwin (fun t => { t with silentTurns := t.silentTurns + 1 })
     clocked lab = true ∧ lab.twin.pair ≠ psQuarantined ∧ silent ((neighbours s2).foldl turnOf s2) = false) ∧
    (let s := (withObjs [(0x212005, 12, 1)] lab).onTwin (fun t => { t with silentTurns := 9, wentDown := [12] })
     let s1 := addSeq (reachTime s ((s.now / 100000 + 1) * 100000)) 0x2B1001 0 1
     let s2 := s1.onTwin (fun t => { t with silentTurns := t.silentTurns + 1 })
     clocked s = true ∧ s.twin.pair ≠ psQuarantined ∧ silent ((neighbours s2).foldl turnOf s2) = true) ∧
    (let s := labPair psSend
     clocked s = true ∧ s.twin.pair = psSend ∧ inService s = true ∧ (takeGroup 7 (s.twin.copyLeft.map (refreshRec s))).1 = []) ∧
    (let s := (labPair psSend).onTwin (fun t => { t with copyLeft := [{ mrec with copy := true }] })
     let x := (takeGroup 7 (s.twin.copyLeft.map (refreshRec s))).1
     clocked s = true ∧ s.twin.pair = psSend ∧ inService s = true ∧ x.isEmpty = false ∧ copyFits s x = true) ∧
    (let s := ((labPair psSend).onTwin (fun t => { t with copyLeft := [{ mrec with copy := true }] })).onTm
       (fun t => { t with used := [(useKey 0 0 3, 2 ^ 32)] })
     let x := (takeGroup 7 (s.twin.copyLeft.map (refreshRec s))).1
     clocked s = true ∧ s.twin.pair = psSend ∧ inService s = true ∧ x.isEmpty = false ∧ copyFits s x = false) ∧
    (let s := lab.onTwin (fun t => { t with takeover := [(63, 9)] })
     clocked s = true ∧ s.twin.takeover.get? 63 = some 9) ∧
    (let s := (labPair psAlone).onTwin (fun t => { t with call := some (3, 40) })
     clocked s = true ∧ s.twin.call = some (3, 40) ∧ s.twin.pair = psAlone ∧ (sparePorts s 3).any (linkUp s) = false) ∧
    (let s := (labPair psSync).onTwin (fun t => { t with call := some (3, 40) })
     clocked s = true ∧ s.twin.call = some (3, 40) ∧ s.twin.pair ≠ psAlone) ∧
    (let s := lab.onTwin (fun t => { t with warnAt := some 40, twinTags := some 2 })
     clocked s = true ∧ s.twin.warnAt = some 40 ∧ s.twin.twinTags = some 2) := by decide +kernel

/-- The lab as the serving side of a pair `IN_SYNC` that drills these classes. -/
def labDrill (classes : Nat) : State :=
  (withObjs [(0x2B5001, 0, 1), (0x2B5003, 0, classes), (0x212007, 20, 6), (0x212004, 20, 2)] lab).onTwin (fun t => { t with pair := psSync, serving := true })

/-- The start of the drill that is due: whether a class has a target, whether the drill's cost is left in the period, whether it
fits the whole budget, and whether less than 1 ms has passed. -/
def drillTry (s : State) : Bool × Bool × Bool × Bool :=
  let s0 := reachTime s s.health.nextDrill
  let cs := [1, 2, 3, 4, 5].filter (fun c => bit (cfg s0 0x2B5003) (c - 1) && decide (0 < targetCount s0 c))
  let s2 := (drawDice (drawDice s0).2).2
  let k := drillCost (cs.getD ((drawDice s0).1 % cs.length) 0)
  (!cs.isEmpty, hasBudget s2 k.1 0 7 k.2, decide (k.2 ≤ budgetOf s0 k.1 0 7), decide (s0.now < s.health.nextDrill + 1000000))

/-- The lab with a path-flap drill due that has a target. -/
def labFlap : State := (labDrill 2).onTm (fun t => { t with paths := [(1, 12)] })

/-- The same with the drill budget of the period used. -/
def labUsed : State := labFlap.onTm (fun t => { t with used := [(useKey 1 0 7, 2 ^ 32)] })

theorem witness_HealthEventsRun :
    (clocked (labDrill 0) = true ∧ drillsRun (labDrill 0) = true ∧ (drillTry (labDrill 0)).1 = false) ∧
    (clocked labFlap = true ∧ drillsRun labFlap = true ∧ drillTry labFlap = (true, true, true, true)) ∧
    (clocked labUsed = true ∧ drillsRun labUsed = true ∧ drillTry labUsed = (true, false, true, true)) ∧
    (let s := { labUsed with now := labUsed.health.nextDrill + 1000000 }
     clocked s = true ∧ drillsRun s = true ∧ drillTry s = (true, false, true, false)) ∧
    (let s := withObjs [(0x236004, 7 * 2 ^ 8, 0)] labUsed
     clocked s = true ∧ drillsRun s = true ∧ drillTry s = (true, false, false, true)) ∧
    (let d : Drill := { seq := 1, cls := 2, comp := 0, target := 12, started := 5, back := 12 }
     let s := lab.onHealth (fun h => { h with drill := some d })
     clocked s = true ∧ s.health.drill = some d ∧ d.cls = 2 ∧ d.phase = 0 ∧ outcomeOf s d true ≠ 1) := by decide +kernel

/-- The lab in a power state. -/
def labPower (st : Nat) : State := lab.onPower (fun p => { p with state := st })

theorem witness_StewardEventsRun :
    (let s := lab.onDict (fun d => { d with watchdog := some 40 })
     s.dict.watchdog = some 40 ∧ stewardUp s = true) ∧ (lab.onDict (fun d => { d with watchdog := none })).dict.watchdog = none ∧ lab.power.steward = 2 ∧
    (labPower pwStarting).power.steward = 2 ∧ (lab.onPower (fun p => { p with steward := 1 })).power.steward = 1 ∧
    (let s := lab.onPower (fun p => { p with steward := 4 })
     s.power.steward = 4 ∧ s.power.steward ≠ 1 ∧ s.power.steward ≠ 2 ∧ stewardUp s = false) ∧
    (lab.power.state ≠ pwOff ∧ lab.security.rngOk = true) ∧
    (let s := lab.onSecurity (fun x => { x with rngOk := false })
     s.power.state ≠ pwOff ∧ s.security.rngOk = false) := by decide +kernel

theorem witness_PowerLossEventsRun :
    ((labPower pwOff).power.losing = none ∧ (labPower pwOff).power.state = pwOff) ∧
    (lab.power.losing = none ∧ lab.power.state ≠ pwOff ∧ lab.power.start = none) ∧
    ([1, 2].all (fun k =>
      let s := (labPower pwStarting).onPower (fun p => { p with start := some { kind := 1, cause := 0, step := k } })
      decide (s.power.losing = none) && decide (s.power.state = pwStarting) &&
        decide (s.power.start = some { kind := 1, cause := 0, step := k })) = true) ∧
    ((lab.onPower (fun p => { p with losing := some 3 })).power.losing = some 3) ∧
    (let stage := fun s : State =>
       let s1 := setObj s 0x2D0003 0 (setBits (cfg s 0x2D0003) 3 1 0)
       (setBitList (cfg (post s1 0x0D02 none (pay [(1, 3), (2, capInForce s1)])) 0x2D0003) 4).length
     bit (cfg lab 0x2D0003) 3 = true ∧ 2 ≤ stage lab ∧
       (let s := withObjs [(0x2D0003, 0, 2 ^ 3 + 1)] lab
        s.power.state ≠ pwOff ∧ bit (cfg s 0x2D0003) 3 = true ∧ stage s ≤ 1)) ∧
    (let cap := capInForce lab
     let capped := lab.onPower (fun p => { p with cappedAt := some 0 })
     inService lab = true ∧ capInForce (setObj lab 0x2D0002 0 (cap + 1)) < cap + 1 ∧ lab.power.cappedAt = none ∧
       (inService capped = true ∧ capInForce (setObj capped 0x2D0002 0 (cap + 1)) < cap + 1 ∧ capped.power.cappedAt = some 0 ∧
         periodOf capped.now < 0 + 1024) ∧
       100 * 0 < 95 * capInForce (setObj lab 0x2D0002 0 0) ∧
       (cap ≤ capInForce (setObj lab 0x2D0002 0 cap) ∧ 95 * capInForce (setObj lab 0x2D0002 0 cap) ≤ 100 * cap)) := by
  decide +kernel

theorem witness_ReferencesAndResetsRun :
    (lab.power.losing = none ∧ lab.power.state ≠ pwOff ∧ lab.power.state ≠ pwWatch) ∧
    (halted.power.losing = none ∧ halted.power.halted = true) ∧
    (let heard : List (Nat × Int) := (portLanes lab 4).map (fun l => (laneKey (physOf 4) l, 2000))
     let watch := fun (enable : Nat) (p : Power) =>
       withObjs [(0x2D2002, 0, enable), (0x2D2004, 0, 2 ^ 4)] (lab.onPower (fun _ => { p with state := pwWatch }))
     let base := fun s : State => (setBitList (cfg s 0x2D2004) 256).filter (fun p => (portLanes s p).all (fun l =>
       (heard.find? (fun r => decide (r.1 = laneKey (physOf p) l))).any (fun r => powerPresent s (physOf p) l r.2)))
     let fresh := fun s : State =>
       ((base s).filter (fun p => s.power.watchSeen.contains p)).filter (fun p => !s.power.watchPresent.contains p)
     let hot := fun (s : State) (temp : Int) => decide (sint (cfg s 0x2D2005) 32 < temp)
     (let s := watch 3 lab.power
      s.power.state = pwWatch ∧ fresh s = [] ∧ hot s (sint (cfg s 0x2D2005) 32) = false) ∧
     (let s := watch 3 { lab.power with watchHot := true }
      s.power.state = pwWatch ∧ fresh s = [] ∧ s.power.watchHot = true) ∧
     (let s := watch 1 { lab.power with watchSeen := [4] }
      s.power.state = pwWatch ∧ fresh s = 4 :: [] ∧ bit (cfg s 0x2D2002) 0 = true) ∧
     (let s := watch 2 lab.power
      s.power.state = pwWatch ∧ fresh s = [] ∧ hot s (sint (cfg s 0x2D2005) 32 + 1) = true ∧ s.power.watchHot = false ∧
        bit (cfg s 0x2D2002) 1 = true)) := by decide +kernel

/-- A ZX964 that asks its blocks for `QUIET`, for `OFF` with a trunk `UP`, and for `QUIET` with a request outstanding. -/
def labShake (target : Nat) (s : State) : State :=
  s.onPower (fun p => { p with shake := some { target := target, deadline := 90, who := .steward } })

theorem witness_HandshakesEnd :
    (let h : Shake := { target := 3, deadline := 90, who := .steward }
     (labShake 3 lab).power.shake = some h ∧ shakeRefusal (labShake 3 lab) h.asks = none ∧ shakeDelay (labShake 3 lab) = none) ∧
    (let h : Shake := { target := 5, deadline := 90, who := .steward }
     (labShake 5 lab).power.shake = some h ∧ (shakeRefusal (labShake 5 lab) h.asks).isSome = true) ∧
    (let h : Shake := { target := 3, deadline := 90, who := .steward }
     let s := labShake 3 (lab.onTm (fun t => { t with hostReqs := [hostReq] }))
     s.power.shake = some h ∧ shakeRefusal s h.asks = none ∧ shakeDelay s = some 0x03) := by decide +kernel

theorem witness_StartStepsRun :
    ([1, 3, 4, 5, 6, 8].all (fun k =>
      let st : Start := { kind := 2, cause := 0, step := k }
      let s := (labPower pwStarting).onPower (fun p => { p with start := some st })
      decide (s.power.start = some st) && decide (s.power.losing = none) && !s.power.halted && decide (st.step = k)) = true) ∧
    (let st : Start := { kind := 2, cause := 0, step := 2 }
     let s := (labPower pwStarting).onPower (fun p => { p with start := some st })
     s.power.start = some st ∧ s.power.losing = none ∧ s.power.halted = false ∧ (stepTwo s st.kind).isLeft = true) ∧
    (let st : Start := { kind := 1, cause := 0, step := 7 }
     let s := (labPower pwStarting).onPower (fun p => { p with start := some st })
     s.power.start = some st ∧ s.power.losing = none ∧ s.power.halted = false ∧ st.kind = 1) ∧
    (let st : Start := { kind := 1, cause := 0, step := 2 }
     let s := ((labPower pwStarting).onPower (fun p => { p with start := some st })).onSecurity (fun x => { x with images := [(1, (0, 0))] })
     s.power.start = some st ∧ s.power.losing = none ∧ s.power.halted = false ∧ (stepTwo s st.kind).isRight = true) ∧
    (let st : Start := { kind := 2, cause := 0, step := 7 }
     let s := ((labPower pwStarting).onPower (fun p => { p with start := some st })).onSecurity (fun x => { x with images := [(2, (0, 0))] })
     s.power.start = some st ∧ s.power.losing = none ∧ s.power.halted = false ∧ st.kind ≠ 1 ∧
       (stepSeven imageWrite s).isRight = true) ∧
    (let st : Start := { kind := 2, cause := 0, step := 7 }
     let s := (labPower pwStarting).onPower (fun p => { p with start := some st })
     s.power.start = some st ∧ s.power.losing = none ∧ s.power.halted = false ∧ st.kind ≠ 1 ∧
       (stepSeven imageWrite s).isLeft = true) ∧
    clocked (labPower pwStarting) = true := by decide +kernel

theorem witness_HeatEventsRun :
    throttleAt 0 ≤ 10000 ∧ throttleAt 1 ≤ 9500 ∧ throttleAt 2 ≤ 7500 ∧ tripAt 0 ≤ 11000 ∧ tripAt 1 ≤ 10500 ∧ tripAt 2 ≤ 8500 ∧
    lab.power.state ≠ pwOff ∧ lab.power.state ≠ pwWatch ∧ lab.power.losing = none := by decide +kernel

theorem witness_TestAccessRuns :
    lab.power.state ≠ pwOff ∧ lab.power.resetLow = false ∧
    (lab.onPower (fun p => { p with resetLow := true })).power.resetLow = true := by decide +kernel

/-! ## Witnesses: writes of objects -/

/-- Whether a requester's write reaches its object, decided. -/
def reachesB (s : State) (w : Requester) (o : Nat) : Bool :=
  match w with
  | .steward => !stewardWaits s
  | .can => canReached s && (!canLimited s || alwaysOn o)
  | .inband _ _ => inService s && servesHere s

theorem reaches_of (s : State) (w : Requester) (o : Nat) (h : reachesB s w o = true) : Reaches s w o := by
  cases w <;> simp_all [reachesB, Reaches]

/-- Whether a write of an object passes, decided. -/
def writableB (s : State) (w : Requester) (o len v : Nat) : Bool :=
  reachesB s w o && decide (waitsBehind s w = none) && !holdsNow s &&
    decide ((writeCheck s (wholeWrite w o len v) (pieceLimit w)).1 = aeOk)

theorem writable_of (s : State) (w : Requester) (o len v : Nat) (h : writableB s w o len v = true) : Writable s w o len v := by
  simp only [writableB, Bool.and_eq_true, Bool.not_eq_true', decide_eq_true_eq, and_assoc] at h
  exact ⟨reaches_of _ _ _ h.1, h.2⟩

/-- The steward's selectors and staged values. -/
def chosen (sels staged : List (Nat × Nat)) (s : State) : State :=
  s.onDict (fun d => { d with sel := sels.foldl (fun m x => m.put (whoKey .steward x.1) x.2) d.sel
                              staged := staged.foldl (fun m x => m.put (whoKey .steward x.1) x.2) d.staged })

/-- A write of the steward, of host 5 in composition 3, and of the CAN bus. -/
def access (w : Requester) (o v : Nat) : Access := { who := w, idx := o / 256, sub := o % 256, len := 1, value := v }

/-- The row that a write's checks find, and the state that its chapter gives. -/
def rowOf (s : State) (a : Access) : ObjRow :=
  (writeCheck s a (pieceLimit a.who)).2.getD ⟨0, .uint, 1, (0, 0, 0, 0), [], false, false, false, 0, 0⟩

def effectOf (s : State) (a : Access) : Acc := writeObject ap s a (rowOf s a) (a.value % 2 ^ (8 * a.len))

theorem acc_of (x : Acc) (e : Nat) (h : x.1 = e) : x = (e, x.2) := by
  cases x
  simp_all

/-- The lab as the serving side of a pair `IN_SYNC`. -/
def labSync : State := lab.onTwin (fun t => { t with pair := psSync, serving := true })

theorem witness_ObjectWritesRun :
    (let a := access .steward 0x000001 0
     Reaches lab a.who (objNo a.idx a.sub) ∧ objNo a.idx a.sub ≠ 0x291102 ∧ waitsBehind lab a.who = none ∧
       writeCheck lab a (pieceLimit a.who) = (aeNoObject, none) ∧ aeNoObject ≠ aeOk) ∧
    (let a := access .steward 0x212004 1
     let s := withObjs [(0x212007, 0, 6)] lab
     Reaches s a.who (objNo a.idx a.sub) ∧ waitsBehind s a.who = none ∧
       writeCheck s a (pieceLimit a.who) = (aeOk, some (rowOf s a)) ∧
       (effectOf s a).1 = aeState ∧ aeState ≠ aeOk) ∧
    (let a := access .steward 0x211003 1
     Reaches lab a.who (objNo a.idx a.sub) ∧ waitsBehind lab a.who = none ∧
       writeCheck lab a (pieceLimit a.who) = (aeOk, some (rowOf lab a)) ∧
       effectOf lab a = (aeOk, (effectOf lab a).2) ∧ holdsNow lab = false) ∧
    (let a := access .steward 0x211003 2
     Reaches labSync a.who (objNo a.idx a.sub) ∧ waitsBehind labSync a.who = none ∧
       writeCheck labSync a (pieceLimit a.who) = (aeOk, some (rowOf labSync a)) ∧
       effectOf labSync a = (aeOk, (effectOf labSync a).2) ∧ holdsNow labSync = true ∧
       newRecords labSync (effectOf labSync a).2 ≠ []) ∧
    (let a := access .steward 0x212003 4
     Reaches labSync a.who (objNo a.idx a.sub) ∧ waitsBehind labSync a.who = none ∧
       writeCheck labSync a (pieceLimit a.who) = (aeOk, some (rowOf labSync a)) ∧
       effectOf labSync a = (aeOk, (effectOf labSync a).2) ∧ newRecords labSync (effectOf labSync a).2 = []) ∧
    (let a := access .steward 0x211003 2
     let s := lab.onTwin (fun t => { t with held := [(some 4, .obj { access := a })] })
     Reaches s a.who (objNo a.idx a.sub) ∧ waitsBehind s a.who = some (some 4)) := by
  repeat' first
    | decide +kernel
    | exact reaches_of _ _ _ (by decide +kernel)
    | exact acc_of _ _ (by decide +kernel)
    | refine And.intro ?_ ?_

theorem witness_ExtentAndHostCommandsRun :
    (let s := chosen [(0x211001, 1)] [(0x211002, Extent.toNat { base := 100, length := 4, backing := 1 })] lab
     Writable s .steward 0x211003 1 1 ∧
       bindCheck s (selVal s .steward 0x211001) (stagedOf s .steward 0x211002) = xsDone) ∧
    (Writable lab .steward 0x211003 1 2 ∧ revokeRefused lab (selVal lab .steward 0x211001) = false) ∧
    (let s := labExt { length := 2, state := 3 }
     Writable s .steward 0x211003 1 3 ∧ Writable s .steward 0x211003 1 4 ∧ (extOf s (selVal s .steward 0x211001)).state = 3) ∧
    (let s := chosen [(0x242002, 5)] [] lab
     Writable s .steward 0x242003 1 1 ∧ isLost s (selVal s .steward 0x242002) = false ∧
       attached s (selVal s .steward 0x242002) = true) ∧
    (let s := chosen [(0x242002, 5)] [] (lab.onHome (fun h => { h with lost := [5] }))
     Writable s .steward 0x242003 1 2 ∧ isLost s (selVal s .steward 0x242002) = true) ∧
    Writable lab (.inband 5 3) 0x2B3003 1 1 := by
  repeat' first | decide +kernel | exact writable_of _ _ _ _ _ (by decide +kernel) | refine And.intro ?_ ?_

/-- The lab with these extents. -/
def labExts (l : SMap Extent) : State := lab.onHome (fun h => { h with exts := l })

/-- A valid region descriptor: face tiles 0 to 3, composition 3, current extent 1, version line in tile 200. -/
def regionV : Nat := 4 * 2 ^ 32 + 3 * 2 ^ 64 + 2 ^ 72 + (200 * 512) * 2 ^ 96

/-- The extents of that region. -/
def labRegion : State :=
  labExts [(0, { length := 16, state := 1, comp := 3, owner := 5, rights := 1 }),
    (1, { base := 100, length := 4, state := 1, comp := 3, owner := 5, rights := 15 }),
    (2, { base := 200, length := 4, state := 1, comp := 3, owner := 5, rights := 15 })]

theorem witness_TierCommandsRun :
    (Writable (labPool [] []) .steward 0x252010 1 1 ∧
      memberState (labPool [] []) (selVal (labPool [] []) .steward 0x252001) (selVal (labPool [] []) .steward 0x252003) = 1) ∧
    (let s := labPool [] [(0x252004, 0, 8 * 2 ^ 40 + 2 * 2 ^ 56)]
     Writable s .steward 0x252010 1 2 ∧ memberState s (selVal s .steward 0x252001) (selVal s .steward 0x252003) = 2) ∧
    (Writable lab .steward 0x251008 1 1 ∧ lab.tier.flushes.has (selVal lab .steward 0x251001) = false) ∧
    (let s := lab.onTier (fun t => { t with flushes := [(0, { lines := [], stale := [], written := 0, held := 0 })] })
     Writable s .steward 0x251008 1 1 ∧ s.tier.flushes.has (selVal s .steward 0x251001) = true) ∧
    (Writable lab .steward 0x251002 4 18350080 ∧ residentTiles lab (selVal lab .steward 0x251001) ≤ 18350080 ∧
      quotaSum lab - quotaOf lab (selVal lab .steward 0x251001) + 18350080 + fastTiles lab ≤ tierSlots) ∧
    (Writable lab .steward 0x254003 16 3 ∧ windowReserved 3 = false ∧ winEnable 3 = false) ∧
    (let s := withObjs [(0x254003, 0, 3)] lab
     Writable s .steward 0x254004 2 3 ∧ 3 < winLayers (windowOf s (selVal s .steward 0x254001) (selVal s .steward 0x254002))) ∧
    (let s := chosen [] [(0x256002, regionV)] labRegion
     Writable s .steward 0x256003 1 1 ∧ Requester.isInband .steward = false ∧
       regValid (regionOf s (selVal s .steward 0x256001)) = false ∧
       regionOk s (selVal s .steward 0x256001) (stagedOf s .steward 0x256002) = true) ∧
    (Writable lab .steward 0x256003 1 2 ∧ Requester.isInband .steward = false) ∧
    (Writable lab .steward 0x260003 1 1 ∧ (dslot lab (selVal lab .steward 0x260001)).state = 0 ∧
      (dslot lab (selVal lab .steward 0x260001)).loading = none ∧ tableOk (stagedOf lab .steward 0x260002) = true) ∧
    (let s : State := { lab with codec := { slots := [(0, { state := 1, gen := 1 })], recent := [] } }
     Writable s .steward 0x260003 1 2 ∧ (dslot s (selVal s .steward 0x260001)).state = 1) := by
  repeat' first | decide +kernel | exact writable_of _ _ _ _ _ (by decide +kernel) | refine And.intro ?_ ?_

/-- A reduce slot's descriptor: aperture tile 0, one line, composition 3, two members, core 0, result tile 100. -/
def reduceV : Nat := 3 * 2 ^ 48 + 2 ^ 56 + 2 ^ 88 + 100 * 2 ^ 128

/-- The extents and members of that slot. -/
def labArm : State :=
  withObjs [(0x271002, 0, reduceV), (0x271004, 0, 5), (0x271004, 256, 6)]
    (labExts [(0, { length := 16, state := 1, comp := 3, owner := 5, rights := 15, backing := 1 }),
      (1, { base := 100, length := 4, state := 1, comp := 3, owner := 5, rights := 1, backing := 1 })])

/-- The lab with itinerary 0 of composition 3, one leg, in a state. -/
def labItin (st : Nat) : State := lab.onCompute (fun k => { k with itins := [(0, { state := st, desc := 3 + 2 ^ 24 })] })

theorem witness_ComputeCommandsRun :
    (Writable labArm .steward 0x271005 1 1 ∧ Requester.isInband .steward = false ∧
      slotState labArm (selVal labArm .steward 0x271001) = 0 ∧ armOk labArm (selVal labArm .steward 0x271001) = true ∧
      (setBitList (rsCores (slotDesc labArm (selVal labArm .steward 0x271001))) 24).any (fun c =>
        decide (8192 * cfg labArm 0x271009 < coreReserve labArm c (slotDesc labArm (selVal labArm .steward 0x271001)))) = false) ∧
    (let s := withObjs [(0x271007, 0, 2)] labArm
     Writable s .steward 0x271005 1 2 ∧ Writable s .steward 0x271005 1 3 ∧ Requester.isInband .steward = false ∧
       slotState s (selVal s .steward 0x271001) = 2) ∧
    (let s := chosen [] [(0x281002, 3 + 2 ^ 24)] lab
     Writable s .steward 0x281005 1 1 ∧ (itinOf s (selVal s .steward 0x281001)).state = 0 ∧
       itinRights s .steward (itComp (stagedOf s .steward 0x281002)) = true ∧ itReserved (stagedOf s .steward 0x281002) = false ∧
       0 < itCount (stagedOf s .steward 0x281002) ∧ itCount (stagedOf s .steward 0x281002) ≤ 8192 ∧
       (compOf s (itComp (stagedOf s .steward 0x281002))).state ≠ 0 ∧ freeRange s (itCount (stagedOf s .steward 0x281002)) = some 0) ∧
    (Writable (labItin 1) .steward 0x281005 1 2 ∧ (itinOf (labItin 1) (selVal (labItin 1) .steward 0x281001)).state = 1) ∧
    (let s := (withObjs [(0x2A1305, 3, 1)] lab).onCompute (fun k => { k with
       itins := [(0, { state := 2, desc := 3 + 2 ^ 24 + 2 ^ 92 })] })
     Writable s .steward 0x281005 1 3 ∧ (itinOf s (selVal s .steward 0x281001)).state = 2 ∧
       (stewardCheck s (selVal s .steward 0x281001)).isNone = true) ∧
    (Writable (labItin 2) .steward 0x281005 1 3 ∧ Writable (labItin 2) .steward 0x281005 1 4 ∧
      itinRights (labItin 2) .steward (itComp (itinOf (labItin 2) (selVal (labItin 2) .steward 0x281001)).desc) = true ∧
      (itinOf (labItin 2) (selVal (labItin 2) .steward 0x281001)).state = 2 ∧
      (stewardCheck (labItin 2) (selVal (labItin 2) .steward 0x281001)).isSome = true) ∧
    (Writable (labItin 3) .steward 0x281005 1 5 ∧ (itinOf (labItin 3) (selVal (labItin 3) .steward 0x281001)).state = 3) ∧
    Writable (labItin 1) .steward 0x281005 1 6 ∧ Writable (labItin 2) .steward 0x281005 1 6 ∧
    Writable lab .steward 0x2A4002 1 1 := by
  repeat' first | decide +kernel | exact writable_of _ _ _ _ _ (by decide +kernel) | refine And.intro ?_ ?_

/-- A partition descriptor of composition 3: bank 0, block 0, width 80. -/
def partV : Nat := 2 ^ 4 + 2 ^ 17 + 3 * 2 ^ 23

/-- The lab with partition 0 in a state. -/
def labPart0 (st : Nat) : State := lab.onSearch (fun k => { k with parts := [(0, { state := st, desc := partV })] })

theorem witness_SearchAndCompositionCommandsRun :
    (Writable (labPart0 2) .steward 0x291102 96 1 ∧
      entryWrite (labPart0 2) { access := wholeWrite .steward 0x291102 96 1 } 1 =
        (none, (entryWrite (labPart0 2) { access := wholeWrite .steward 0x291102 96 1 } 1).2)) ∧
    (let s := chosen [] [(0x291002, partV)] lab
     Writable s .steward 0x291003 1 1 ∧ (partOf s (selVal s .steward 0x291001)).state = 0 ∧ pdOk (stagedOf s .steward 0x291002) = true ∧
       s.search.parts.any (fun x => decide (x.2.state ≠ 0) && pdOverlaps x.2.desc (stagedOf s .steward 0x291002)) = false) ∧
    (Writable (labPart0 2) .steward 0x291003 1 2 ∧ (partOf (labPart0 2) (selVal (labPart0 2) .steward 0x291001)).state = 2) ∧
    (Writable lab .steward 0x2A1003 1 1 ∧ lab.security.rngOk = true ∧
      createCheck lab (selVal lab .steward 0x2A1001) (stagedOf lab .steward 0x2A1002) = csDone) ∧
    (let s := chosen [(0x2A1001, 3)] [] (lab.onHome (fun h => { h with exts := [] }))
     Writable s .steward 0x2A1003 1 2 ∧ Writable s .steward 0x2A1003 1 3 ∧ compEmpty s (selVal s .steward 0x2A1001) = true ∧
       (compOf s (selVal s .steward 0x2A1001)).state = 1) ∧
    (let s := chosen [(0x2A1001, 3)] [] (lab.onComps (fun c => { c with comps := [(3, { state := 3 })] }))
     (compOf s (selVal s .steward 0x2A1001)).state = 3) ∧
    (Reaches lab .steward 0x2A1002 ∧ waitsBehind lab .steward = none ∧ holdsNow lab = false ∧
      (writeCheck lab { who := .steward, idx := 0x2A10, sub := 2, offset := 31, len := 1, value := 0 } (pieceLimit .steward)).1 = aeOk ∧
      (compOf lab (selVal lab .steward 0x2A1001)).state = 0 ∧
      compReserved (setBits (stagedOf lab .steward 0x2A1002) (8 * 31) (8 * 1) (0 % 2 ^ (8 * 1))) = false) ∧
    (let s := chosen [(0x2A1001, 3), (0x2A1101, 1023)] [] lab
     Writable s .steward 0x2A1103 1 1 ∧ (compOf s (selVal s .steward 0x2A1001)).state ≠ 0 ∧
       (compOf s (selVal s .steward 0x2A1001)).members.has (selVal s .steward 0x2A1101) = false) ∧
    (let s := chosen [(0x2A1001, 3), (0x2A1101, 6)] [] (lab.onComps (fun c => { c with
       comps := [(3, { state := 1, owner := 5, members := [(5, 1), (6, 1)] })] }))
     Writable s .steward 0x2A1103 1 2 ∧ (compOf s (selVal s .steward 0x2A1001)).state ≠ 0 ∧
       (compOf s (selVal s .steward 0x2A1001)).owner ≠ selVal s .steward 0x2A1101 ∧
       (compOf s (selVal s .steward 0x2A1001)).members.has (selVal s .steward 0x2A1101) = true) ∧
    (let s := chosen [(0x2A3001, 2 ^ 20 - 1)] [] (lab.onComps (fun c => { c with recs := [(2 ^ 20 - 1, { state := 1 })] }))
     Writable s .steward 0x2A3003 1 1 ∧ (recOf s (selVal s .steward 0x2A3001)).state ≠ 0) := by
  repeat' first
    | decide +kernel
    | exact writable_of _ _ _ _ _ (by decide +kernel)
    | exact reaches_of _ _ _ (by decide +kernel)
    | refine And.intro ?_ ?_

theorem witness_TrafficAndPortCommandsRun :
    (let s := chosen [(0x235001, 4)] [] (withObjs [(0x235004, gateKey 4 0, 1)] lab)
     Writable s .steward 0x235006 8 1000 ∧ s.now + 1000 ≤ 1000 ∧ (gateOf s (selVal s .steward 0x235001)).pendingAt = none ∧
       (List.range (gateLength s (selVal s .steward 0x235001) (standbyBank s .steward (selVal s .steward 0x235001)))).any (fun i =>
         decide (geInterval (gateEntryOf s (selVal s .steward 0x235001)
           (standbyBank s .steward (selVal s .steward 0x235001)) i) = 0)) = false) ∧
    (let s := chosen [(0x212003, 252)] [] lab
     Writable s .steward 0x212005 1 1 ∧ Writable s .steward 0x212005 1 0 ∧ portExists s (selPort s .steward) = true) ∧
    (let s := chosen [(0x212003, 4)] [] (withObjs [(0x212007, 4, 8)] lab)
     Writable s .steward 0x212006 1 1 ∧ linkState s (selPort s .steward) = lsFault) ∧
    (let s := chosen [(0x212003, 4)] [] lab
     Writable s .steward 0x212006 1 1 ∧ Writable s .steward 0x212006 1 2 ∧ linkState s (selPort s .steward) = lsUp) ∧
    (Writable lab .steward 0x212004 1 3 ∧ linkState lab (selPort lab .steward) = lsDisabled ∧
      ¬ ((3 : Nat) = roleTwin ∧ getObj lab 0x213001 (selPort lab .steward) = 0)) := by
  repeat' first | decide +kernel | exact writable_of _ _ _ _ _ (by decide +kernel) | refine And.intro ?_ ?_

/-- A ZX964 with a CAN node ID. -/
def can (s : State) : State := withObjs [(0x2C1001, 0, 5)] s

theorem witness_ControlCommandsRun :
    (Writable lab .steward 0x2B0002 1 0 ∧ (lab.twin.pair = psUnpaired ∨ lab.twin.pair = psAlone ∨ lab.twin.pair = psHolding)) ∧
    Writable (can lab) .can 0x2C2103 1 1 ∧
    (Writable lab .steward 0x2C3005 1 0 ∧ stewardUp lab = true) ∧
    Writable lab .steward 0x2C3003 1 1 ∧ (Writable lab .steward 0x2C3003 1 2 ∧ lab.power.steward ≠ 3) ∧
    (let s := (can lab).onPower (fun p => { p with steward := 3 })
     Writable s .can 0x2C4003 1 1 ∧ Writable s .can 0x2C4003 1 2 ∧ s.power.steward = 3) := by
  repeat' first | decide +kernel | exact writable_of _ _ _ _ _ (by decide +kernel) | refine And.intro ?_ ?_

theorem witness_PowerAndImageCommandsRun :
    (lab.power.shake = none ∧ lab.power.losing = none ∧ lab.power.halted = false ∧ lab.power.state = pwFull) ∧
    (Writable (labPower pwTrim) .steward 0x2D1002 1 1 ∧ (labPower pwTrim).power.state = pwTrim) ∧
    Writable lab .steward 0x2D1002 1 2 ∧ Writable lab .steward 0x2D1002 1 3 ∧ Writable lab .steward 0x2D1002 1 4 ∧
    Writable lab .steward 0x2D1002 1 5 ∧ Writable lab .steward 0x2D1003 1 1 ∧ Writable lab .steward 0x2D1003 1 2 ∧
    (Writable (can (labPower pwStalled)) .can 0x2D1003 1 3 ∧ (can (labPower pwStalled)).power.state = pwStalled ∧
      (can (labPower pwStalled)).power.shake = none) ∧
    (let s := chosen [(0x2E0101, 1)] [] lab
     Writable s .steward 0x2E0105 1 1 ∧ Writable s .steward 0x2E0105 1 2 ∧ selVal s .steward 0x2E0101 = 1) ∧
    (let s := chosen [] [(0x2E1003, 7)] lab
     Writable s .steward 0x2E1005 1 1 ∧ ownerKey s = 0 ∧ stagedOf s .steward 0x2E1003 ≠ 0) ∧
    (Writable (withObjs [(0x2E1003, 0, 7)] lab) .steward 0x2E1005 1 2 ∧ ownerKey (withObjs [(0x2E1003, 0, 7)] lab) ≠ 0) ∧
    Writable lab .steward 0x2E1203 1 1 ∧ Writable lab .steward 0x2E1203 1 2 := by
  repeat' first | decide +kernel | exact writable_of _ _ _ _ _ (by decide +kernel) | refine And.intro ?_ ?_

/-! ## Witnesses: messages -/

/-- Whether messages that arrive on a port come to the switch, decided. -/
def listensB (s : State) (p : Nat) : Bool :=
  decide (s.power.losing = none) && !s.power.halted && !linkKeeper s && inService s && decide (linkState s p ≠ lsSecure)

theorem listens_of (s : State) (p : Nat) (h : listensB s p = true) : Listens s p := by
  simp_all [listensB, Listens]

/-- Whether a message comes from a fabric port, decided. -/
def fabricB (s : State) (p : Nat) : Bool :=
  listensB s p && decide (portRole s p ≠ roleHost) && decide (portRole s p ≠ roleTray) && decide (s.twin.pair ≠ psQuarantined) &&
    !fromQuarantined s p

theorem fabric_of (s : State) (p : Nat) (h : fabricB s p = true) : FabricPort s p := by
  simp only [fabricB, Bool.and_eq_true, decide_eq_true_eq, Bool.not_eq_true', and_assoc] at h
  exact ⟨listens_of _ _ h.1, h.2⟩

/-- Whether the port logic admits a host's message at once, decided. -/
def admitsB (s : State) (p : Nat) (m : Msg) : Bool :=
  let u := (policeTake s (peerHost m.peer) m.tc).2
  listensB s p && decide (portRole s p = roleHost) && decide (s.power.shake = none) && !isVecAnswer s m &&
    decide (stepsOneToFour s p m = none) &&
    (hostAnswer m || (decide (stepsFiveSix s m = none) && (policeTake s (peerHost m.peer) m.tc).1 && !classHeld u p m.tc &&
      bucketOk u (peerHost m.peer) && !pathHeld u m))

theorem admits_of (s : State) (p : Nat) (m : Msg) (h : admitsB s p m = true) : Admits s p m := by
  simp only [admitsB, Bool.and_eq_true, Bool.or_eq_true, decide_eq_true_eq, Bool.not_eq_true', and_assoc] at h
  obtain ⟨hl, hr, hk, h⟩ := h
  exact ⟨⟨listens_of _ _ hl, hr, hk⟩, h⟩

/-- Whether a line's home is here, decided. -/
def homesB (s : State) (line : Nat) : Bool :=
  decide (s.twin.pair ≠ psQuarantined) && decide (homePair s line = some (ownPair s)) &&
    decide (pairVerdict s (ownPair s) = none) && servesHere s

theorem homes_of (s : State) (line : Nat) (h : homesB s line = true) : HomesLine s line := by
  simp only [homesB, Bool.and_eq_true, decide_eq_true_eq, and_assoc] at h
  exact h

/-- Whether a host's request begins its line's transaction, decided. -/
def beginsB (s : State) (p : Nat) (m : Msg) : Bool :=
  let u := onWay s p m
  admitsB s p m && homesB u m.line && decide (u.home.groups.find? (fun g => decide (g.line = m.line)) = none) &&
    !mayOpen (atHome u) m (quadrantOf (atHome u) m.composition (tileOf m.line)) && (checkOne (atHome u) (homeReq u p m)).2.isSome

theorem begins_of (s : State) (p : Nat) (m : Msg) (h : beginsB s p m = true) : ∃ v r, Begins s p m v r := by
  simp only [beginsB, Bool.and_eq_true, decide_eq_true_eq, Bool.not_eq_true', and_assoc] at h
  obtain ⟨ha, hh, hg, ho, hs⟩ := h
  obtain ⟨r, hr⟩ := Option.isSome_iff_exists.mp hs
  exact ⟨_, r, admits_of _ _ _ ha, homes_of _ _ hh, hg, ho, Prod.ext rfl hr⟩

/-- Whether an admitted service request is for this ZX964, decided. -/
def servesB (s : State) (p : Nat) (m : Msg) : Bool :=
  let u := onWay s p m
  admitsB s p m && decide (u.twin.pair ≠ psQuarantined) && !spdmHere u m &&
    !u.twin.quarantine.has (identOf m.targetPair m.targetSide) && decide (pairVerdict u m.targetPair = none) &&
    decide (m.targetPair = ownPair u) && servesHere u

theorem serves_of (s : State) (p : Nat) (m : Msg) (h : servesB s p m = true) : Serves s p m := by
  simp only [servesB, Bool.and_eq_true, decide_eq_true_eq, Bool.not_eq_true', and_assoc] at h
  exact ⟨admits_of _ _ _ h.1, h.2⟩

/-- The lab with its merge table off. -/
def labAlone : State := withObjs [(0x220002, 0, 0)] lab

/-- A line of data. -/
def four : List Slot := [1, 2, 3, 4]

/-- A message of host 5 with an opcode, as it is heard. -/
def said (op body : Nat) (data : List Slot) : Msg := ((hostMsg body data).withOp op).heard

/-- A message of host 5 with an opcode and a function, as it is heard. -/
def asks (op f body : Nat) (data : List Slot) : Msg := ((hostMsg body data).withFunc op f).heard

/-- A filter entry of host 5 as the owner of its line. -/
def owned : FEntry := { mode := 0, ptrs := [5], comp := 3, seq := 1 }

theorem witness_LineRequestsRun :
    (∃ v r, Begins labAlone 4 (said opRdShared 0 []) v r) ∧ (∃ v r, Begins labAlone 4 (said opRdOwn 0 []) v r) ∧
    (∃ v r, Begins labAlone 4 (said opRdNc 0 []) v r) ∧ (∃ v r, Begins labAlone 4 (said opWrNc (2 ^ 128 - 1) four) v r) ∧
    (∃ v r, Begins labAlone 4 (said opWrStash 0 four) v r) ∧ (∃ v r, Begins labAlone 4 (said opAtomic 0 []) v r) ∧
    (let n := said opRdShared 0 []
     let u := onWay lab 4 n
     Admits lab 4 n ∧ HomesLine u n.line ∧ u.home.groups.find? (fun g => decide (g.line = n.line)) = none ∧
       mayOpen (atHome u) n (quadrantOf (atHome u) n.composition (tileOf n.line)) = true) ∧
    (let s := lab.onHome (fun h => { h with groups := [group] })
     let n := said opRdShared 0 []
     let u := onWay s 4 n
     Admits s 4 n ∧ HomesLine u n.line ∧ u.home.groups.find? (fun g => decide (g.line = n.line)) = some group ∧
       joins (atHome u) group n = true ∧ group.reqs.length + 1 < cfg (atHome u) 0x220003) ∧
    (let s := withObjs [(0x220003, 0, 2)] (lab.onHome (fun h => { h with groups := [group] }))
     let n := said opRdShared 0 []
     let u := onWay s 4 n
     Admits s 4 n ∧ HomesLine u n.line ∧ u.home.groups.find? (fun g => decide (g.line = n.line)) = some group ∧
       joins (atHome u) group n = true ∧ cfg (atHome u) 0x220003 ≤ group.reqs.length + 1) ∧
    (let n := said opWbDirty 0 four
     (let s := lab.onHome (fun h => { h with filter := [(7, owned)] })
      let u := onWay s 4 n
      let v := closeLine (atHome u) n.line
      Admits s 4 n ∧ HomesLine u n.line ∧ apertureAt (atHome u) n.line = none ∧ checkRequester v (homeReq u 4 n) = none ∧
        versionAt v n.line = none ∧ v.home.txns.get? n.line = none ∧ ownsLine v (homeReq u 4 n) = true) ∧
     (let u := onWay lab 4 n
      let v := closeLine (atHome u) n.line
      Admits lab 4 n ∧ HomesLine u n.line ∧ apertureAt (atHome u) n.line = none ∧ checkRequester v (homeReq u 4 n) = none ∧
        versionAt v n.line = none ∧ v.home.txns.get? n.line = none ∧ ownsLine v (homeReq u 4 n) = false)) ∧
    (let crossed := fun (t : Txn) (n : Msg) =>
       let u := onWay (labTxn t) 4 n
       let v := closeLine (atHome u) n.line
       admitsB (labTxn t) 4 n && homesB u n.line && (apertureAt (atHome u) n.line).isNone &&
         decide (checkRequester v (homeReq u 4 n) = none) && decide (versionAt v n.line = none) &&
         decide (v.home.txns.get? n.line = some t)
     ([said opWbDirty 0 four, said opEvictClean 0 []].all (fun n =>
       crossed { txn .snooping with targets := [5] } n && crossed (txn .snooping) n) = true) ∧
       ({ txn .snooping with targets := [5] } : Txn).targets.contains (peerHost 5) = true ∧
       (txn .snooping).targets.contains (peerHost 5) = false) ∧
    (let n := said opEvictClean 0 []
     let u := onWay lab 4 n
     let v := closeLine (atHome u) n.line
     Admits lab 4 n ∧ HomesLine u n.line ∧ apertureAt (atHome u) n.line = none ∧ checkRequester v (homeReq u 4 n) = none ∧
       versionAt v n.line = none ∧ v.home.txns.get? n.line = none) := by
  repeat' first
    | decide +kernel
    | exact begins_of _ _ _ (by decide +kernel)
    | exact admits_of _ _ _ (by decide +kernel)
    | exact homes_of _ _ (by decide +kernel)
    | refine And.intro ?_ ?_

theorem witness_FencesAndAnswersRun :
    (let n := said opFence 1 []
     let u := onWay lab 4 n
     Admits lab 4 n ∧ u.twin.pair ≠ psQuarantined ∧
       (lab.tm.fences.filter (fun f => decide (f.host = peerHost n.peer))).length < 4 ∧ u.tm.fences.any (isFence 4 n) = true) ∧
    (let n := said opFence 1 []
     let f : FenceRec := { host := 5, m := { n with tag := 1 }, port := 4, admitted := true, covers := [1] }
     let s := lab.onTm (fun t => { t with fences := [f, f, f, f] })
     let u := onWay s 4 n
     Admits s 4 n ∧ u.twin.pair ≠ psQuarantined ∧ u.tm.fences.any (isFence 4 n) = false) ∧
    (let n := said opMilestone (ownPair lab) []
     FabricPort lab 12 ∧ badForm n = none ∧ n.milestoneDest = ownPair lab) ∧
    (let n := said opMilestone 63 []
     FabricPort lab 12 ∧ badForm n = none ∧ n.milestoneDest ≠ ownPair lab) ∧
    (FabricPort lab 12 ∧ hostPort lab (peerHost 5) = some 4 ∧ badForm (said opSnpInv 0 []) = none ∧
      badForm (said opSnpShare 0 []) = none ∧ badForm (said opStashFill 0 four) = none) ∧
    (let joinable := fun (t : Txn) (n : Msg) =>
       let s := labTxn t
       fabricB s 12 && decide (badForm n = none) && decide (homePair s n.line = some (ownPair s)) && servesHere s &&
         !answersIgnored s n.line && !s.home.timedOut.contains (n.line, peerHost n.peer, n.tag) &&
         decide (s.home.txns.get? n.line = some t) &&
         t.snoops.any (fun x => decide (x.host = peerHost n.peer) && decide (x.tag = n.tag))
     let snooped : Txn := { txn .snooping with snoops := [{ host := 5, tag := 9, opcode := opSnpInv }] }
     let offered : Txn := { snooped with state := .stashing }
     joinable snooped (said opSnpResp 2 four) = true ∧ snooped.state ≠ .stashing ∧
       (joinable offered (said opSnpResp 4 []) = true ∧ (said opSnpResp 4 []).snpResult = 4) ∧
       joinable offered (said opSnpResp 5 []) = true ∧ (said opSnpResp 5 []).snpResult = 5) ∧
    (let s := lab.onTm (fun t => { t with hostReqs := [hostReq] })
     let n := said opResp 0 []
     FabricPort s 12 ∧ peerIsAgent n.peer = false ∧ attached s (peerHost n.peer) = true ∧ replyDropped s n = false ∧
       isLost s (peerHost n.peer) = false ∧ hostReqOf s (peerHost n.peer) n.tag = some hostReq) ∧
    (let r : TrayReq := { port := 8, tag := 9, kind := .fill, line := 7, deadline := 90 }
     let s := (labPool [(0, tile .filling 0)] []).onTier (fun t => { t with reqs := [r] })
     let n := said opRespData 0 four
     Listens s 8 ∧ portRole s 8 = roleTray ∧ n.status = stOk ∧ r.kind = .fill ∧
       s.tier.reqs.find? (fun r => decide (r.port = 8) && decide (r.tag = n.tag)) = some r) ∧
    (let r : TrayReq := { port := 8, tag := 9, kind := .writeback, line := 7, deadline := 90 }
     let s := (labPool [(0, tile .resident 1)] []).onTier (fun t => { t with reqs := [r] })
     let n := said opResp 0 []
     Listens s 8 ∧ portRole s 8 = roleTray ∧ n.status = stOk ∧ r.kind = .writeback ∧
       s.tier.reqs.find? (fun r => decide (r.port = 8) && decide (r.tag = n.tag)) = some r) := by
  repeat' first
    | decide +kernel
    | exact admits_of _ _ _ (by decide +kernel)
    | exact fabric_of _ _ (by decide +kernel)
    | exact listens_of _ _ (by decide +kernel)
    | refine And.intro ?_ ?_

/-- Composition 3 with a record in a state, the arena in extent 0. -/
def labRec (r : Rec) : State :=
  (labExts [(0, { length := 16, state := 1, comp := 3, shared := true, owner := 5, rights := 15, backing := 1 })]).onComps
    (fun c => { c with comps := [(3, { state := 1, owner := 5, recordCount := 4, members := [(5, 1)], arenaValid := true })],
                       recs := [(3, r)] })

/-- The hypotheses of a handoff of record 3 by function `f`, decided. -/
def handoffB (s : State) (f : Nat) (body : Nat) : Bool :=
  let n := asks opHandoff f (3 * 2 ^ 16 + body) (if f ≤ 2 then [0] else [])
  let u := onWay s 4 n
  let c := compOf u 3
  servesB s 4 n && decide (c.state ≠ 3) && decide (c.state ≠ 2) && !isLost u 5 && !peerIsAgent 5 && isMember u 3 5 &&
    decide (c.recordBase ≤ hoRecord n) && decide (hoRecord n < c.recordBase + c.recordCount) &&
    !(decide (inc32 (hoGen n) = (recOf u (hoRecord n)).generation) && decide ((recOf u (hoRecord n)).lastFunction = f) &&
      decide ((recOf u (hoRecord n)).lastHost = 5)) && decide (hoGen n = (recOf u (hoRecord n)).generation) &&
    decide (handoffRow u (recOf u (hoRecord n)) 3 f 5 = some true) && decide (hoTarget n / 1024 ≠ 3) &&
    (decide (f ≠ 1) || !openRangeBad u 3 n)

/-- A record of producer 5 whose generation is its greatest. -/
def rec3 (st : Nat) : Rec :=
  { state := st, comp := 3, owner := 5, generation := 2 ^ 32 - 1, producer := 5, consumer := 5, target := 0, firstTile := 0, tiles := 4 }

/-- A search message's partition 0, with a handle or an index. -/
def searchMsg (f idx : Nat) (data : List Slot) : Msg := asks opSearch f (idx * 2 ^ 64) data

/-- A notice that a host is lost, of another ZX964's health block. -/
def noticeMsg : Msg := (({ hostMsg 0 [] with peer := 2 ^ 15 + 128 } : Msg).withFunc opMgmt 3).heard

/-- An SPDM message of 128 bytes of another ZX964's steward. -/
def spdmMsg : Msg := (({ hostMsg (2 ^ 7 + 128 * 2 ^ 64) four with peer := 2 ^ 15 + 128 } : Msg).withFunc opMgmt 4).heard

/-- Partition 0 of composition 3 active, and its first walk context. -/
def labWalk : State := (labPart0 2).onSearch (fun k => { k with
  ctxs := [(0, { host := 5, comp := 3, part := 0, key := 0, group := 0, mask := 0, plen := 0, pos := 0, limit := 10, used := 0 })] })

theorem witness_ServicesRun :
    (let m := searchMsg 1 0 [0]
     let u := onWay (labPart0 2) 4 m
     Serves (labPart0 2) 4 m ∧ searchRefusal u m = none ∧ searchWaits u m = false) ∧
    (let m := searchMsg 2 (ctxHandle labWalk 0) []
     let u := onWay labWalk 4 m
     Serves labWalk 4 m ∧ searchRefusal u m = none ∧ searchWaits u m = false) ∧
    (let m := searchMsg 3 0 [0, 0, 0]
     Serves (labPart0 2) 4 m ∧ searchRefusal (onWay (labPart0 2) 4 m) m = none) ∧
    (let m := searchMsg 4 0 []
     Serves (labPart0 2) 4 m ∧ searchRefusal (onWay (labPart0 2) 4 m) m = none) ∧
    (handoffB (labRec { generation := 2 ^ 32 - 1 }) 1 ((2 ^ 32 - 1) * 2 ^ 64 + 16 * 2 ^ 128) = true ∧
      handoffB (labRec (rec3 1)) 2 ((2 ^ 32 - 1) * 2 ^ 64) = true ∧ handoffB (labRec (rec3 2)) 3 ((2 ^ 32 - 1) * 2 ^ 64) = true ∧
      handoffB (labRec (rec3 3)) 4 ((2 ^ 32 - 1) * 2 ^ 64) = true ∧ handoffB (labRec (rec3 3)) 5 ((2 ^ 32 - 1) * 2 ^ 64) = true ∧
      handoffB (labRec (rec3 4)) 6 ((2 ^ 32 - 1) * 2 ^ 64) = true ∧ handoffB (labRec (rec3 5)) 7 ((2 ^ 32 - 1) * 2 ^ 64) = true) ∧
    (let m := asks opHandoff 8 (3 * 2 ^ 16) []
     let u := onWay lab 4 m
     Serves lab 4 m ∧ (compOf u m.composition).state ≠ 3 ∧ (compOf u m.composition).state ≠ 2 ∧ isLost u (peerHost m.peer) = false ∧
       peerIsAgent m.peer = false ∧ isMember u m.composition (peerHost m.peer) = true ∧
       (compOf u m.composition).recordBase ≤ hoRecord m ∧
       hoRecord m < (compOf u m.composition).recordBase + (compOf u m.composition).recordCount) ∧
    (let s := withObjs [(0x2A1304, 3, 2 ^ 23)]
       (lab.onCompute (fun k => { k with itins := [(255, { state := 3, desc := 3 + 2 ^ 24 + 2 ^ 115 })] }))
     let m := asks opDoorbell 1 (255 * 2 ^ 16) []
     let u := onWay s 4 m
     Serves s 4 m ∧ doorbellRefusal u m = none ∧ (itinOf u (m.fld 16 8)).state = 3 ∧
       itComp (itinOf u (m.fld 16 8)).desc = m.composition ∧
       (List.range 4).any (fun a => if itArgOn (itinOf u (m.fld 16 8)).desc a then
         decide (itLimit (itinOf u (m.fld 16 8)).desc a < launchArg m a) else decide (launchArg m a ≠ 0)) = false ∧
       (setBitList (itCores (itinOf u (m.fld 16 8)).desc) 24).any (fun c => !coreGranted u m.composition c) = false ∧
       (setBitList (itCores (itinOf u (m.fld 16 8)).desc) 24).any (fun c => decide (4 ≤ (coreOf u c).queue.length)) = false) ∧
    (let m := asks opDoorbell 2 (23 * 2 ^ 16) []
     Serves lab 4 m ∧ doorbellRefusal (onWay lab 4 m) m = none ∧ m.fld 16 8 < 24) ∧
    (let m := asks opDoorbell 2 (24 * 2 ^ 16) []
     Serves lab 4 m ∧ doorbellRefusal (onWay lab 4 m) m = none ∧ 24 ≤ m.fld 16 8) ∧
    (FabricPort lab 12 ∧ badForm noticeMsg = none ∧ peerIsAgent noticeMsg.peer = true ∧ ServesPair lab noticeMsg ∧
      classHeld lab 12 noticeMsg.tc = false ∧ lab.tm.mgmtWait = [] ∧
      hasBudget lab 1 (portQuadrant 12) 6 (noticeMsg.slotCount + 1) = true) ∧
    (FabricPort lab 12 ∧ badForm spdmMsg = none ∧ peerIsAgent spdmMsg.peer = true ∧ ServesPair lab spdmMsg ∧
      classHeld lab 12 spdmMsg.tc = false ∧ lab.tm.mgmtWait = [] ∧
      hasBudget lab 1 (portQuadrant 12) 6 (spdmMsg.slotCount + 1) = true ∧ mgLength spdmMsg ≠ 0 ∧ mgLength spdmMsg ≤ 128 ∧
      (charge lab 1 (portQuadrant 12) 6 (spdmMsg.slotCount + 1)).power.steward = 2 ∧
      (charge lab 1 (portQuadrant 12) 6 (spdmMsg.slotCount + 1)).security.holdoff.has 12 = false) ∧
    (let s := lab.onTm (fun t => { t with used := [(useKey 1 (portQuadrant 12) 6, 2 ^ 32)] })
     FabricPort s 12 ∧ ServesPair s noticeMsg ∧ classHeld s 12 noticeMsg.tc = false ∧
       hasBudget s 1 (portQuadrant 12) 6 (noticeMsg.slotCount + 1) = false) ∧
    (let s := lab.onTm (fun t => { t with mgmtWait := [(12, noticeMsg)] })
     FabricPort s 12 ∧ ServesPair s noticeMsg ∧ classHeld s 12 noticeMsg.tc = false ∧ s.tm.mgmtWait ≠ []) := by
  repeat' first
    | decide +kernel
    | exact serves_of _ _ _ (by decide +kernel)
    | exact fabric_of _ _ (by decide +kernel)
    | (unfold ServesPair; decide +kernel)
    | refine And.intro ?_ ?_

/-- The lab's twin side in a state, with its neighbours on port 12 (pair 2) and port 16 (the twin). -/
def labTwin (st : Nat) (f : Twin → Twin) : State := lab.onTwin (fun t => f { t with pair := st, portPeer := [(12, 2), (16, 64)] })

/-- A message of the twin to this ZX964. -/
def twinMsg (s : State) (body : Nat) : Msg := { opcode := 0, peer := agentPeer (ownIdent s % 64) (ownIdent s / 64) agentTwin, body := body }

/-- Whether a message is for this ZX964's twin logic, decided. -/
def forTwinB (s : State) (p : Nat) (m : Msg) : Bool :=
  fabricB s p && decide (identOf (bits m.peer 0 6) (bits m.peer 6 1) = ownIdent s) && !twinReserved m

theorem forTwin_of (s : State) (p : Nat) (m : Msg) (h : forTwinB s p m = true) : ForTwin s p m := by
  simp only [forTwinB, Bool.and_eq_true, decide_eq_true_eq, Bool.not_eq_true', and_assoc] at h
  exact ⟨fabric_of _ _ h.1, h.2⟩

/-- A message of the twin range to this ZX964, as it is heard. -/
def toTwin (s : State) (op body : Nat) : Msg := ((twinMsg s body).withOp op).heard

/-- A message of the twin range with a step, as it is heard. -/
def toTwinStep (s : State) (op k : Nat) : Msg := ((twinMsg s 0).withStep op k).heard

/-- A heartbeat: identity, pair state, tags, and cold starts. -/
def beat (id st tags cold : Nat) : Nat := id * 2 ^ 32 + st * 2 ^ 40 + tags * 2 ^ 48 + cold * 2 ^ 80

/-- A side that takes the twin's heartbeat: what it then knows, and the tags that the heartbeat says. -/
def beaten (s : State) (p : Nat) (n : Msg) : State := s.onTwin (fun t => { t with
  quarantine := t.quarantine.del (n.fld 32 7), neigh := t.neigh.put (n.fld 32 7) { heard := true }
  portPeer := t.portPeer.put p (n.fld 32 7), peerTags := t.peerTags.put (n.fld 32 7) (n.fld 48 32)
  peerCold := t.peerCold.put (n.fld 32 7) (n.fld 80 32), peerState := t.peerState.put (n.fld 32 7) (n.fld 40 4)
  silentTurns := 0, twinTags := some (n.fld 48 32) })

/-- A heartbeat of the own twin in a pair state with tags. -/
def twinBeat (s : State) (st tags : Nat) : Msg := toTwin s opTwBeat (beat (twinIdent s) st tags 0)

theorem witness_TwinMessagesRun :
    (let recv := labTwin psRecv id
     let sync := labTwin psSync id
     let alone := labTwin psAlone id
     ForTwin recv 16 (toTwin recv opTwMirror 0) ∧ portRole recv 16 = roleTwin ∧ recv.twin.pair = psRecv ∧
       (ForTwin sync 16 (toTwin sync opTwMirror 0) ∧ sync.twin.pair = psSync ∧ sync.twin.serving = false) ∧
       (ForTwin alone 16 (toTwin alone opTwMirror 0) ∧ alone.twin.pair ≠ psRecv ∧ alone.twin.pair ≠ psSync) ∧
       ForTwin recv 12 (toTwin recv opTwMirror 0) ∧ portRole recv 12 ≠ roleTwin) ∧
    (let send := labTwin psSend id
     let recv := labTwin psRecv id
     ForTwin send 16 (toTwin send opTwMirrorAck 0) ∧ portRole send 16 = roleTwin ∧ mirrorsNow send = true ∧
       (ForTwin recv 16 (toTwin recv opTwMirrorAck 0) ∧ portRole recv 16 = roleTwin ∧ mirrorsNow recv = false) ∧
       ForTwin recv 12 (toTwin recv opTwMirrorAck 0) ∧ portRole recv 12 ≠ roleTwin) ∧
    (let s := labTwin psSync (fun t => { t with quarantine := [(3, 2 ^ 32 - 1)] })
     let n := toTwin s opTwBeat (beat 3 0 0 (2 ^ 32 - 1))
     let n' := toTwin s opTwBeat (beat 3 0 0 0)
     (ForTwin s 12 n ∧ s.twin.quarantine.get? (n.fld 32 7) = some (2 ^ 32 - 1) ∧ reached (2 ^ 32 - 1) (n.fld 80 32) = true) ∧
       (ForTwin s 12 n' ∧ s.twin.quarantine.get? (n'.fld 32 7) = some (2 ^ 32 - 1) ∧ reached (2 ^ 32 - 1) (n'.fld 80 32) = false ∧
         portRole s 12 ≠ roleTwin)) ∧
    (let s := labTwin psSync id
     let n := twinBeat s psSync 0
     ForTwin s 16 n ∧ portRole s 16 = roleTwin ∧ s.twin.quarantine.get? (n.fld 32 7) = none ∧ n.fld 32 7 = twinIdent s ∧
       tagsPass (beaten s 16 n) (n.fld 48 32) = false ∧ s.twin.twinTags ≠ some (n.fld 48 32) ∧
       (labTwin psSync (fun t => { t with twinTags := some 0 })).twin.twinTags = some (n.fld 48 32)) ∧
    (let s := withObjs [(0x2B0001, 0, 0x04030201), (0x2B0002, 0, 1)] (labTwin psUnpaired id)
     let n := twinBeat s psUnpaired 0x08070605
     ForTwin s 16 n ∧ portRole s 16 = roleTwin ∧ n.fld 32 7 = twinIdent s ∧ tagsPass (beaten s 16 n) (n.fld 48 32) = true ∧
       (beaten s 16 n).twin.pair = psUnpaired ∧ mayPair (beaten s 16 n) = true) ∧
    (let s := withObjs [(0x2B0001, 0, 0x04030201)] (labTwin psAlone id)
     let n := twinBeat s psDetached 0x08070605
     let n' := twinBeat s psSync 0x08070605
     ForTwin s 16 n ∧ n.fld 32 7 = twinIdent s ∧ tagsPass (beaten s 16 n) (n.fld 48 32) = true ∧
       (beaten s 16 n).twin.pair = psAlone ∧ n.fld 40 4 = psDetached ∧
       (ForTwin s 16 n' ∧ tagsPass (beaten s 16 n') (n'.fld 48 32) = true ∧ (beaten s 16 n').twin.pair ≠ psUnpaired ∧
         n'.fld 40 4 ≠ psRecv ∧ n'.fld 40 4 ≠ psDetached)) := by
  repeat' first
    | decide +kernel
    | exact forTwin_of _ _ _ (by decide +kernel)
    | refine And.intro ?_ ?_

/-- An answer on identity 2 to the question 7 of this ZX964: an agreement. -/
def answered (s : State) : Msg := toTwin s opTwConfirm (2 + ownIdent s * 2 ^ 8 + 7 * 2 ^ 16 + 2 ^ 48)

theorem witness_TwinVerdictsRun :
    ForTwin (labTwin psSync id) 12 (toTwin (labTwin psSync id) opTwSuspect 2) ∧
    ([[], [5]].all (fun agree =>
      let s := labTwin psSync (fun t => { t with neigh := [(2, { ask := some 7, agree := agree })] })
      let n := answered s
      let k : Neigh := s.twin.neigh.getD (n.fld 0 7) {}
      forTwinB s 16 n && decide (peerOn s 16 = some 64) && decide (n.fld 8 7 = ownIdent s) && decide (k.ask = some (n.fld 16 32)) &&
        decide (n.fld 48 2 = 1) && decide ((64 :: k.agree).dedup.length = agree.length + 1)) = true) ∧
    (let s := labTwin psSync (fun t => { t with neigh := [(2, { ask := some 6 })] })
     let n := answered s
     ForTwin s 16 n ∧ (s.twin.neigh.getD (n.fld 0 7) {}).ask ≠ some (n.fld 16 32)) ∧
    (let s := labTwin psSync (fun t => { t with quarantine := [(3, 0)], servingEpoch := [(5, 9)] })
     let about := fun x => toTwin s opTwVerdict x
     let serves := fun e => toTwin s opTwServing (5 + e * 2 ^ 8)
     (ForTwin s 16 (about (ownIdent s)) ∧ (about (ownIdent s)).fld 0 7 = ownIdent s) ∧
       (ForTwin s 16 (about 3) ∧ (about 3).fld 0 7 ≠ ownIdent s ∧ s.twin.quarantine.has ((about 3).fld 0 7) = true) ∧
       (ForTwin s 12 (about (twinIdent s)) ∧ (about (twinIdent s)).fld 0 7 ≠ ownIdent s ∧
         s.twin.quarantine.has ((about (twinIdent s)).fld 0 7) = false ∧ (about (twinIdent s)).fld 0 7 = twinIdent s) ∧
       (ForTwin s 12 (about 5) ∧ (about 5).fld 0 7 ≠ ownIdent s ∧ s.twin.quarantine.has ((about 5).fld 0 7) = false ∧
         (about 5).fld 0 7 ≠ twinIdent s) ∧
       (ForTwin s 12 (serves 9) ∧ s.twin.servingEpoch.get? ((serves 9).fld 0 7 % 64) = some 9 ∧
         reached 9 ((serves 9).fld 8 32) = true) ∧
       (ForTwin s 12 (serves 10) ∧ s.twin.servingEpoch.get? ((serves 10).fld 0 7 % 64) = some 9 ∧
         reached 9 ((serves 10).fld 8 32) = false)) := by
  repeat' first
    | decide +kernel
    | exact forTwin_of _ _ _ (by decide +kernel)
    | refine And.intro ?_ ?_

theorem witness_TwinCatchupRuns :
    ([psUnpaired, psSync, psHolding, psAlone, psSend, psRecv, psDetached].all (fun st =>
      let s := withObjs [(0x2B0002, 0, 1)] (labTwin st id)
      decide (s.twin.pair = st) && decide (cfg s 0x2B0002 = 1) &&
        [0, 1, 2, 3].all (fun k => (k == 3 || forTwinB s 16 (toTwinStep s opTwDetach k)) &&
          forTwinB s 16 (toTwinStep s opTwCatchup k))) = true) ∧
    (labTwin psSync id).twin.serving = false ∧ (labTwin psRecv id).twin.inbox = [] ∧
    (servesHere (labTwin psAlone id) = true ∧ servesHere (labTwin psRecv id) = false) ∧
    (mayPair (withObjs [(0x2B0001, 0, 0x04030201), (0x2B0002, 0, 1)]
        (labTwin psUnpaired (fun t => { t with twinTags := some 0x08070605 }))) = true ∧
      mayPair (labTwin psAlone id) = false) ∧
    (cfg (labTwin psAlone id) 0x2B0002 ≠ 1 ∧ (labTwin psRecv (fun t => { t with inbox := [{ seq := 1, recs := [] }] })).twin.inbox ≠ []) := by
  decide +kernel

/-! ## Witnesses: legs -/

/-- Core 23 running launch 1 of itinerary 0, which holds one leg, in composition 3. -/
def labLeg (l : Nat) (cores : Nat) (k : Core) : State := lab.onCompute (fun x => { x with
  itins := [(0, { state := 3, desc := 3 + 2 ^ 24 + cores * 2 ^ 92 })], legs := [(0, l)]
  launches := [(1, { itin := 0, comp := 3, host := 5, args := 0, state := 1 })]
  cores := [(23, { k with queue := [1], started := true })] })

/-- Whether core 23 issues its leg, decided. -/
def issuesB (s : State) (kind : Nat) : Bool :=
  inService s && decide (runningComp s 23 = some 3) && decide ((coreOf s 23).queue ≠ []) && decide ((coreOf s 23).waiting = none) &&
    decide (legKind (legNow s 23) = kind) && !throttled s kind && !hazard (coreOf s 23) (legNow s 23) (rangesNow s 23 3) &&
    !(rangesNow s 23 3).any (intoReserve s 23)

theorem issues_of (s : State) (kind : Nat) (h : issuesB s kind = true) : Issues s 23 kind 3 := by
  simp only [issuesB, Bool.and_eq_true, decide_eq_true_eq, Bool.not_eq_true', and_assoc] at h
  exact ⟨h.1, by decide, h.2⟩

/-- A leg of a kind on engine 0. -/
def leg (kind : Nat) : Nat := kind + 2 ^ 4

theorem witness_LegsRun :
    ([1, 2, 3, 4, 5, 6, 7, 9, 10].all (fun k => issuesB (labLeg (leg k) (2 ^ 23) {}) k) = true) ∧
    (let s := labLeg (leg 8) (2 ^ 23) {}
     Issues s 23 8 3 ∧ legsDone s 23 = true ∧ (coreOf (issued s 23) 23).queue = 1 :: [] ∧
       launchOf (issued s 23) 1 = some { itin := 0, comp := 3, host := 5, args := 0, state := 1 }) ∧
    (let s := labLeg (leg 0) (2 ^ 23 + 1) {}
     let l : Launch := { itin := 0, comp := 3, host := 5, args := 0, state := 1 }
     Issues s 23 0 3 ∧ legsDone s 23 = true ∧ (coreOf (issued s 23) 23).queue = 1 :: [] ∧ launchOf (issued s 23) 1 = some l ∧
       (launchCores (issued s 23) l).all (fun x => (l.done ++ [23]).contains x) = false) ∧
    (let s := labLeg (leg 0) (2 ^ 23) {}
     let l : Launch := { itin := 0, comp := 3, host := 5, args := 0, state := 1 }
     Issues s 23 0 3 ∧ legsDone s 23 = true ∧ (coreOf (issued s 23) 23).queue = 1 :: [] ∧ launchOf (issued s 23) 1 = some l ∧
       (launchCores (issued s 23) l).all (fun x => (l.done ++ [23]).contains x) = true) ∧
    (let s := labLeg (leg 9) (2 ^ 23) { waiting := some (90, 7) }
     clocked s = true ∧ (coreOf s 23).waiting = some (90, 7)) := by
  repeat' first
    | decide +kernel
    | exact issues_of _ _ (by decide +kernel)
    | refine And.intro ?_ ?_

/-! ## Witnesses: rules, the whole machine, encodings, RAMs -/

theorem witness_BreakoutNeedsDisabledPorts :
    (Writable lab .steward 0x212002 1 2 ∧ SMap.wf lab.dict.objs = true ∧ selVal lab .steward 0x212001 < 64 ∧
      ∀ j, j < 4 → linkState lab (4 * selVal lab .steward 0x212001 + j) = lsDisabled) ∧
    (let s := chosen [(0x212001, 63)] [] (withObjs [(0x212007, 255, lsUp)] lab)
     Writable s .steward 0x212002 1 0 ∧ SMap.wf s.dict.objs = true ∧
       ∃ j, j < 4 ∧ linkState s (4 * selVal s .steward 0x212001 + j) ≠ lsDisabled) :=
  ⟨⟨writable_of _ _ _ _ _ (by decide +kernel), by decide +kernel⟩, writable_of _ _ _ _ _ (by decide +kernel),
    by decide +kernel, 3, by decide +kernel⟩

/-- Budgets of quadrant 3 for activity 7: the others' sum, and the greatest budget that fits. -/
def labBudget : State := chosen [(0x236001, 3), (0x236002, 7)] [] lab

def others (sub : Nat) : Nat :=
  (((List.range 8).filter (fun x => decide (1 ≤ x) && decide (x ≠ 7))).map (nextBudget labBudget (sub - 3) 3)).sum

def room (sub : Nat) : Nat := capacityOf (sub - 3) * (64 - cfg labBudget 0x236006) / 64 - others sub

theorem witness_BudgetsFitTheirResource :
    ([3, 4, 5].all (fun sub =>
      decide (room sub + 1 < 2 ^ 32) && writableB labBudget .steward (0x236000 + sub) 4 (room sub) &&
      writableB labBudget .steward (0x236000 + sub) 4 (room sub + 1) &&
      decide (selVal labBudget .steward 0x236001 = 3) && decide (selVal labBudget .steward 0x236002 = 7) &&
      decide (64 * (others sub + room sub) ≤ capacityOf (sub - 3) * (64 - cfg labBudget 0x236006)) &&
      decide (capacityOf (sub - 3) * (64 - cfg labBudget 0x236006) < 64 * (others sub + (room sub + 1)))) = true) ∧
    (clocked lab = true ∧ SMap.wf lab.dict.objs = true ∧
      let s := lab.onDict (fun d => { d with nextPeriod := [(budgetKey 0 3 7, 9)] })
      ∀ y ∈ s.dict.nextPeriod, y.1 = budgetKey 0 3 7 → y = (budgetKey 0 3 7, 9)) ∧
    Writable lab .steward 0x236006 1 32 :=
  ⟨by decide +kernel, ⟨by decide +kernel, by decide +kernel, by decide +kernel⟩, writable_of _ _ _ _ _ (by decide +kernel)⟩

/-- The lab with host 5's floor. -/
def labFloor (f : Nat) : State := lab.onHome (fun h => { h with floors := [(5, f)] })

theorem witness_FloorFollowsTheNewestEndedEntry :
    lab.home.floors.get? 5 = none ∧
    ((labFloor (2 ^ 32 - 1)).home.floors.get? 5 = some (2 ^ 32 - 1) ∧
      0 < (0 + 2 ^ 32 - (2 ^ 32 - 1)) % 2 ^ 32 ∧ (0 + 2 ^ 32 - (2 ^ 32 - 1)) % 2 ^ 32 < 2 ^ 31) ∧
    ((labFloor 1).home.floors.get? 5 = some 1 ∧ (2 ^ 31 + 2 ^ 32 - 1) % 2 ^ 32 = 2 ^ 31 - 1) ∧
    ((labFloor 0).home.floors.get? 5 = some 0 ∧ (0 + 2 ^ 32 - 0) % 2 ^ 32 = 0 ∧ 2 ^ 31 ≤ (2 ^ 31 + 2 ^ 32 - 0) % 2 ^ 32) ∧
    (6 : Nat) ≠ 5 := by decide +kernel

theorem witness_NoMessageActsWhileThePackageStops :
    (Instr.rdOwn 4 (hostMsg 0 [])).carried = some (4, (hostMsg 0 []).withOp opRdOwn) ∧
    (lab.onPower (fun p => { p with losing := some 3 })).power.losing.isSome = true ∧ halted.power.halted = true :=
  ⟨rfl, by decide +kernel⟩

theorem witness_SharedOperationsChangeOnlyTheirPart :
    SMap.wf lab.dict.objs = true ∧ (2 ^ 64 - 1 < 2 ^ 64) ∧ ((0x21200A : Nat) ≠ 0x210002 ∨ (4 : Nat) ≠ 0) := by decide +kernel

/-- A message whose fields are all at their greatest values: a write-back of a poisoned line. -/
def fullMsg : Msg :=
  { opcode := 0x06, tc := 7, poison := true, retry := true, ext := 4, peer := 2 ^ 16 - 1, composition := 127, tag := 2 ^ 16 - 1,
    line := 2 ^ 40 - 1, body := 2 ^ 160 - 1, data := [1, 2, 3, 2 ^ 256 - 1] }

/-- A slot 0 whose fields are all at their greatest values. -/
def fullSlot0 : Slot0 :=
  { seq := 4095, idle := true, load := 15, ackSeq := 4095, keyPhase := 1, cont := 7, attempt := 15, credits := 2 ^ 48 - 1,
    tag := 2 ^ 128 - 1, crc := 2 ^ 32 - 1 }

theorem witness_MessagesAndRecordsReadBack :
    fullMsg.wf = true ∧
    (fullSlot0.seq < 2 ^ 12 ∧ fullSlot0.load < 2 ^ 4 ∧ fullSlot0.ackSeq < 2 ^ 12 ∧ fullSlot0.keyPhase < 2 ∧ fullSlot0.cont < 2 ^ 3 ∧
      fullSlot0.attempt < 2 ^ 4 ∧ fullSlot0.credits < 2 ^ 48 ∧ fullSlot0.tag < 2 ^ 128 ∧ fullSlot0.crc < 2 ^ 32) ∧
    (let e : Extent := { base := 2 ^ 31 - 1, length := 2 ^ 31 - 1, state := 5, comp := 127, shared := true, owner := 1023, rights := 15, backing := 3, tileDesc := 255, stripeSet := 255, drainUs := 2 ^ 16 - 1, generation := 2 ^ 32 - 1 }
     e.base < 2 ^ 31 ∧ e.length < 2 ^ 31 ∧ e.state < 8 ∧ e.comp < 128 ∧ e.owner < 1024 ∧ e.rights < 16 ∧ e.backing < 4 ∧
       e.tileDesc < 256 ∧ e.stripeSet < 256 ∧ e.drainUs < 2 ^ 16 ∧ e.generation < 2 ^ 32) ∧
    (let r := rec3 6
     r.state < 16 ∧ r.comp < 128 ∧ r.owner < 1024 ∧ r.generation < 2 ^ 32 ∧ r.producer < 1024 ∧ r.consumer < 1024 ∧
       r.target < 4096 ∧ r.lastFunction < 16 ∧ r.lastHost < 1024 ∧ r.firstTile < 2 ^ 31 ∧ r.tiles < 2 ^ 32 ∧
       r.requestTag < 2 ^ 64 ∧ r.fillLines < 2 ^ 32 ∧ r.openedAt < 2 ^ 32 ∧ r.stateAt < 2 ^ 32 ∧ r.producerInfo < 2 ^ 128) ∧
    (let e : FEntry := { mode := 1, ptrs := [0, 5, 1022, 1023], comp := 127, seq := 2 ^ 32 - 1 }
     e.mode < 4 ∧ (e.mode = 2 → e.ptrs = []) ∧ e.ptrs.length ≤ 4 ∧ (∀ h ∈ e.ptrs, h < 1024) ∧ e.comp < 128 ∧ e.seq < 2 ^ 32) ∧
    (let e : LEntry := { state := 3, comp := 127, line := 2 ^ 40 - 1, word := 15, aop := 15, status := 15, cas := true, result := 2 ^ 64 - 1, stamp := 0 }
     e.state < 4 ∧ e.comp < 128 ∧ e.line < 2 ^ 40 ∧ e.word < 16 ∧ e.aop < 16 ∧ e.status < 16 ∧ e.result < 2 ^ 64) := by
  decide +kernel

theorem witness_RamsReadAsWritten : MemoriesWf (storeLine lab (2 ^ 40 - 1) 1) := by unfold MemoriesWf; decide +kernel

/-! ## Ill-formed commands are refused -/

/-- A requester whose `peer` does not fit. -/
def badWho : Requester := .inband (2 ^ 16) 0

/-- Rows of one requester. -/
def whoRows : List (Requester → Instr) := [
  .bind, .revoke, .restore, .extentRelease, .hostDeclareLost, .readmit, .sharersDropped, .memberDeclareLost, .replace,
  .flush, .regionCreate, .regionDestroy, .tableLoad, .tableRetire, .arm, .rearm, .disarm, .alloc, .close, .accept,
  .reject, .itineraryRetire, .itineraryFree, .coreReset, .partitionCreate, .partitionDestroy, .compositionCreate,
  .compositionReset, .compositionDestroy, .join, .leave, .forceFree, .portEnable, .portDisable, .portReset,
  .portRetrain, .mirrorDisable, .canEventPop, .stewardAlive, .stewardRestart, .enterRecovery, .recoveryInstall,
  .recoveryAbort, .powerFull, .powerTrim, .powerQuiet, .powerWatch, .powerOff, .warmReset, .coldReset, .coldStart,
  .certInstall, .certErase, .ownerSet, .ownerTransfer, .imageStage, .imageAbort]

theorem test_wf_requesters :
    (whoRows.all (fun f => (f (.inband (2 ^ 16 - 1) 127)).wf && !(f badWho).wf && !(f (.inband 0 128)).wf) &&
      !(Instr.objectWrite (access badWho 0 0)).wf && !(Instr.cacheQuotaWrite badWho 0).wf && !(Instr.windowDescriptorWrite badWho 0).wf &&
      !(Instr.windowCursorWrite badWho 0).wf && !(Instr.entryRecordWrite badWho 0).wf &&
      !(Instr.compositionDescriptorWrite badWho 0 1 0).wf && !(Instr.gateSwitchTimeWrite badWho 0).wf &&
      !(Instr.budgetWrite badWho 3 0).wf && !(Instr.breakoutWrite badWho 0).wf && !(Instr.portRoleWrite badWho 0).wf) = true := by
  decide +kernel

/-- Rows that arrive as messages. -/
def msgRows : List (Nat → Msg → Instr) := [
  .rdShared, .rdOwn, .rdNc, .wrNc, .wrStash, .wbDirty, .evictClean, .atomic, .fence, .milestone, .snpInv, .snpShare,
  .stashFill, .snpResp, .resp, .respData, .notice, .launch, .count, .lookup, .walk, .searchWrite, .searchClear,
  .openRec, .sealRec, .offer, .withdraw, .claim, .handoffRelease, .discard, .query, .twMirror, .twMirrorAck, .twBeat,
  .twSuspect, .twConfirm, .twVerdict, .twServing, .twDetachRequest, .twDetachConfirm, .twDetachRefuse, .twCatchupEpoch,
  .twCatchupStart, .twCatchupDone, .twCatchupAbort, .spdm]

/-- A message whose `ext` counts a slot that it does not carry, and one whose tag does not fit. -/
def shortMsg : Msg := { hostMsg 0 [] with ext := 1 }

def wideMsg : Msg := { hostMsg 0 [] with tag := 2 ^ 16 }

theorem test_wf_messages :
    msgRows.all (fun f => (f 255 (hostMsg 0 [])).wf && !(f 256 (hostMsg 0 [])).wf && !(f 0 shortMsg).wf && !(f 0 wideMsg).wf) = true := by
  decide +kernel

/-- Rows of one number, with the first number that is too great. -/
def numberRows : List (Nat × List (Nat → Instr)) := [
  (2 ^ 16, [.drainComplete, .drainTimerExpiry, .tileZeroMark]),
  (2 ^ 40, [.mergeHoldExpiry, .dwellExpiry, .homeTimeout, .stashOfferTimeout]),
  (64, [.milestoneTimeout, .pairLostTimeout]),
  (1024, [.hostLossHoldExpiry]),
  (256, [
    .trayLossHoldExpiry, .gateEntryChange, .gateBankSwitch, .receiversAdapted, .trainTimeout, .codewordsLocked,
    .alignTimeout, .paramTimeout, .secureTimeout, .codewordLockLost, .retrainComplete, .retrainTimeout, .replayTimeout,
    .rekeyLimit, .rekeyDeadline, .narrowIdle, .sessionRetryHoldoff, .egressSlot, .fullWidthRestored]),
  (128, [.flushComplete, .compositionResetComplete]),
  (4, [.tableLoadComplete, .tableRefsZero]),
  (64, [.reduceRoundComplete, .reduceRoundTimeout]),
  (192, [.engineIdle]),
  (24, [
    .corePllIdle, .move, .gather, .array, .vector, .select, .send, .stash, .signal, .await, .repeatLeg, .endLeg,
    .awaitTimeout]),
  (1024, [.walkIdleTimeout]),
  (16, [.partitionCleared, .partitionReloaded]),
  (8, [.bankIdleGate]),
  (2 ^ 20, [.offerTimerExpiry]),
  (4, [.powerStageFailure]),
  (2 ^ 16, [.powerCapStep]),
  (256, [.startStepFailed]),
  (256, [.randomSourceUnhealthy])]

theorem test_wf_numbers :
    numberRows.all (fun x => x.2.all (fun f => (f (x.1 - 1)).wf && !(f x.1).wf)) = true := by decide +kernel

theorem test_wf_values :
    ([.objectWrite { who := .steward, idx := 2 ^ 16, sub := 0, len := 1, value := 0 },
      .objectWrite { who := .steward, idx := 0, sub := 256, len := 1, value := 0 },
      .objectWrite { who := .steward, idx := 0, sub := 0, len := 1, value := 256 },
      .cacheQuotaWrite .steward (2 ^ 32), .windowDescriptorWrite .steward (2 ^ 128), .windowCursorWrite .steward (2 ^ 16),
      .entryRecordWrite .steward (2 ^ 768), .compositionDescriptorWrite .steward 32 1 0, .compositionDescriptorWrite .steward 0 1 256,
      .gateSwitchTimeWrite .steward (2 ^ 64), .budgetWrite .steward 2 0, .budgetWrite .steward 7 0, .budgetWrite .steward 3 (2 ^ 32),
      .breakoutWrite .steward 256, .portRoleWrite .steward 256] : List Instr).all (fun i => !i.wf) = true := by decide +kernel

theorem test_wf_pairs :
    ([.requestTimeout (2 ^ 16) 0, .requestTimeout 0 (2 ^ 16), .pathChangeStart 64 0 0, .pathChangeStart 0 256 0, .pathChangeStart 0 0 256,
      .ledgerEntryExpiry 1024 0, .ledgerEntryExpiry 0 (2 ^ 32), .tierAccessDone (2 ^ 40) 0, .patrolScrub (2 ^ 40) 0,
      .trayRequestTimeout 256 0, .trayRequestTimeout 0 (2 ^ 16), .replaceFillComplete 256 0, .replaceFillComplete 0 32,
      .windowRepointComplete 128 0, .windowRepointComplete 0 16, .eccRecoveryComplete (2 ^ 40) true 0, .searchUpdateApply 16 0,
      .parityScan 16 0 [], .parityScan 0 (2 ^ 18) [], .interruptWriteTimeout 1024 0, .interruptWriteTimeout 0 (2 ^ 16),
      .admissionHoldRelease 256 0, .admissionHoldRelease 0 8, .laserInputLow 64 0, .laserInputRestored 64 0,
      .lanePresenceChange 64 0 0, .lanePresenceChange 0 8 0, .parameterBlockReceived 256 0, .thermalThrottle 3 0 0,
      .thermalThrottle 0 256 0, .thermalTrip 3 0 0, .thermalTrip 0 256 0,
      .flitReceived 256 (flit (slot0 0 true) 0), .flitReceived 0 { slot0 := 0, slots := [] },
      .flitReceived 0 { slot0 := 0, slots := List.replicate 7 0, codewords := [[544]] }] : List Instr).all (fun i => !i.wf) = true := by decide +kernel

/-! ## Values that the spec gives -/

/-- "Numbers and units": 32-bit counters are compared by modular difference. -/
theorem test_reached_wraps : reached 0 (2 ^ 32 - 1) = true ∧ reached (2 ^ 31 - 1) 0 = true ∧ reached (2 ^ 31) 0 = false := by decide

/-- R14 and the home map's example: in a four-way region, tile 0x3A7C1234 has home index 0, the pair in `pair0`. -/
theorem test_home_index :
    homePair (withObjs [(0x210002, 0x3A7C1234 / 2 ^ 19, 1 + 2 * 2 + 9 * 2 ^ 8 + 10 * 2 ^ 14)] lab) (0x3A7C1234 * 512) = some 9 ∧
    homePair (withObjs [(0x210002, 0x3A7C1234 / 2 ^ 19, 1 + 2 * 2 + 9 * 2 ^ 8 + 10 * 2 ^ 14)] lab) (0x3A7C1235 * 512) = some 10 ∧
    homePair lab (0x3A7C1234 * 512) = none := by decide +kernel

/-- The record of 0x0A12 in the example of 17: extent 0x0042, generation 7, one straggler, composition 5. -/
theorem test_event_record :
    ((post lab 0x0A12 (some 5) (pay [(2, 0x42), (4, 7), (4, 1)])).dict.stewardQ.map (fun e =>
      (bits e.toNat 32 16, bits e.toNat 48 8, bits e.toNat 128 16, bits e.toNat 144 32, bits e.toNat 176 32, bits e.toNat 208 48)))
      = [(0x0A12, 0x85, 0x42, 7, 1, 0)] := by decide +kernel

/-- R279: a breakout beside a port that is not `DISABLED` is refused with `BUSY` (1) in object 2120.09. -/
theorem test_breakout_busy :
    (match exec (.breakoutWrite .steward 1) (withObjs [(0x212007, 3, lsUp)] lab) with
     | .next t => decide (statusOf t .steward 0x212009 = 1) && decide (getObj t 0x212002 0 = 0)
     | _ => false) = true := by decide +kernel

/-- R15: a request for a region without homes is answered `NO_ROUTE` by the ZX964 that receives it. -/
theorem test_no_route :
    (match exec (.rdShared 4 { hostMsg 0 [] with line := 0x3A7C1234 * 512 }) lab with
     | .next t => (t.tm.egress.getD 32 []).map (fun e => (e.m.opcode, e.m.status))
     | _ => []) = [(opResp, stNoRoute)] := by decide +kernel

/-- R281: a codeword is a multiple of the generator, so it is zero at each of its roots, and 15 erroneous symbols are corrected. -/
theorem test_rs_codeword :
    ((List.range 30).all (fun j =>
      (rsCodeword [1, 2, 3, 1023]).foldl (fun v x => gf10Mul v ((List.range j).foldl (fun a _ => gf10Mul a 2) 1) ^^^ x) 0 == 0)) = true ∧
    fecCorrects (List.range 15) = true ∧ fecCorrects (List.range 16) = false := by decide +kernel

/-- R124: AES-256 on the example of FIPS 197, appendix C.3. -/
theorem test_aes_block :
    aesBlock (roundKeys 0x1f1e1d1c1b1a191817161514131211100f0e0d0c0b0a09080706050403020100) ((List.range 16).map (fun i => 17 * i)) =
      [0x8e, 0xa2, 0xb7, 0xca, 0x51, 0x67, 0x45, 0xbf, 0xea, 0xfc, 0x49, 0x90, 0x4b, 0x49, 0x60, 0x89] := by decide +kernel

/-- R137, R386: SHAKE256 of the empty message, its first eight bytes (FIPS 202). -/
theorem test_shake256 :
    bytesOf 8 (shake256 0 0 8) = [0x46, 0xb9, 0xdd, 0x2b, 0x0b, 0xa8, 0x8d, 0x13] := by decide +kernel

end Sys2Proof.Tests
end

/-! # The eviction floor (R53)

What the end of a ledger entry does to its host's floor. The model compares by `reached`; the rule speaks of the modular
difference, and the two agree on 32-bit values. -/
namespace Sys2Proof.Proofs.EvictionFloor

open Sys2Proof Sys2Proof.Machine

/-- Removing a ledger entry leaves the floors. -/
@[simp] theorem delLedger_floors (s : State) (host id : Nat) : (delLedger s host id).home.floors = s.home.floors := rfl

/-- An ID is ahead of a 32-bit floor when their modular difference is at least 1 and below 2^31. -/
theorem ahead_iff {id f : Nat} (hid : id < 2 ^ 32) (hf : f < 2 ^ 32) :
    (f ≠ id ∧ reached id f = true) ↔
      0 < (id + 2 ^ 32 - f) % 2 ^ 32 ∧ (id + 2 ^ 32 - f) % 2 ^ 32 < 2 ^ 31 := by
  have hne : f ≠ id ↔ 0 < (id + 2 ^ 32 - f) % 2 ^ 32 := by omega
  have hreached : reached id f = true ↔ (id + 2 ^ 32 - f) % 2 ^ 32 < 2 ^ 31 := by
    simp only [reached, Nat.mod_eq_of_lt hf, decide_eq_true_iff]
  rw [hne, hreached]

/-- An unset floor becomes the ID of the entry that ends. -/
theorem endEntry_floors_of_unset (s : State) {host : Nat} (id : Nat) (h : s.home.floors.get? host = none) :
    (endEntry s host id).home.floors = s.home.floors.put host id := by
  simp [endEntry, raiseFloor, h]

/-- A set floor becomes the ID of the entry that ends if the ID is ahead of it; otherwise no floor changes. -/
theorem endEntry_floors_of_set (s : State) {host f : Nat} (id : Nat) (h : s.home.floors.get? host = some f) :
    (endEntry s host id).home.floors =
      if f ≠ id ∧ reached id f = true then s.home.floors.put host id else s.home.floors := by
  simp only [endEntry, raiseFloor, delLedger_floors, h, Bool.and_eq_true, decide_eq_true_iff]
  split <;> rfl

/-- The end of an entry leaves the floor of every other host. -/
theorem endEntry_floor_other (s : State) {host h : Nat} (id : Nat) (hne : h ≠ host) :
    (endEntry s host id).home.floors.get? h = s.home.floors.get? h := by
  have hput := SMap.get?_put_other s.home.floors host h id hne
  cases hfloor : s.home.floors.get? host with
  | none => rw [endEntry_floors_of_unset s id hfloor, hput]
  | some f =>
    rw [endEntry_floors_of_set s id hfloor]
    split
    · exact hput
    · rfl

/-- Settles O56: the floor before the end is unset, behind the ID, or not behind it, and `ahead_iff` tells the last two apart. -/
theorem floorFollowsTheNewestEndedEntry : Obligations.FloorFollowsTheNewestEndedEntry := by
  refine ⟨rfl, fun s host id hid => ⟨fun hunset => ?_, fun f hf hset hpos hlt => ?_, fun f hf hset hnot => ?_,
    fun h hne => endEntry_floor_other s id hne⟩⟩
  · rw [endEntry_floors_of_unset s id hunset, SMap.get?_put_same]
  · rw [endEntry_floors_of_set s id hset, if_pos ((ahead_iff hid hf).mpr ⟨hpos, hlt⟩), SMap.get?_put_same]
  · have hbehind : ¬ (f ≠ id ∧ reached id f = true) := by
      rw [ahead_iff hid hf]
      omega
    rw [endEntry_floors_of_set s id hset, if_neg hbehind, hset]

end Sys2Proof.Proofs.EvictionFloor

/-! # The governor's budgets (R274, R276)

A budget write is checked against its resource's capacity and kept for the next period; the governor's period stores what was
kept. Storing objects one after another changes the dictionary's objects alone (`StoresObjects`), so the last write of each
budget is what its object then reads. -/
namespace Sys2Proof.Proofs.GovernorBudgets

open Sys2Proof Sys2Proof.Machine

/-! ## The write of a governor object -/

/-- A budget object has the governor's own rule. -/
theorem writeObject_budget (s : State) (a : Access) {r : ObjRow} {sub : Nat} (v : Nat) (hlo : 3 ≤ sub) (hhi : sub ≤ 5)
    (hr : r.obj = 0x236000 + sub) : writeObject ap s a r v = budgetWrite s a.who sub v := by
  have hsel : isSelector (0x236000 + sub) = false := by
    interval_cases sub <;> decide +kernel
  interval_cases sub <;> simp only [writeObject, hr, hsel] <;> rfl

/-- The host's share has no rule of its own. -/
theorem writeObject_hostShare (s : State) (a : Access) {r : ObjRow} (v : Nat) (hr : r.obj = 0x236006) :
    writeObject ap s a r v = plainWrite s a.who r v := by
  have hsel : isSelector 0x236006 = false := by decide +kernel
  simp only [writeObject, hr, hsel]
  rfl

/-- The host's share is one object for every requester, outside the mirrored set. -/
theorem plainWrite_hostShare (s : State) (w : Requester) {r : ObjRow} (v : Nat) (hrow : objRow 0x236006 = some r) :
    plainWrite s w r v = (aeOk, setObj s 0x236006 0 v) := by
  have hentry : objRow 0x236006 = some ⟨0x236006, .uint, 1, (3, 1, 0, 1), [], false, false, false, 4, 32⟩ := by decide +kernel
  obtain rfl := Option.some.inj (hrow.symm.trans hentry)
  rfl

/-- `BUDGET_WRITE` leaves what its object's chapter gives for the whole value, answered `OK` (R351). -/
theorem exec_budgetWrite_of {s t : State} {w : Requester} {sub len v : Nat} (hlen : (if sub = 6 then 1 else 4) = len)
    (hsub : sub ≤ 6) (hv : v < 2 ^ (8 * len)) (hW : Writable s w (0x236000 + sub) len v)
    (hwrite : ∀ r, objRow (0x236000 + sub) = some r →
      writeObject ap s (wholeWrite w (0x236000 + sub) len v) r v = (aeOk, t)) :
    exec (.budgetWrite w sub v) s = .next (after s (reply t w (0x236000 + sub) aeOk)) := by
  subst hlen
  exact command_ok s t w _ _ v hW (by omega) (by unfold objNo; omega)
    (fun r hr => (Nat.mod_eq_of_lt hv).symm ▸ hwrite r hr)

/-- The sum of a resource's budgets in a quadrant if the selected activity's were `v`. -/
def budgetSum (s : State) (w : Requester) (sub v : Nat) : Nat :=
  (((List.range 8).filter (fun x => decide (1 ≤ x) && decide (x ≠ selVal s w 0x236002))).map
    (nextBudget s (sub - 3) (selVal s w 0x236001))).sum + v

/-- The state in which the selected budget's write waits for the next period, in place of an earlier one. -/
def keepBudget (s : State) (w : Requester) (sub v : Nat) : State :=
  let k := budgetKey (sub - 3) (selVal s w 0x236001) (selVal s w 0x236002)
  s.onDict (fun d => { d with nextPeriod := d.nextPeriod.filter (fun x => decide (x.1 ≠ k)) ++ [(k, v)] })

/-- The whole-number limit of the model and the rule's own inequality agree. -/
theorem budgetWrite_eq (s : State) (w : Requester) (sub v : Nat) :
    budgetWrite s w sub v =
      if capacityOf (sub - 3) * (64 - cfg s 0x236006) < 64 * budgetSum s w sub v then (aeOk, setStatus s w 0x236009 1)
      else (aeOk, setStatus (keepBudget s w sub v) w 0x236009 0) := by
  have hlimit : capacityOf (sub - 3) * (64 - cfg s 0x236006) / 64 < budgetSum s w sub v ↔
      capacityOf (sub - 3) * (64 - cfg s 0x236006) < 64 * budgetSum s w sub v := by
    rw [Nat.div_lt_iff_lt_mul (by decide), Nat.mul_comm 64]
  simp only [← hlimit]
  rfl

/-! ## Storing objects one after another -/

/-- From `s` to `t` objects are stored and nothing else changes; the list of stored objects keeps its canonical form. -/
def StoresObjects (s t : State) : Prop :=
  t = s.onDict (fun d => { d with objs := t.dict.objs }) ∧ (SMap.wf s.dict.objs = true → SMap.wf t.dict.objs = true)

theorem StoresObjects.refl (s : State) : StoresObjects s s := ⟨rfl, id⟩

theorem StoresObjects.trans {s t u : State} (hst : StoresObjects s t) (htu : StoresObjects t u) : StoresObjects s u := by
  refine ⟨?_, htu.2 ∘ hst.2⟩
  rw [htu.1, hst.1]
  rfl

theorem storesObjects_setObj (s : State) (o i v : Nat) : StoresObjects s (setObj s o i v) :=
  ⟨rfl, SMap.wf_setD _ _ _ _⟩

/-- Steps that store objects make a fold that stores objects. -/
theorem storesObjects_foldl {α : Type} {f : State → α → State} (hf : ∀ s x, StoresObjects s (f s x)) (l : List α) (s : State) :
    StoresObjects s (l.foldl f s) :=
  List.foldlRecOn l f (StoresObjects.refl s) fun t hst x _ => hst.trans (hf t x)

theorem StoresObjects.now {s t : State} (h : StoresObjects s t) : t.now = s.now := by rw [h.1]; rfl

theorem StoresObjects.nextPeriod {s t : State} (h : StoresObjects s t) : t.dict.nextPeriod = s.dict.nextPeriod := by
  rw [h.1]; rfl

/-- The note of a period's use (object 2360.07) stores objects. -/
theorem storesObjects_notePeriod (s : State) : StoresObjects s (notePeriod s) := by
  refine storesObjects_foldl (fun t q => storesObjects_foldl (fun u a => ?_) _ t) _ s
  split
  · exact StoresObjects.refl u
  · exact storesObjects_setObj u _ _ _

/-! ## The commit of the writes kept for a period -/

/-- Store a list of values, each under the key that packs its object and selectors. -/
def storeAll (l : List (Nat × Nat)) (s : State) : State :=
  l.foldl (fun s x => setObj s (x.1 / 2 ^ 64) (x.1 % 2 ^ 64) x.2) s

theorem storesObjects_storeAll (l : List (Nat × Nat)) (s : State) : StoresObjects s (storeAll l s) :=
  storesObjects_foldl (fun t _ => storesObjects_setObj t _ _ _) l s

/-- A key names its object and selectors. -/
theorem objKey_div_mod (k : Nat) : objKey (k / 2 ^ 64) (k % 2 ^ 64) = k := Nat.div_add_mod' k _

/-- The value read under a key that packs an object and its selectors. -/
abbrev readKey (s : State) (k : Nat) : Nat := getObj s (k / 2 ^ 64) (k % 2 ^ 64)

theorem readKey_store_same {s : State} (hwf : SMap.wf s.dict.objs = true) (k v : Nat) :
    readKey (setObj s (k / 2 ^ 64) (k % 2 ^ 64) v) k = v :=
  SMap.getD_setD_same _ _ _ _ hwf

theorem readKey_store_other (s : State) {j k : Nat} (v : Nat) (hne : j ≠ k) :
    readKey (setObj s (k / 2 ^ 64) (k % 2 ^ 64) v) j = readKey s j :=
  SMap.getD_setD_other _ _ _ _ _ _ (by rwa [objKey_div_mod, objKey_div_mod])

/-- Values stored under other keys leave a key's value. -/
theorem readKey_storeAll_other {k : Nat} (l : List (Nat × Nat)) (s : State) (hl : ∀ x ∈ l, k ≠ x.1) :
    readKey (storeAll l s) k = readKey s k := by
  induction l generalizing s with
  | nil => rfl
  | cons x l ih =>
    obtain ⟨hx, hrest⟩ := List.forall_mem_cons.mp hl
    exact (ih _ hrest).trans (readKey_store_other s x.2 hx)

/-- What is stored under a key only once reads as stored, for all that is stored after it. -/
theorem readKey_storeAll_mem {x : Nat × Nat} (l : List (Nat × Nat)) (s : State) (hwf : SMap.wf s.dict.objs = true)
    (hx : x ∈ l) (hone : ∀ y ∈ l, y.1 = x.1 → y = x) : readKey (storeAll l s) x.1 = x.2 := by
  induction l generalizing s with
  | nil => cases hx
  | cons y l ih =>
    have hone' : ∀ z ∈ l, z.1 = x.1 → z = x := fun z hz => hone z (List.mem_cons_of_mem y hz)
    by_cases hlater : x ∈ l
    · exact ih _ ((storesObjects_setObj s _ _ _).2 hwf) hlater hone'
    · obtain rfl : x = y := (List.mem_cons.mp hx).resolve_right hlater
      have hothers : ∀ z ∈ l, x.1 ≠ z.1 := fun z hz heq => hlater (hone' z hz heq.symm ▸ hz)
      exact (readKey_storeAll_other l _ hothers).trans (readKey_store_same hwf x.1 x.2)

/-! ## The governor's period -/

/-- The steward's reading of its queue leaves the time, the stored objects and the writes kept for the next period. -/
theorem drainSteward_keeps (s : State) : (drainSteward s).now = s.now ∧ (drainSteward s).dict.objs = s.dict.objs ∧
    (drainSteward s).dict.nextPeriod = s.dict.nextPeriod := by
  unfold drainSteward
  split <;> exact ⟨rfl, rfl, rfl⟩

/-- The state at the end of a period, with its use noted and the time of the next one reached. -/
def periodEnded (s : State) : State := reachTime (notePeriod (drainSteward s)) ((periodOf s.now + 1) * 8192)

theorem periodEnded_nextPeriod (s : State) : (periodEnded s).dict.nextPeriod = s.dict.nextPeriod :=
  (storesObjects_notePeriod _).nextPeriod.trans (drainSteward_keeps s).2.2

theorem periodEnded_wf {s : State} (hwf : SMap.wf s.dict.objs = true) : SMap.wf (periodEnded s).dict.objs = true :=
  (storesObjects_notePeriod (drainSteward s)).2 ((drainSteward_keeps s).2.1 ▸ hwf)

/-- The state in which a period has begun: the kept writes are stored and the accounts empty. -/
def periodBegun (s : State) : State :=
  ((storeAll s.dict.nextPeriod (periodEnded s)).onDict (fun d => { d with nextPeriod := [], posted := [] })).onTm
    (fun t => { t with
      used := [], droppedPrev := t.dropped, dropped := []
      stackHeld := [], stackWait := [], stackWaitPrev := (periodOf s.now, t.stackWait) })

/-- What waited for a budget goes on in the period that has begun. -/
theorem governorPeriod_eq (s : State) :
    governorPeriod s = resumeSearches (resumeMovers (sendUnsent (periodBegun s))) := by
  unfold periodBegun
  rw [← periodEnded_nextPeriod s]
  rfl

/-- The next period's time is reached when it has begun. -/
theorem periodBegun_now (s : State) : (periodOf s.now + 1) * 8192 ≤ (periodBegun s).now := by
  have hnow : (periodBegun s).now = (periodEnded s).now := (storesObjects_storeAll _ _).now
  rw [hnow]
  exact Nat.le_max_right _ _

/-- A budget object reads the write that was kept for it. -/
theorem periodBegun_reads {s : State} (hwf : SMap.wf s.dict.objs = true) {x : Nat × Nat} (hx : x ∈ s.dict.nextPeriod)
    (hone : ∀ y ∈ s.dict.nextPeriod, y.1 = x.1 → y = x) : readKey (periodBegun s) x.1 = x.2 :=
  readKey_storeAll_mem _ _ (periodEnded_wf hwf) hx hone

/-- Settles O55: a write is checked by `budgetWrite_eq`, and the kept writes are stored by `periodBegun`. -/
theorem budgetsFitTheirResource : Obligations.BudgetsFitTheirResource := by
  refine ⟨fun s w sub v hlo hhi hv hW => ?_, fun s hclock hwf => ?_, fun s w v hv hW => ?_⟩
  · have hexec : ∀ t, budgetWrite s w sub v = (aeOk, t) →
        exec (.budgetWrite w sub v) s = .next (after s (reply t w (0x236000 + sub) aeOk)) := fun t ht =>
      exec_budgetWrite_of (if_neg (by omega)) (by omega) hv hW fun r hr =>
        (writeObject_budget s _ v hlo hhi (objRow_obj _ r hr)).trans ht
    rw [budgetWrite_eq] at hexec
    exact ⟨fun hover => hexec _ (if_pos hover), fun hfits => hexec _ (if_neg (Nat.not_lt.mpr hfits))⟩
  · refine ⟨periodBegun s, ?_, rfl, rfl, periodBegun_now s, fun x => periodBegun_reads hwf⟩
    calc exec .governorPeriod s = .next (after s (timed s governorPeriod)) := done_eq s _
      _ = .next (after s (resumeSearches (resumeMovers (sendUnsent (periodBegun s))))) := by
        rw [timed_on s _ hclock, governorPeriod_eq]
  · exact exec_budgetWrite_of rfl (by decide) hv hW fun r hr =>
      (writeObject_hostShare s _ v (objRow_obj _ r hr)).trans (plainWrite_hostShare s w v hr)

end Sys2Proof.Proofs.GovernorBudgets

/-! # The breakout of a physical port (R279)

The write compares the four logical ports with `DISABLED`. A refusal sets the status alone. An accepted one stores the breakout
and then trims the credit grants of the four ports, so every other object reads as before (`getObj_storeBreakout_other`). -/
namespace Sys2Proof.Proofs.PortBreakout

open Sys2Proof Sys2Proof.Machine
open Sys2Proof.Proofs.GovernorBudgets (StoresObjects storesObjects_setObj storesObjects_foldl)

/-! ## An object reads as it was stored -/

/-- An object's key tells its number and its selectors apart. -/
theorem objKey_inj {o i p k : Nat} (hi : i < 2 ^ 64) (hk : k < 2 ^ 64) (h : objKey o i = objKey p k) : o = p ∧ i = k := by
  unfold objKey at h
  omega

theorem getObj_setObj_same {s : State} (hwf : SMap.wf s.dict.objs = true) (o i v : Nat) : getObj (setObj s o i v) o i = v :=
  SMap.getD_setD_same _ _ _ _ hwf

theorem getObj_setObj_other (s : State) {o i p k : Nat} (v : Nat) (hi : i < 2 ^ 64) (hk : k < 2 ^ 64) (hne : o ≠ p ∨ i ≠ k) :
    getObj (setObj s p k v) o i = getObj s o i :=
  SMap.getD_setD_other _ _ _ _ _ _ fun hkey =>
    have ⟨ho, hik⟩ := objKey_inj hi hk hkey
    hne.elim (· ho) (· hik)

/-! ## The stored breakout -/

/-- The trim of a port's credit grants stores objects. -/
theorem storesObjects_trimGrants (s : State) (p : Nat) : StoresObjects s (trimGrants s p) := by
  unfold trimGrants
  split
  · exact storesObjects_setObj s _ _ _
  · exact StoresObjects.refl s

/-- The trim of a port's credit grants changes object 2120.0A alone. -/
theorem getObj_trimGrants_other (s : State) {p o i : Nat} (hp : p < 2 ^ 64) (hi : i < 2 ^ 64) (ho : o ≠ 0x21200A) :
    getObj (trimGrants s p) o i = getObj s o i := by
  unfold trimGrants
  split
  · exact getObj_setObj_other s _ hi hp (.inl ho)
  · rfl

/-- The state with the new breakout of a physical port, and the grants of its logical ports trimmed to it. -/
def storeBreakout (s : State) (f v : Nat) : State :=
  (List.range 4).foldl (fun s j => trimGrants s (4 * f + j)) (setObj s 0x212002 f v)

theorem storesObjects_storeBreakout (s : State) (f v : Nat) : StoresObjects s (storeBreakout s f v) :=
  (storesObjects_setObj s _ _ _).trans (storesObjects_foldl (fun t _ => storesObjects_trimGrants t _) _ _)

/-- Beside the grants, the objects read as after the store of the breakout alone. -/
theorem getObj_storeBreakout (s : State) {f o i : Nat} (v : Nat) (hf : f < 64) (hi : i < 2 ^ 64) (ho : o ≠ 0x21200A) :
    getObj (storeBreakout s f v) o i = getObj (setObj s 0x212002 f v) o i := by
  refine List.foldlRecOn (motive := fun t => getObj t o i = _) _ _ rfl fun t ht j hj => ?_
  have hport : 4 * f + j < 2 ^ 64 := by
    have := List.mem_range.mp hj
    omega
  exact (getObj_trimGrants_other t hport hi ho).trans ht

/-- The physical port reads its new breakout. -/
theorem getObj_storeBreakout_same {s : State} (hwf : SMap.wf s.dict.objs = true) {f : Nat} (v : Nat) (hf : f < 64) :
    getObj (storeBreakout s f v) 0x212002 f = v :=
  (getObj_storeBreakout s v hf (by omega) (by decide)).trans (getObj_setObj_same hwf _ _ _)

/-- No object changes but the breakout and the grants. -/
theorem getObj_storeBreakout_other (s : State) {f o i : Nat} (v : Nat) (hf : f < 64) (hi : i < 2 ^ 64) (ho : o ≠ 0x21200A)
    (hne : o ≠ 0x212002 ∨ i ≠ f) : getObj (storeBreakout s f v) o i = getObj s o i :=
  (getObj_storeBreakout s v hf hi ho).trans (getObj_setObj_other s v hi (by omega) hne)

/-! ## The write of the breakout -/

/-- While all four logical ports are `DISABLED`, the breakout is stored. -/
theorem breakoutWrite_accepted {s : State} {w : Requester} {v : Nat} (hv : v ≤ 2)
    (hdis : ∀ j, j < 4 → linkState s (4 * selVal s w 0x212001 + j) = lsDisabled) :
    breakoutWrite s w v = (aeOk, setStatus (storeBreakout s (selVal s w 0x212001) v) w 0x212009 0) := by
  have hall : (List.range 4).all (fun j => decide (linkState s (4 * selVal s w 0x212001 + j) = lsDisabled)) = true :=
    List.all_eq_true.mpr fun j hj => decide_eq_true (hdis j (List.mem_range.mp hj))
  simp only [breakoutWrite, hall, if_neg (Nat.not_lt.mpr hv)]
  rfl

/-- A logical port that is not `DISABLED` makes the write answer `BUSY`. -/
theorem breakoutWrite_refused {s : State} {w : Requester} {v j : Nat} (hv : v ≤ 2) (hj : j < 4)
    (hbusy : linkState s (4 * selVal s w 0x212001 + j) ≠ lsDisabled) :
    breakoutWrite s w v = (aeOk, setStatus s w 0x212009 1) := by
  have hall : (List.range 4).all (fun j => decide (linkState s (4 * selVal s w 0x212001 + j) = lsDisabled)) = false :=
    List.all_eq_false.mpr ⟨j, List.mem_range.mpr hj, by simpa using hbusy⟩
  simp only [breakoutWrite, hall, if_neg (Nat.not_lt.mpr hv)]
  rfl

/-- Object 2120.02 has the breakout's own rule. -/
theorem writeObject_breakout (s : State) (a : Access) {r : ObjRow} (v : Nat) (hr : r.obj = 0x212002) :
    writeObject ap s a r v = breakoutWrite s a.who v := by
  have hsel : isSelector 0x212002 = false := by decide +kernel
  simp only [writeObject, hr, hsel]
  rfl

/-- `BREAKOUT_WRITE` leaves what the breakout's rule gives, answered `OK` (R351). -/
theorem exec_breakoutWrite_of {s t : State} {w : Requester} {v : Nat} (hv : v ≤ 2) (hW : Writable s w 0x212002 1 v)
    (hwrite : breakoutWrite s w v = (aeOk, t)) :
    exec (.breakoutWrite w v) s = .next (after s (reply t w 0x212002 aeOk)) :=
  command_ok s t w _ _ v hW (by decide) rfl fun r hr => by
    rw [Nat.mod_eq_of_lt (by omega), writeObject_breakout s _ v (objRow_obj _ r hr)]
    exact hwrite

/-- Settles O54: the write is accepted or refused by the four ports, and an accepted one leaves `storeBreakout`. -/
theorem breakoutNeedsDisabledPorts : Obligations.BreakoutNeedsDisabledPorts := by
  refine fun s w v hv hW hwf => ⟨fun hdis => ?_, fun ⟨j, hj, hbusy⟩ => ?_⟩
  · refine ⟨storeBreakout s (selVal s w 0x212001) v, exec_breakoutWrite_of hv hW (breakoutWrite_accepted hv hdis), ?_,
      fun hf => ⟨getObj_storeBreakout_same hwf v hf, fun o i hi ho hne => getObj_storeBreakout_other s v hf hi ho hne⟩⟩
    rw [(storesObjects_storeBreakout s _ v).1]
    rfl
  · exact exec_breakoutWrite_of hv hW (breakoutWrite_refused hv hj hbusy)

end Sys2Proof.Proofs.PortBreakout

/-! # The step and the queue

Every meaning is `done s` of its effect, which answers a next state and leaves the queue (`done_next`). The statements about
steps and runs follow from that alone. -/
namespace Sys2Proof.Proofs.StepAndQueue

open Sys2Proof Sys2Proof.Machine

theorem step_of_cons {s : State} {c : Instr} {rest : List Instr} (h : s.pending = c :: rest) :
    step s = exec c { s with pending := rest } := by
  simp only [step, h]

theorem step_of_nil {s : State} (h : s.pending = []) : step s = .next (idle s) := by
  simp only [step, h]

/-- Settles O1. -/
theorem stepRunsTheFrontCommand : Obligations.StepRunsTheFrontCommand := fun _ _ _ => step_of_cons

theorem idle_of_clocked {s : State} (h : clocked s = true) : idle s = { s with now := s.now + 1 } := by
  rw [idle, timed_on s _ h, reachTime, Nat.max_eq_right (Nat.le_succ s.now)]

/-- Settles O2. -/
theorem stepIdlesOnAnEmptyQueue : Obligations.StepIdlesOnAnEmptyQueue :=
  ⟨fun _ hempty hclock => (step_of_nil hempty).trans (congrArg _ (idle_of_clocked hclock)),
   fun s hempty hclock => (step_of_nil hempty).trans (congrArg _ (timed_off s _ hclock))⟩

theorem exec_keeps_queue (c : Instr) (s : State) : ∃ t, exec c s = .next t ∧ t.pending = s.pending := by
  cases c <;> exact done_next s _

/-- Settles O3. -/
theorem everyCommandAnswersAndKeepsTheQueue : Obligations.EveryCommandAnswersAndKeepsTheQueue := exec_keeps_queue

/-- A step takes the command at the front away and leaves the rest of the queue. -/
theorem step_takes_front {s : State} {c : Instr} {rest : List Instr} (h : s.pending = c :: rest) :
    ∃ t, step s = .next t ∧ exec c { s with pending := rest } = .next t ∧ t.pending = rest := by
  obtain ⟨t, hexec, hqueue⟩ := exec_keeps_queue c { s with pending := rest }
  exact ⟨t, (step_of_cons h).trans hexec, hexec, hqueue⟩

theorem run_eq_runQueue (q : List Instr) :
    ∀ s : State, s.pending = q → Sys2Proof.core.run q.length s = .next (runQueue q s) ∧ (runQueue q s).pending = [] := by
  induction q with
  | nil => exact fun s hempty => ⟨rfl, hempty⟩
  | cons c rest ih =>
    intro s hs
    obtain ⟨t, hstep, hexec, hqueue⟩ := step_takes_front hs
    have hrun : Sys2Proof.core.run (c :: rest).length s = Sys2Proof.core.run rest.length t := by
      have : Sys2Proof.core.step s = .next t := hstep
      simp only [List.length_cons, Host.Core.run, this]
    have heffect : runQueue (c :: rest) s = runQueue rest t := by simp only [runQueue, hexec]
    rw [hrun, heffect]
    exact ih t hqueue

/-- Settles O4, by induction on the queue. -/
theorem queueRunsFirstInFirstOut : Obligations.QueueRunsFirstInFirstOut := fun s => run_eq_runQueue s.pending s rfl

theorem idle_pending (s : State) : (idle s).pending = s.pending := by
  unfold idle timed
  split <;> rfl

/-- Settles O5: a step leaves the queue without its front, or an empty queue as it is. -/
theorem stepKeepsTheQueueWellFormed : Obligations.StepKeepsTheQueueWellFormed := by
  intro s t hwf hstep
  cases hq : s.pending with
  | nil =>
    obtain rfl : idle s = t := by simpa [step_of_nil hq] using hstep
    exact fun c hc => hwf c (idle_pending s ▸ hc)
  | cons front rest =>
    obtain ⟨u, hu, -, hqueue⟩ := step_takes_front hq
    obtain rfl : u = t := by simpa [hu] using hstep
    exact fun c hc => hwf c (hq ▸ List.mem_cons_of_mem front (hqueue ▸ hc))

/-- Settles O7: a quiet state settles as it is, and `EVENT_N` is driven last. -/
theorem nothingFollowsWhereNothingIsDue : Obligations.NothingFollowsWhereNothingIsDue := by
  refine fun s t => ⟨fun hquiet => ?_, rfl⟩
  have hsettled : settle t = t := if_pos hquiet
  rw [after, hsettled]
  rfl

/-- Settles O9: no object is stored after reset, so each reads its default. -/
theorem resetLeavesTheTableValues : Obligations.ResetLeavesTheTableValues :=
  ⟨fun _ _ => rfl, rfl, rfl, rfl, rfl, rfl, rfl, rfl, rfl, rfl⟩

theorem receive_while_stopped {s : State} (p : Nat) (m : Msg)
    (h : s.power.losing.isSome = true ∨ s.power.halted = true) : receive s p m = s := if_pos h

/-- Each row of a message has the effect of the message's arrival on its port. -/
theorem exec_carried {c : Instr} {p : Nat} {m : Msg} (h : c.carried = some (p, m)) (s : State) :
    exec c s = done s (receive s p m) := by
  cases c <;> cases h <;> rfl

/-- Settles O57: a message acts by its arrival alone, and a stopping package takes none. -/
theorem noMessageActsWhileThePackageStops : Obligations.NoMessageActsWhileThePackageStops := by
  intro s c p m hcarried hstop
  rw [exec_carried hcarried, receive_while_stopped p m hstop, done_eq]

end Sys2Proof.Proofs.StepAndQueue

/-! # What the shared operations leave unchanged, and what the RAMs read

An operation that changes the dictionary alone is a chain of updates of the dictionary (`DictOnly`), and the frames of posting,
counting and charging follow along the chain. The RAMs read as the laws of `Memory` say. -/
namespace Sys2Proof.Proofs.SharedOperations

open Sys2Proof Sys2Proof.Machine
open Sys2Proof.Proofs.PortBreakout (getObj_setObj_same getObj_setObj_other)

/-! ## Frames -/

/-- From `s` to `t` at most the dictionary changes. -/
def DictOnly (s t : State) : Prop := t = { s with dict := t.dict }

theorem DictOnly.refl (s : State) : DictOnly s s := rfl

theorem DictOnly.trans {s t u : State} (hst : DictOnly s t) (htu : DictOnly t u) : DictOnly s u := by
  unfold DictOnly at *
  rw [htu, hst]

theorem dictOnly_onDict (s : State) (f : Dict → Dict) : DictOnly s (s.onDict f) := rfl

theorem dictOnly_setObj (s : State) (o i v : Nat) : DictOnly s (setObj s o i v) := rfl

theorem dictOnly_pushSteward (s : State) (code payload : Nat) (comp : Option Nat) :
    DictOnly s (pushSteward s code comp payload) := by
  unfold pushSteward
  split
  · exact dictOnly_onDict s _
  · exact (dictOnly_setObj s _ _ _).trans (dictOnly_onDict _ _)

theorem dictOnly_pushCan (s : State) (code payload : Nat) (comp : Option Nat) : DictOnly s (pushCan s code comp payload) := by
  unfold pushCan
  split
  · exact dictOnly_onDict s _
  · exact (dictOnly_setObj s _ _ _).trans (dictOnly_onDict _ _)

theorem dictOnly_markPosted (s : State) (code key : Nat) : DictOnly s (markPosted s code key) := rfl

theorem dictOnly_overflowNotice (s : State) (hadLost : Bool) (queue : Nat) : DictOnly s (overflowNotice s hadLost queue) := by
  unfold overflowNotice
  split
  · split
    · split
      · exact (dictOnly_markPosted s _ _).trans (dictOnly_pushSteward _ _ _ _)
      · exact .refl s
    · split
      · exact (dictOnly_markPosted s _ _).trans (dictOnly_pushCan _ _ _ _)
      · exact .refl s
  · exact .refl s

theorem dictOnly_post (s : State) (code payload : Nat) (comp : Option Nat) : DictOnly s (post s code comp payload) := by
  have hsteward (lost : Bool) : DictOnly s (overflowNotice (pushSteward s code comp payload) lost 0) :=
    (dictOnly_pushSteward s _ _ _).trans (dictOnly_overflowNotice _ _ _)
  unfold post
  dsimp only
  split
  · exact (hsteward _).trans ((dictOnly_pushCan _ _ _ _).trans (dictOnly_overflowNotice _ _ _))
  · exact hsteward _

theorem dictOnly_addErr (s : State) (o i n : Nat) : DictOnly s (addErr s o i n) := by
  unfold addErr
  dsimp only
  split
  · exact (dictOnly_setObj s _ _ _).trans (dictOnly_post _ _ _ _)
  · exact dictOnly_setObj s _ _ _

theorem dictOnly_addStat (s : State) (o i n : Nat) : DictOnly s (addStat s o i n) := dictOnly_setObj s _ _ _

theorem dictOnly_countAccess (s : State) (e : Nat) : DictOnly s (countAccess s e) := by
  unfold countAccess
  split
  · exact dictOnly_addStat s _ _ _
  · exact dictOnly_addErr s _ _ _

theorem dictOnly_reply (s : State) (w : Requester) (o v : Nat) : DictOnly s (reply s w o v) :=
  (dictOnly_countAccess s v).trans (dictOnly_onDict _ _)

/-- From `s` to `t` at most the dictionary and the traffic manager change. -/
def DictTmOnly (s t : State) : Prop := t = { s with dict := t.dict, tm := t.tm }

theorem DictTmOnly.trans {s t u : State} (hst : DictTmOnly s t) (htu : DictTmOnly t u) : DictTmOnly s u := by
  unfold DictTmOnly at *
  rw [htu, hst]

theorem DictOnly.dictTmOnly {s t : State} (h : DictOnly s t) : DictTmOnly s t := by
  unfold DictOnly at h
  unfold DictTmOnly
  rw [h]

theorem dictTmOnly_onTm (s : State) (f : Tm → Tm) : DictTmOnly s (s.onTm f) := rfl

theorem DictTmOnly.ite {s t u : State} {c : Prop} [Decidable c] (ht : DictTmOnly s t) (hu : DictTmOnly s u) :
    DictTmOnly s (if c then t else u) := by
  split
  · exact ht
  · exact hu

/-- A charge notes the use; a use that exhausts the budget may count it and post 0x0320. -/
theorem dictTmOnly_charge (s : State) (r q a n : Nat) : DictTmOnly s (charge s r q a n) := by
  have hcounted (f : Tm → Tm) : DictTmOnly s (if r = 0 then addStat (s.onTm f) 0x236008 (q + a * 2 ^ 8) 1 else s.onTm f) :=
    .ite ((dictTmOnly_onTm s f).trans (dictOnly_addStat _ _ _ _).dictTmOnly) (dictTmOnly_onTm s f)
  have hposted {t : State} (ht : DictTmOnly s t) (f : Tm → Tm) (p : Nat) : DictTmOnly s (post (t.onTm f) 0x0320 none p) :=
    ht.trans ((dictTmOnly_onTm t f).trans (dictOnly_post _ _ _ _).dictTmOnly)
  exact .ite (.ite (hposted (hcounted _) _ _) (hcounted _)) (dictTmOnly_onTm s _)

/-- Settles O58. -/
theorem sharedOperationsChangeOnlyTheirPart : Obligations.SharedOperationsChangeOnlyTheirPart :=
  ⟨rfl,
    fun s o i v hwf hi => ⟨getObj_setObj_same hwf o i v, SMap.wf_setD _ _ _ _ hwf, dictOnly_setObj s o i v,
      fun _ _ hi' hne => getObj_setObj_other s v hi' hi hne⟩,
    dictOnly_post,
    fun s o i n => ⟨dictOnly_addErr s o i n, dictOnly_addStat s o i n⟩,
    fun s w o v => ⟨dictOnly_reply s w o v, dictOnly_onDict s _, dictOnly_onDict s _⟩,
    dictTmOnly_charge,
    fun _ _ _ => rfl, fun _ _ _ _ => ⟨rfl, rfl⟩, fun _ _ _ _ => rfl, fun _ _ _ => rfl, fun _ _ _ => rfl, fun _ _ _ => rfl,
    fun _ _ _ => rfl, fun _ _ _ => rfl⟩

/-! ## The addressed RAMs -/

theorem toNat_lt_bytes {n : Nat} (d : BitVec (8 * n)) : d.toNat < 256 ^ n := by
  have hwidth := d.isLt
  rwa [pow_mul] at hwidth

theorem lineNat_storeLine (s : State) (line : Nat) (d : LineBits) : lineNat (storeLine s line d) line = d.toNat := by
  have hread : lineNat (storeLine s line d) line = d.toNat % 256 ^ 128 := Memory.readNat_writeNat _ _ _ _
  rw [hread, Nat.mod_eq_of_lt (toNat_lt_bytes (n := 128) d)]

theorem readByte_storeLine_outside (s : State) {line a : Nat} (d : LineBits) (h : a < line * 128 ∨ line * 128 + 128 ≤ a) :
    Memory.readByte (storeLine s line d).tier.mem a = Memory.readByte s.tier.mem a :=
  (Memory.readByte_writeNat _ _ _ _ _).trans (if_neg (by omega))

/-- Settles O60 by the laws of `Memory`. -/
theorem ramsReadAsWritten : Obligations.RamsReadAsWritten :=
  ⟨fun s line d => ⟨lineNat_storeLine s line d, fun _ => readByte_storeLine_outside s d⟩,
    fun _ _ _ => Memory.readByte_clear _ _ _ _,
    fun _ _ _ _ _ => Memory.readByte_writeNat _ _ _ _ _,
    ⟨rfl, rfl⟩,
    fun _ ⟨htier, hlocal⟩ =>
      ⟨fun _ _ => ⟨Memory.wf_writeNat _ _ _ _ htier, hlocal⟩, fun _ => ⟨Memory.wf_clear _ _ _ htier, hlocal⟩,
       fun _ _ _ => ⟨htier, Memory.wf_writeNat _ _ _ _ hlocal⟩,
       fun _ => ⟨htier, Memory.wf_clear _ _ _ (Memory.wf_clear _ _ _ hlocal)⟩⟩⟩

end Sys2Proof.Proofs.SharedOperations

/-! # Messages and records read back from their encodings

Every encoding is a packed list of fields. A field of the list reads back at its place (`bits_pack_skip`, `bits_pack_head`), cut
to its width, which its bound makes the field itself (`Nat.mod_eq_of_lt`). -/
namespace Sys2Proof.Proofs.Encodings

open Sys2Proof Sys2Proof.Machine

/-- A flag packed as one bit reads back. -/
theorem decide_b2n_mod (b : Bool) : decide (b2n b % 2 ^ 1 = 1) = b := by
  cases b <;> rfl

/-! ## Messages and slot 0 -/

theorem header_toNat (m : Msg) : m.header.toNat = pack [(8, m.opcode), (3, m.tc), (1, b2n m.poison), (1, b2n m.retry), (3, m.ext),
    (16, m.peer), (7, m.composition), (1, 0), (16, m.tag), (40, m.line), (160, m.body)] := by
  unfold Msg.header
  rw [toNat_pack _ (by simp)]

theorem msg_ofSlots_header {m : Msg} (hwf : m.wf = true) : Msg.ofSlots m.header m.data = m := by
  simp only [Msg.wf, Bool.and_eq_true, decide_eq_true_eq] at hwf
  obtain ⟨⟨⟨⟨⟨⟨⟨⟨hop, htc⟩, hext⟩, hpeer⟩, hcomp⟩, htag⟩, hline⟩, hbody⟩, -⟩ := hwf
  simp (disch := omega) only [Msg.ofSlots, header_toNat, bit_eq_bits, bits_pack_skip, Nat.reduceSub,
    bits_pack_head, decide_b2n_mod, Nat.mod_eq_of_lt]

theorem slots_length {m : Msg} (hwf : m.wf = true) : m.slots.length = m.slotCount := by
  simp only [Msg.wf, Bool.and_eq_true, decide_eq_true_eq] at hwf
  simp only [Msg.slots, Msg.slotCount, List.length_cons, hwf.2]

theorem slot0_ofSlot_toSlot {z : Slot0} (hseq : z.seq < 2 ^ 12) (hload : z.load < 2 ^ 4) (hack : z.ackSeq < 2 ^ 12)
    (hphase : z.keyPhase < 2) (hcont : z.cont < 2 ^ 3) (hattempt : z.attempt < 2 ^ 4) (hcredits : z.credits < 2 ^ 48)
    (htag : z.tag < 2 ^ 128) (hcrc : z.crc < 2 ^ 32) : Slot0.ofSlot z.toSlot = z := by
  simp (disch := omega) only [Slot0.ofSlot, toSlot_toNat, bit_eq_bits, bits_pack_skip, Nat.reduceSub, bits_pack_head,
    decide_b2n_mod, Nat.mod_eq_of_lt]

/-! ## Extents and handoff records -/

theorem extent_ofNat_toNat {e : Extent} (hbase : e.base < 2 ^ 31) (hlength : e.length < 2 ^ 31) (hstate : e.state < 8)
    (hcomp : e.comp < 128) (howner : e.owner < 1024) (hrights : e.rights < 16) (hbacking : e.backing < 4)
    (hdesc : e.tileDesc < 256) (hset : e.stripeSet < 256) (hdrain : e.drainUs < 2 ^ 16) (hgen : e.generation < 2 ^ 32) :
    Extent.ofNat e.toNat = { e with drainAt := none, marked := 0, slotMask := 0 } := by
  simp (disch := omega) only [Extent.ofNat, Extent.toNat, bit_eq_bits, bits_pack_skip, Nat.reduceSub, bits_pack_head,
    decide_b2n_mod, Nat.mod_eq_of_lt]

theorem rec_ofNat_toNat {r : Rec} (hstate : r.state < 16) (hcomp : r.comp < 128) (howner : r.owner < 1024)
    (hgen : r.generation < 2 ^ 32) (hproducer : r.producer < 1024) (hconsumer : r.consumer < 1024) (htarget : r.target < 4096)
    (hfunction : r.lastFunction < 16) (hhost : r.lastHost < 1024) (hfirst : r.firstTile < 2 ^ 31) (htiles : r.tiles < 2 ^ 32)
    (htag : r.requestTag < 2 ^ 64) (hfill : r.fillLines < 2 ^ 32) (hopened : r.openedAt < 2 ^ 32) (hat : r.stateAt < 2 ^ 32)
    (hinfo : r.producerInfo < 2 ^ 128) : Rec.ofNat r.toNat = { r with offerEnd := none } := by
  simp (disch := omega) only [Rec.ofNat, Rec.toNat, bit_eq_bits, bits_pack_skip, Nat.reduceSub, bits_pack_head,
    decide_b2n_mod, Nat.mod_eq_of_lt]

/-! ## Snoop-filter and ledger entries -/

/-- A `WIDE` entry lists no pointers, so the counted ones are always the listed ones. -/
theorem pointerCount {e : FEntry} (hwide : e.mode = 2 → e.ptrs = []) :
    (if e.mode = 2 then 0 else e.ptrs.length) = e.ptrs.length := by
  split
  next h => rw [hwide h, List.length_nil]
  next => rfl

/-- The fields of a filter entry's bytes, with as many pointers counted as the entry lists. -/
theorem filterEntry_toNat {e : FEntry} (line : Nat) (hwide : e.mode = 2 → e.ptrs = []) :
    e.toNat line = pack [(1, 1), (2, e.mode), (3, e.ptrs.length), (2, 0), (7, e.comp), (1, 0), (40, line), (10, e.ptrs.getD 0 0),
      (10, e.ptrs.getD 1 0), (10, e.ptrs.getD 2 0), (10, e.ptrs.getD 3 0), (32, e.seq)] := by
  rw [FEntry.toNat, pointerCount hwide]

theorem getD_lt_of_forall {l : List Nat} {n : Nat} (hn : 0 < n) (h : ∀ x ∈ l, x < n) (i : Nat) : l.getD i 0 < n := by
  rw [List.getD_eq_getElem?_getD]
  cases hi : l[i]? with
  | none => exact hn
  | some x => exact h x (List.mem_of_getElem? hi)

/-- The four places of the pointers read back. -/
theorem filterEntry_pointer {e : FEntry} (line : Nat) (hwide : e.mode = 2 → e.ptrs = []) (hptrs : ∀ h ∈ e.ptrs, h < 1024)
    {i : Nat} (hi : i < 4) : bits (e.toNat line) (56 + 10 * i) 10 = e.ptrs.getD i 0 := by
  have hlt := getD_lt_of_forall (by decide) hptrs i
  interval_cases i <;>
    simp (disch := omega) only [filterEntry_toNat line hwide, bits_pack_skip, Nat.reduceSub, Nat.reduceMul, Nat.reduceAdd,
      bits_pack_head, Nat.mod_eq_of_lt]

theorem range_map_getD (l : List Nat) : (List.range l.length).map (fun i => l.getD i 0) = l :=
  List.ext_getElem (by simp) fun i _ hi => by simp [hi]

theorem filterEntry_ofNat_toNat {e : FEntry} (line : Nat) (hmode : e.mode < 4) (hwide : e.mode = 2 → e.ptrs = [])
    (hlen : e.ptrs.length ≤ 4) (hptrs : ∀ h ∈ e.ptrs, h < 1024) (hcomp : e.comp < 128) (hseq : e.seq < 2 ^ 32) :
    FEntry.ofNat (e.toNat line) = some e := by
  have hpointers : (List.range e.ptrs.length).map (fun i => bits (e.toNat line) (56 + 10 * i) 10) = e.ptrs := by
    calc _ = (List.range e.ptrs.length).map (fun i => e.ptrs.getD i 0) :=
          List.map_congr_left fun i hi => filterEntry_pointer line hwide hptrs (by have := List.mem_range.mp hi; omega)
      _ = e.ptrs := range_map_getD e.ptrs
  have hvalid : bit (e.toNat line) 0 = true := by
    simp only [filterEntry_toNat line hwide, bit_eq_bits, bits_pack_head, Nat.reducePow, Nat.reduceMod, decide_true]
  have hfields : bits (e.toNat line) 1 2 = e.mode ∧ bits (e.toNat line) 3 3 = e.ptrs.length ∧
      bits (e.toNat line) 8 7 = e.comp ∧ bits (e.toNat line) 96 32 = e.seq := by
    simp (disch := omega) only [filterEntry_toNat line hwide, bits_pack_skip, Nat.reduceSub, bits_pack_head, Nat.mod_eq_of_lt,
      and_self]
  obtain ⟨hm, hn, hc, hs⟩ := hfields
  simp only [FEntry.ofNat, hvalid, hm, hn, hc, hs, pointerCount hwide, hpointers, if_true]

theorem ledgerEntry_ofNat_toNat {e : LEntry} (host id t : Nat) (hstate : e.state < 4) (hcomp : e.comp < 128)
    (hline : e.line < 2 ^ 40) (hword : e.word < 16) (haop : e.aop < 16) (hstatus : e.status < 16) (hresult : e.result < 2 ^ 64) :
    LEntry.ofNat (e.toNat host id) t = some { e with stamp := t } := by
  simp (disch := omega) only [LEntry.ofNat, LEntry.toNat, bit_eq_bits, bits_pack_skip, Nat.reduceSub, bits_pack_head,
    decide_b2n_mod, Nat.mod_eq_of_lt]
  rfl

/-- Settles O59. -/
theorem messagesAndRecordsReadBack : Obligations.MessagesAndRecordsReadBack :=
  ⟨fun _ hwf => ⟨msg_ofSlots_header hwf, slots_length hwf⟩, fun _ => slot0_ofSlot_toSlot, fun _ => extent_ofNat_toNat,
    fun _ => rec_ofNat_toNat, fun _ line => filterEntry_ofNat_toNat line, fun _ host id t => ledgerEntry_ofNat_toNat host id t⟩

end Sys2Proof.Proofs.Encodings

/-! # The outcome of a command whose event happens

A row's meaning is `done s` of its effect, often under a condition on the device: local time counts, the block is in service, or
the part has power. Where the condition holds, the command leaves what the effect's own function leaves. -/
namespace Sys2Proof.Proofs.Outcomes

open Sys2Proof Sys2Proof.Machine

theorem next_of_effect {s t u : State} (h : t = u) : done s t = .next (after s u) := h ▸ done_eq s t

theorem next_of_timed {s t : State} {f : State → State} (hclock : clocked s = true) (hf : f s = t) :
    done s (timed s f) = .next (after s t) :=
  next_of_effect ((timed_on s f hclock).trans hf)

theorem next_of_running {s t : State} {f : State → State} (hservice : inService s = true) (hf : f s = t) :
    done s (running s f) = .next (after s t) :=
  next_of_effect ((running_on s f hservice).trans hf)

theorem next_of_powered {s t : State} {f : State → State} (hpower : s.power.state ≠ pwOff) (hf : f s = t) :
    done s (powered s f) = .next (after s t) :=
  next_of_effect ((powered_on s f hpower).trans hf)

/-- A guard on a negated condition fails where the condition holds. -/
theorem guard_fails {b : Bool} (h : b = true) : ¬ (!b) = true := by
  simp only [h, Bool.not_true, Bool.false_eq_true, not_false_eq_true]

/-- A guard on a negated condition holds where the condition fails. -/
theorem guard_holds {b : Bool} (h : b = false) : (!b) = true := by
  simp only [h, Bool.not_false]

end Sys2Proof.Proofs.Outcomes

/-! # The home's own events (R21, R37, R38, R43, R47, R52, R69-R71, R75, R78, R79) -/
namespace Sys2Proof.Proofs.HomeEvents

open Sys2Proof Sys2Proof.Machine Sys2Proof.Proofs.Outcomes

/-! ## Extents -/

theorem drainComplete_drained {s : State} {x : Nat} (hstate : (extOf s x).state = 2) (hpending : drainPending s x = false) :
    drainComplete s x = extEvent (changeExt s x (fun e => { e with state := 3, drainAt := none })) x 0x0A12 [(4, 0)] true := by
  simp only [drainComplete, hstate, hpending, Bool.not_false, and_self, if_true]

theorem drainTimerExpiry_draining {s : State} {x d : Nat} (hstate : (extOf s x).state = 2) (hat : (extOf s x).drainAt = some d) :
    drainTimerExpiry s x = extEvent
      (changeExt (addErr (endDrain (reachTime s d) x).1 0x211102 0 (endDrain (reachTime s d) x).2) x
        (fun e => { e with state := 3, drainAt := none })) x 0x0A12 [(4, (endDrain (reachTime s d) x).2)] true := by
  simp only [drainTimerExpiry, hstate, hat]

/-- Settles O10. -/
theorem extentEventsRun : Obligations.ExtentEventsRun := by
  refine fun s x hclock => ⟨fun hstate hpending => ?_, fun d hstate hat => ?_, fun hstate hmarked hbudget => ?_⟩
  · exact next_of_timed hclock (drainComplete_drained hstate hpending)
  · exact next_of_timed hclock (drainTimerExpiry_draining hstate hat)
  · exact next_of_timed hclock ((if_pos ⟨hstate, hmarked⟩).trans (if_pos hbudget))

/-! ## Requests on their way -/

theorem requestTimeout_outstanding {s : State} {peer tag : Nat} {r : HostReq} (hr : hostReqOf s (peerHost peer) tag = some r) :
    requestTimeout s peer tag =
      (let s1 := forgetSent (dropHeld (reachTime s r.deadline) (peerHost peer) tag) r.host r.tag
       let a := mkResp r.asked stTimeout (if r.pathLost then dPathDown else dRequestTimeout) (ownAgent s1 agentPorts) 0 1
       closeHostReq (emitToHost s1 (peerHost peer) (replyPort s1 (peerHost peer) r.port) a) r true r.pathLost) := by
  simp only [requestTimeout, hr]

/-- Settles O11. -/
theorem requestTimersRun : Obligations.RequestTimersRun := by
  refine fun s hclock => ⟨fun line => ⟨fun g hg => ?_, fun hnone => ?_⟩, fun n => ⟨fun k i e hplace he => ?_,
    fun k i c x hnone hplace hc hx => ?_, fun hnone hheld => ?_⟩, fun peer tag hhost => ⟨fun r hr => ?_, fun hnone => ?_⟩,
    fun peer tag hagent => ⟨fun j q seq more l hsought hqueue hl => ⟨fun hstate => ?_, fun hstate => ?_⟩, fun hnone => ?_⟩⟩
  · exact next_of_timed hclock (by simp only [mergeHoldExpiry, hg]; rfl)
  · exact next_of_timed hclock (by simp only [mergeHoldExpiry, hnone])
  · exact next_of_timed hclock (by simp only [residencyLimit, hplace, he]; rfl)
  · exact next_of_timed hclock (by simp only [residencyLimit, hnone, residencyHeld, hplace, hc, Option.bind_some, hx]; rfl)
  · exact next_of_timed hclock (by simp only [residencyLimit, hnone, residencyHeld, hheld])
  · exact next_of_timed hclock (by simp only [hhost, Bool.false_eq_true, if_false, requestTimeout_outstanding hr])
  · exact next_of_timed hclock (by simp only [hhost, Bool.false_eq_true, if_false, requestTimeout, hnone])
  · exact next_of_timed hclock (by simp only [hagent, if_true, coreTimeout, hsought, hqueue, hl, if_neg hstate]; rfl)
  · exact next_of_timed hclock (by simp only [hagent, if_true, coreTimeout, hsought, hqueue, hl, if_pos hstate])
  · exact next_of_timed hclock (by simp only [hagent, if_true, coreTimeout, hnone])

/-! ## Path changes -/

/-- Settles O12. -/
theorem pathChangesRun : Obligations.PathChangesRun := by
  refine fun s pair hclock => ⟨fun new cause old hnone hpath hold hnew => ⟨fun hclasses => ?_, fun hclasses => ?_⟩,
    fun c hc hmilestones => ?_⟩
  · have hids : ((List.range (classesTo s pair).length).map (fun i => (s.tm.milestoneId + i) % 2 ^ 32)).isEmpty = false := by
      simpa [List.isEmpty_eq_false_iff] using hclasses
    exact next_of_timed hclock (by simp only [pathChangeStart, hnone, hpath, if_pos (And.intro hold hnew), hids]; rfl)
  · exact next_of_timed hclock (by
      simp only [pathChangeStart, hnone, hpath, if_pos (And.intro hold hnew), hclasses]
      rfl)
  · have hwaits : c.milestones.isEmpty = false := List.isEmpty_eq_false_iff.mpr hmilestones
    exact next_of_timed hclock (by simp only [milestoneTimeout, hc, hwaits]; rfl)

/-! ## The home -/

/-- Settles O13. -/
theorem homeTimersRun : Obligations.HomeTimersRun := by
  refine fun s hclock => ⟨fun host id e he hstate => ?_, fun line h d hdwell hnone => ?_,
    fun line h d t rs hdwell ht hstate hwork => ?_, fun line t d h more ht hstate hdeadline htargets => ?_,
    fun host d hdown hauto hlost hservice => ?_, fun line t d rs ht hstate hdeadline hwork hanswers => ?_, ?_⟩
  · exact next_of_timed hclock (by simp only [ledgerExpiry, he, if_neg hstate])
  · exact next_of_timed hclock (by simp only [dwellExpiry, hdwell, State.onHome_home, reachTime, hnone])
  · exact next_of_timed hclock (by simp only [dwellExpiry, hdwell, State.onHome_home, reachTime, ht, hstate, hwork, if_true])
  · exact next_of_timed hclock (by simp only [stashOfferTimeout, ht, hstate, hdeadline, htargets])
  · exact next_of_effect (by simp only [hostHoldExpiry, hdown, hauto, hlost, hservice, Bool.not_false, and_self, if_true])
  · exact next_of_timed hclock (by simp only [homeTimeout, ht, hstate, hdeadline, hwork, hanswers]; rfl)
  · exact next_of_timed hclock rfl

end Sys2Proof.Proofs.HomeEvents

/-! # The tier engine's events (R21, R69, R93, R98, R100-R106, R109, R111, R117, R126, R128, R133, R135, R232) -/
namespace Sys2Proof.Proofs.TierEvents

open Sys2Proof Sys2Proof.Machine Sys2Proof.Proofs.Outcomes

/-! ## The tier access of a transaction -/

/-- The state in which an access that costs its composition a stack slot is charged (R232). -/
def accessCharged (s : State) (line : Nat) (t : Txn) : State :=
  let a := accessLine s line t.work
  if slotDue s a t = true then hostCharge s 0 (stackOf s a / 4) (lineComp s line) 1 else s

theorem accessCharged_zero (s : State) (line : Nat) (t : Txn) : (accessCharged s line t).tier.zero = s.tier.zero := by
  unfold accessCharged
  dsimp only
  split <;> rfl

/-- An access that reads no damaged line. -/
def ReadsClean (s : State) (a errs : Nat) (t : Txn) : Prop :=
  readsStack t.work = false ∨ t.returned.isSome = true ∨ t.tierDone = true ∨ s.tier.zero.contains (tileOf a) = true ∨ errs = 0

/-- An access that reads no damaged line delivers the line and leaves the state. -/
theorem stackRead_clean {s : State} {a errs : Nat} {t : Txn} (b : Bool) (h : ReadsClean s a errs t) :
    (if (readsStack t.work && t.returned.isNone && !t.tierDone && !(s.tier.zero.contains (tileOf a)) && b) = true
      then stackRead s a errs else (s, true, none)) = (s, true, none) := by
  rcases h with h | h | h | h | rfl
  · simp only [h, Bool.false_and, Bool.false_eq_true, if_false]
  · rw [Option.isNone_eq_false_iff.mpr h]
    simp only [Bool.and_false, Bool.false_and, Bool.false_eq_true, if_false]
  · simp only [h, Bool.not_true, Bool.and_false, Bool.false_and, Bool.false_eq_true, if_false]
  · simp only [h, Bool.not_true, Bool.and_false, Bool.false_and, Bool.false_eq_true, if_false]
  · exact ite_self _

theorem tierAccessDone_made {s : State} {line errs : Nat} {t : Txn} (ht : s.home.txns.get? line = some t)
    (hready : accessReady (demandFor s line t) (accessLine (demandFor s line t) line t.work) line t = true)
    (hrecover : (demandFor s line t).tier.recover.has (accessLine (demandFor s line t) line t.work) = false)
    (hslot : slotDue (demandFor s line t) (accessLine (demandFor s line t) line t.work) t = false ∨
      slotFree (demandFor s line t) line (accessLine (demandFor s line t) line t.work) = true)
    (hread : ReadsClean (demandFor s line t) (accessLine (demandFor s line t) line t.work) errs t) (hstate : t.state = .serving ∨ t.state = .snooping) :
    tierAccessDone s line errs =
      let s1 := accessCharged (demandFor s line t) line t
      let t1 := { t with tierDone := true }
      if t.state = .snooping then putTxn s1 line t1
      else if t.returned.isNone && limitHolds s1 line t.work then noteLimit s1 line t1
      else if endHeld s1 line t then putTxn s1 line t1
      else finish s1 line t1 := by
  have hstay : ¬ (t.state ≠ .serving ∧ t.state ≠ .snooping) := fun ⟨hs, hn⟩ => hstate.elim hs hn
  have hnoWait : (slotDue (demandFor s line t) (accessLine (demandFor s line t) line t.work) t &&
      !slotFree (demandFor s line t) line (accessLine (demandFor s line t) line t.work)) = false := by
    rcases hslot with h | h <;> simp only [h, Bool.false_and, Bool.not_true, Bool.and_false]
  generalize hs0 : demandFor s line t = s0 at *
  have hcharged : (if slotDue s0 (accessLine s0 line t.work) t = true then
      hostCharge s0 0 (stackOf s0 (accessLine s0 line t.work) / 4) (lineComp s0 line) 1 else s0) = accessCharged s0 line t := rfl
  have hclean : ReadsClean (accessCharged s0 line t) (accessLine s0 line t.work) errs t := by
    unfold ReadsClean
    rwa [accessCharged_zero]
  simp only [tierAccessDone, ht, hs0, hready, hrecover, hnoWait, hcharged, stackRead_clean _ hclean, decide_eq_false hstay,
    Bool.not_true, Bool.and_false, Bool.or_false, Bool.false_eq_true, if_false, or_false, if_true, Option.isSome_none]

/-- Settles O14: an access that is made is `tierAccessDone_made`; one that is not made waits, or asks for its line. -/
theorem tierAccessRuns : Obligations.TierAccessRuns := by
  refine fun s line errs t hclock ht => ⟨fun hready hrecover hslot hread => ⟨fun hstate hlimit hend => ?_, fun hstate => ?_,
    fun hstate hreturned hlimit => ?_⟩, fun hready hrecover hstate hdue hfree => ?_, fun hready => ?_⟩
  · refine next_of_timed hclock ((tierAccessDone_made ht hready hrecover hslot hread (.inl hstate)).trans ?_)
    have hserving : t.state ≠ .snooping := by simp only [hstate, ne_eq, reduceCtorEq, not_false_eq_true]
    have hopen : ¬ (t.returned.isNone && limitHolds (accessCharged (demandFor s line t) line t) line t.work) = true := by
      simp only [accessCharged, hlimit, Bool.and_false, Bool.false_eq_true, not_false_eq_true]
    exact (if_neg hserving).trans ((if_neg hopen).trans (if_neg (Bool.eq_false_iff.mp hend)))
  · exact next_of_timed hclock ((tierAccessDone_made ht hready hrecover hslot hread (.inr hstate)).trans (if_pos hstate))
  · refine next_of_timed hclock ((tierAccessDone_made ht hready hrecover hslot hread (.inl hstate)).trans ?_)
    have hserving : t.state ≠ .snooping := by simp only [hstate, ne_eq, reduceCtorEq, not_false_eq_true]
    have hheld : (t.returned.isNone && limitHolds (accessCharged (demandFor s line t) line t) line t.work) = true := by
      simp only [accessCharged, hlimit, hreturned, Option.isNone_none, Bool.and_self]
    exact (if_neg hserving).trans (if_pos hheld)
  · have hstay : ¬ (t.state ≠ .serving ∧ t.state ≠ .snooping) := fun ⟨hs, hn⟩ => hstate.elim hs hn
    exact next_of_timed hclock (by
      simp only [tierAccessDone, ht, hready, hrecover, decide_eq_false hstay, hdue, hfree, Bool.not_true, Bool.not_false,
        Bool.and_false, Bool.and_true, Bool.or_false, Bool.false_eq_true, if_false, if_true])
  · exact next_of_timed hclock (by simp only [tierAccessDone, ht, hready, Bool.not_false, Bool.true_or, if_true])

/-! ## Trays -/

/-- The stack slots that a reissued read of a line is charged. -/
abbrev reissueSlots (s : State) (l : Nat) : Nat :=
  match tileAt s (l / 512) with | some t => if t.prefetch = 2 then 0 else 1 | none => 1

/-- With no slot owed, the one line that waits for its read is read under the migration budget. -/
theorem trayReissue_one {s : State} {l : Nat} (howed : s.tier.owed = []) (hreissue : s.tier.reissue = [l])
    (hstack : hasBudget s 0 (stackOf s l / 4) 1 (reissueSlots s l) = true) (hslots : hasBudget s 1 (stackOf s l / 4) 1 6 = true) :
    trayReissue s = fillLine ((chargeMigrate s (stackOf s l / 4) (reissueSlots s l)).onTier
      (fun t => { t with reissue := t.reissue.filter (fun x => decide (x ≠ l)) })) l := by
  have hnone : owedSlots s = s := by rw [owedSlots, howed, List.foldl_nil]
  rw [trayReissue, hreissue, hnone, List.foldl_cons, List.foldl_nil]
  exact if_pos (Bool.and_eq_true_iff.mpr ⟨hstack, hslots⟩)

/-- Settles O15. -/
theorem trayEventsRun : Obligations.TrayEventsRun := by
  refine fun s hclock => ⟨fun port tag r hr => ?_, fun port d hservice hdown hrole hlink => ?_,
    fun l howed hreissue hstack hslots => ?_, fun set j first n0 hstate hrefill => ⟨fun s1 n hfill => ?_, fun s1 l n hfill => ?_⟩⟩
  · exact next_of_timed hclock (by simp only [trayTimeout, hr])
  · exact next_of_running hservice (by simp only [trayLossHold, hdown, hrole, hlink, Bool.not_false, and_self, if_true])
  · exact next_of_timed hclock (trayReissue_one howed hreissue hstack hslots)
  · exact next_of_timed hclock (by simp only [replaceFillComplete, hstate, hrefill, hfill, if_true])
  · exact next_of_timed hclock (by simp only [replaceFillComplete, hstate, hrefill, hfill, if_true])

/-! ## Background writes and reads -/

/-- The quadrant to whose budget the write-back of a line is charged. -/
abbrev dirtyQuadrant (s : State) (l : Nat) : Nat := match tileAt s (l / 512) with | some t => t.quadrant | none => 0

/-- The migration budget has room for the write-back of a line (R106). -/
abbrev RoomForWriteback (s : State) (l : Nat) : Prop :=
  hasBudget s 0 (dirtyQuadrant s l) 1 1 = true ∧ hasBudget s 1 (dirtyQuadrant s l) 1 5 = true

theorem writeBackCharged_room {s : State} {l : Nat} (hroom : RoomForWriteback s l) : writeBackCharged s l =
    writeBack (charge (charge s 0 (dirtyQuadrant s l) 1 1) 1 (dirtyQuadrant s l) 1 5) l :=
  if_pos (Bool.and_eq_true_iff.mpr hroom)

theorem writeBackCharged_noRoom {s : State} {l : Nat} (hroom : ¬ RoomForWriteback s l) : writeBackCharged s l = s :=
  if_neg (mt Bool.and_eq_true_iff.mp hroom)

theorem dirtyWriteback_held {s : State} {l : Nat} (h : heldWriteback s = some l) : dirtyWriteback s = writeBack s l := by
  simp only [dirtyWriteback, h]

theorem dirtyWriteback_limit {s : State} {l : Nat} (hheld : heldWriteback s = none) (h : limitWriteback s = some l) :
    dirtyWriteback s = writeBackCharged s l := by
  simp only [dirtyWriteback, hheld, h]

theorem dirtyWriteback_other {s : State} {l : Nat} (hheld : heldWriteback s = none) (hlimit : limitWriteback s = none)
    (hfill : (prefetchNext s).2 = false) (h : otherWriteback s = some l) : dirtyWriteback s = writeBackCharged s l := by
  simp only [dirtyWriteback, hheld, hlimit, h, hfill, Bool.false_eq_true, if_false]

theorem otherWriteback_of {s : State} {l : Nat}
    (h : (tierComps s).findSome? (fun c => if owesWriteback s c then nextDirty s c false else none) = some l ∨
      ((tierComps s).findSome? (fun c => if owesWriteback s c then nextDirty s c false else none) = none ∧
        nextFlush s = some l)) : otherWriteback s = some l := by
  rcases h with h | ⟨hnone, h⟩
  · simp only [otherWriteback, h]
  · simp only [otherWriteback, hnone, h]

theorem charge_tileAt (s : State) (r q a n tile : Nat) : tileAt (charge s r q a n) tile = tileAt s tile := by
  simp only [tileAt, charge_tier]

theorem prefetchFill_noLimit {s : State} (h : limitWriteback s = none) : prefetchFill s = (prefetchNext s).1 := by
  simp only [prefetchFill, h, Option.isSome_none, Bool.false_eq_true, if_false]

/-- Settles O16. -/
theorem tierBackgroundRuns : Obligations.TierBackgroundRuns := by
  refine fun s hclock => ⟨fun l hheld => ?_, fun hheld => ⟨fun l hlimit => ⟨fun hroom => ?_, fun hroom => ?_⟩,
    fun l hlimit hfill hother => ⟨fun hroom => ?_, fun hroom => ?_⟩⟩, fun c f hflush hlost => ?_, fun l hzero hlost hbudget => ?_,
    fun tile rest hmarked hslot hbudget => ?_, fun l hlimit => ?_, fun hlimit hwindows => ⟨fun tile rest htouch hno => ?_,
    fun tile rest t htouch hyes ht hslot => ?_⟩, fun c hlimit hwindows hhit => ?_⟩
  · exact next_of_timed hclock (dirtyWriteback_held hheld)
  · exact next_of_timed hclock
      ((dirtyWriteback_limit hheld hlimit).trans (writeBackCharged_room hroom))
  · exact next_of_timed hclock
      ((dirtyWriteback_limit hheld hlimit).trans (writeBackCharged_noRoom hroom))
  · exact next_of_timed hclock
      ((dirtyWriteback_other hheld hlimit hfill (otherWriteback_of hother)).trans (writeBackCharged_room hroom))
  · exact next_of_timed hclock
      ((dirtyWriteback_other hheld hlimit hfill (otherWriteback_of hother)).trans (writeBackCharged_noRoom hroom))
  · exact next_of_timed hclock (by simp only [flushComplete, hflush]; exact if_pos hlost)
  · exact next_of_timed hclock (by simp only [zeroTileWrite, hzero, hlost, hbudget, Bool.false_eq_true, if_false, if_true])
  · exact next_of_timed hclock (by
      simp only [markedTileOverwrite, hmarked, hbudget, charge_tileAt, hslot, Option.isNone_none, if_true])
  · exact next_of_timed hclock (by simp only [prefetchFill, hlimit, Option.isSome_some, if_true])
  · exact next_of_timed hclock (by
      simp only [prefetchFill_noLimit hlimit, prefetchNext, hwindows, List.foldl_nil, htouch, hno, Bool.false_eq_true, if_false])
  · exact next_of_timed hclock (by
      simp only [prefetchFill_noLimit hlimit, prefetchNext, hwindows, List.foldl_nil, htouch, hyes, ht, hslot, Bool.false_eq_true,
        if_false, if_true])
  · exact next_of_timed hclock (by
      simp only [prefetchFill_noLimit hlimit, prefetchNext, hwindows, List.foldl_cons, List.foldl_nil, hhit, if_true])

/-! ## Windows, recoveries, patrol and decode tables -/

/-- Settles O17. -/
theorem tierRepairsRun : Obligations.TierRepairsRun := by
  refine fun s hclock => ⟨fun c w n hn hfetch => ?_, fun line k d hk => ⟨?_, ?_⟩,
    fun line errs start secs read hpass hline hpatrolled hread hbudget => ?_⟩
  · exact next_of_timed hclock (by simp only [repointComplete, hn, hfetch, if_true])
  · exact next_of_timed hclock (by simp only [recoverDone, hk, if_true])
  · exact next_of_timed hclock (by simp only [recoverDone, hk, Bool.false_eq_true, if_false])
  · have hspan : inReservation line = false := by
      simp only [inReservation, Nat.div_eq_of_lt hline, ne_eq, not_true_eq_false, decide_false]
    exact next_of_timed hclock (by
      simp only [patrolScrub, hpass, hpatrolled, hread, hbudget, hspan, Bool.not_false, Bool.and_self, Bool.false_eq_true,
        if_false, if_true])

/-- Settles O18. -/
theorem tableEventsRun : Obligations.TableEventsRun := by
  refine fun s hclock => ⟨fun i img himg => ?_, fun i hstate hrefs => ?_⟩
  · exact next_of_timed hclock (by simp only [tableLoadComplete, himg])
  · exact next_of_timed hclock (if_pos ⟨hstate, hrefs⟩)

end Sys2Proof.Proofs.TierEvents

/-! # Periods, idle parts, reduce rounds, search and compositions (R148, R156-R160, R212-R223, R235, R239, R250, R263, R270-R276) -/
namespace Sys2Proof.Proofs.BlockEvents

open Sys2Proof Sys2Proof.Machine Sys2Proof.Proofs.Outcomes

/-! ## Periods, gates and idle parts -/

/-- Settles O19. -/
theorem trafficTimersRun : Obligations.TrafficTimersRun := by
  refine fun s hclock => ⟨?_, fun p b hrunning => ?_, fun p t hpending => ?_, fun p c x hservice hx => ?_⟩
  · exact next_of_timed hclock rfl
  · exact next_of_timed hclock (by simp only [gateEntryChange, hrunning])
  · exact next_of_timed hclock (by simp only [gateBankSwitch, hpending])
  · exact next_of_running hservice (by simp only [admissionHoldRelease, hx])

/-- Settles O20. -/
theorem idlePartsAreGated : Obligations.IdlePartsAreGated := by
  refine fun s hservice => ⟨fun g hg hgated => ?_, fun c hc htrim hpll hslots => ?_, fun b htrim hpowered hgated => ?_⟩
  · exact next_of_running hservice (if_pos ⟨hg, guard_holds hgated⟩)
  · exact next_of_running hservice (if_pos ⟨hc, htrim, guard_holds hpll, guard_holds hslots⟩)
  · exact next_of_running hservice (if_pos ⟨htrim, hpowered, guard_holds hgated⟩)

/-! ## Reduce rounds -/

/-- Settles O21. -/
theorem reduceEventsRun : Obligations.ReduceEventsRun := by
  refine fun s i hclock hstate => ⟨fun hstored hmirrored => ?_, fun hleft => ?_, fun d hopened => ?_⟩
  · exact next_of_timed hclock (if_pos ⟨hstate, hstored, List.isEmpty_iff.mpr hmirrored⟩)
  · refine next_of_timed hclock (if_neg fun ⟨_, hstored, hmirrored⟩ => ?_)
    rcases hleft with h | h
    · exact Bool.eq_false_iff.mp h hstored
    · exact h (List.isEmpty_iff.mp hmirrored)
  · exact next_of_timed hclock (by simp only [roundTimeout, hstate, hopened])

/-! ## Search -/

/-- A request's update takes an invalidate step of its own only as a write in the all-bank partition. -/
theorem threeSteps_request {v : Nat} {u : SUpd} {m : Msg} {via : Option Nat} (hsource : u.source = .req m via) :
    threeSteps v u = (pdAll v && u.record.isSome) := by
  simp only [threeSteps, hsource]

theorem not_refused_of_paid {b a : Bool} (h : b = true ∨ a = true) : (!b && !a) = false := by
  rcases h with rfl | rfl
  · rfl
  · exact Bool.and_false _

/-- The first step of an all-bank write hides its entry. -/
theorem searchUpdateApply_begins {s : State} {p : Nat} {u : SUpd} {rest : List SUpd} {m : Msg} {via : Option Nat} (errs : Nat)
    (hqueue : (partOf s p).queue = u :: rest) (hstate : (partOf s p).state = 2) (hsource : u.source = .req m via)
    (hpaid : u.begun = true ∨ hasBudget s 2 0 5 (updateCost (partOf s p).desc u) = true) (hall : pdAll (partOf s p).desc = true)
    (hrecord : u.record.isSome = true) (hbegun : u.begun = false) :
    searchUpdateApply s p errs = putPart (charge s 2 0 5 (updateCost (partOf s p).desc u)) p (beginUpdate (partOf s p) u rest) := by
  have hbudget := hpaid.resolve_left (Bool.eq_false_iff.mp hbegun)
  simp only [searchUpdateApply, hqueue, hbudget, hstate, threeSteps_request hsource, hall, hrecord, hbegun, ne_eq,
    not_true_eq_false, decide_false, Bool.not_true, Bool.not_false, Bool.and_self, Bool.and_false, Bool.or_self,
    Bool.false_eq_true, if_false, if_true]

/-- The last step of a request's update writes or clears its entry, which no search misses any more. -/
theorem searchUpdateApply_ends {s : State} {p : Nat} {u : SUpd} {rest : List SUpd} {m : Msg} {via : Option Nat} (errs : Nat)
    (hqueue : (partOf s p).queue = u :: rest) (hstate : (partOf s p).state = 2) (hsource : u.source = .req m via)
    (hpaid : u.begun = true ∨ hasBudget s 2 0 5 (updateCost (partOf s p).desc u) = true)
    (hone : pdAll (partOf s p).desc = false ∨ u.record = none ∨ u.begun = true) :
    searchUpdateApply s p errs =
      let x := partOf s p
      let s1 := if u.begun = true then s else charge s 2 0 5 (updateCost x.desc u)
      let s2 := putPart s1 p { x with
        queue := rest, hidden := x.hidden.filter (fun j => decide (j ≠ u.idx))
        flipped := x.flipped.filter (fun j => decide (j ≠ u.idx))
        entries := match u.record with
          | some e => x.entries.setD u.idx 0 e
          | none => x.entries.upd u.idx (fun e => setBits e 0 1 0) }
      updateAnswer (mirrorOnly (addStat s2 0x290103 0 1) [recEntry s2 p u.idx]) u stOk 0 aeOk := by
  have hlast : (threeSteps (partOf s p).desc u && !u.begun) = false := by
    rw [threeSteps_request hsource]
    rcases hone with h | h | h <;>
      simp only [h, Bool.false_and, Option.isSome_none, Bool.and_false, Bool.not_true]
  cases hrecord : u.record <;>
    simp only [searchUpdateApply, hqueue, not_refused_of_paid hpaid, hstate, hlast, hsource, hrecord, ne_eq, not_true_eq_false,
      decide_false, Bool.or_self, Bool.false_eq_true, if_false]

/-- A row that a pass has not read yet is read under the scan's budget. -/
theorem parityScan_reads {s : State} {p k : Nat} (bad : List Nat) (hstate : (partOf s p).state = 2)
    (hrow : k < pdRows (partOf s p).desc) (hfresh : s.search.scanned.getD p 0 / 2 ^ k % 2 = 0)
    (hbudget : hasBudget (reachTime s s.search.scanFrom) 2 0 2 1 = true) :
    parityScan s p k bad = noteRow
      (((rowEntries (partOf s p).desc k).filter (fun i => bad.contains i || (partOf s p).flipped.contains i)).foldl
        (fun s i => parityError s p i 1) (charge (reachTime s s.search.scanFrom) 2 0 2 1)) p k := by
  refine if_neg ?_
  rintro (h | h | h | h)
  · exact h hstate
  · exact Nat.not_lt.mpr h hrow
  · exact absurd (hfresh.symm.trans h) (by decide)
  · simp only [hbudget, Bool.not_true, Bool.false_eq_true] at h

/-- Settles O22. -/
theorem searchEventsRun : Obligations.SearchEventsRun := by
  refine fun s hclock => ⟨fun i c hc => ?_, fun p errs u rest m via hqueue hstate hsource hpaid => ⟨fun hall hrecord hbegun => ?_,
    fun hone => ?_⟩, fun p errs u rest hqueue hbegun hbudget => ?_, fun p k bad hstate hrow hfresh hbudget => ?_,
    fun p hstate => ⟨fun hkeep => ?_, fun hdestroy => ?_⟩, fun p hstate => ?_⟩
  · exact next_of_timed hclock (by simp only [walkIdleTimeout, hc])
  · refine next_of_timed hclock ((searchUpdateApply_begins errs hqueue hstate hsource hpaid hall hrecord hbegun).trans ?_)
    rw [if_neg (Bool.eq_false_iff.mp hbegun), beginUpdate]
  · exact next_of_timed hclock (searchUpdateApply_ends errs hqueue hstate hsource hpaid hone)
  · exact next_of_timed hclock (by
      simp only [searchUpdateApply, hqueue, hbegun, hbudget, Bool.not_false, Bool.and_self, Bool.true_or, if_true])
  · exact next_of_timed hclock (parityScan_reads bad hstate hrow hfresh hbudget)
  · exact next_of_timed hclock (by simp only [partitionCleared, hstate, hkeep, Bool.false_eq_true, if_false, if_true])
  · exact next_of_timed hclock (by simp only [partitionCleared, hstate, hdestroy, if_true])
  · exact next_of_timed hclock (if_pos hstate)

/-! ## Compositions -/

/-- Settles O23. -/
theorem compositionEventsRun : Obligations.CompositionEventsRun := by
  refine fun s hclock => ⟨fun c hstate hwalk hexts hparts => ?_, fun host tag v hv => ?_, fun i t hstate hoffer => ?_⟩
  · have hextsDone : (compOf s c).waitExts.all (fun i => decide ((extOf s i).state = 1)) = true :=
      List.all_eq_true.mpr fun i hi => decide_eq_true (hexts i hi)
    have hpartsDone : (compOf s c).waitParts.all (fun p => decide ((partOf s p).state = 2)) = true :=
      List.all_eq_true.mpr fun p hp => decide_eq_true (hparts p hp)
    exact next_of_timed hclock (by
      simp only [resetComplete, hstate, hwalk, hextsDone, hpartsDone, decide_true, Bool.not_false, Bool.and_self, if_true])
  · exact next_of_timed hclock (by simp only [vecTimeout, hv])
  · exact next_of_timed hclock (by simp only [offerExpiry, hstate, hoffer])

end Sys2Proof.Proofs.BlockEvents

/-! # Links and ports (R266, R268, R281-R301, R405) -/
namespace Sys2Proof.Proofs.LinkEvents

open Sys2Proof Sys2Proof.Machine Sys2Proof.Proofs.Outcomes
open Sys2Proof.Proofs.PortBreakout (getObj_setObj_other)

/-! ## Light and lanes -/

theorem laneKey_lt {f lane : Nat} (hf : f < 64) (hlane : lane < 8) : laneKey f lane < 2 ^ 64 := by
  unfold laneKey
  omega

/-- The power read on a lane leaves the lane's presence. -/
theorem presence_setPower (s : State) {f lane : Nat} (v : Nat) (hf : f < 64) (hlane : lane < 8) :
    getObj (setObj s 0x215103 (laneKey f lane) v) 0x215105 (laneKey f lane) = getObj s 0x215105 (laneKey f lane) :=
  getObj_setObj_other s v (laneKey_lt hf hlane) (laneKey_lt hf hlane) (.inl (by decide))

/-- A lane whose presence changes takes its ports down, or lets them train. -/
theorem lanePresence_changed {s : State} {f lane : Nat} {power : Int} {present : Bool} (hf : f < 64) (hlane : lane < 8)
    (hoff : s.power.state ≠ pwOff) (hwatch : s.power.state ≠ pwWatch) (hpresent : powerPresent s f lane power = present)
    (hchange : getObj (setObj s 0x215103 (laneKey f lane) (i32 power)) 0x215105 (laneKey f lane) ≠ b2n present) :
    lanePresence s f lane power =
      let s1 := setObj s 0x215103 (laneKey f lane) (i32 power)
      let s2 := addScore (addErr (setObj s1 0x215105 (laneKey f lane) (b2n present)) 0x215104 (laneKey f lane) 1) 0 (f * 8 + lane) 1 1
      (lportsOf s2 f).foldl (fun s p =>
        if present then tryDark s p
        else if !portDown s p && (portLanes s p).contains lane then downToDark s p lcPresence else s) s2 := by
  have hbefore := presence_setPower s (i32 power) hf hlane ▸ hchange
  simp only [lanePresence, putPresence, hpresent, if_pos (show f < 64 ∧ lane < 8 ∧ s.power.state ≠ 0 ∧ s.power.state ≠ 4 from
    ⟨hf, hlane, hoff, hwatch⟩), if_neg hchange, if_neg hbefore]

/-- A lane whose presence stays records its power alone. -/
theorem lanePresence_kept {s : State} {f lane : Nat} {power : Int} {present : Bool} (hf : f < 64) (hlane : lane < 8)
    (hoff : s.power.state ≠ pwOff) (hwatch : s.power.state ≠ pwWatch) (hpresent : powerPresent s f lane power = present)
    (hkeep : getObj (setObj s 0x215103 (laneKey f lane) (i32 power)) 0x215105 (laneKey f lane) = b2n present) :
    lanePresence s f lane power = setObj s 0x215103 (laneKey f lane) (i32 power) := by
  have hbefore := presence_setPower s (i32 power) hf hlane ▸ hkeep
  simp only [lanePresence, putPresence, hpresent, if_pos (show f < 64 ∧ lane < 8 ∧ s.power.state ≠ 0 ∧ s.power.state ≠ 4 from
    ⟨hf, hlane, hoff, hwatch⟩), if_pos hkeep, if_pos hbefore]

/-- Settles O24. -/
theorem lightAndLanesRun : Obligations.LightAndLanesRun := by
  refine fun s f hf => ⟨fun power hclock hlow hlit => ?_, fun power hclock hback hdark => ?_, fun lane power hlane hoff hwatch =>
    ⟨fun habove hchange => ?_, fun hbelow hchange => ?_, fun habove hkeep => ?_, fun hbelow hkeep => ?_⟩⟩
  · exact next_of_timed hclock ((if_pos ⟨hf, hlow⟩).trans (if_pos hlit))
  · exact next_of_timed hclock ((if_pos ⟨hf, hback⟩).trans (if_pos hdark))
  · exact next_of_effect (lanePresence_changed (present := true) hf hlane hoff hwatch (decide_eq_true habove) hchange)
  · exact next_of_effect
      (lanePresence_changed (present := false) hf hlane hoff hwatch (decide_eq_false (Int.not_le.mpr hbelow)) hchange)
  · exact next_of_effect (lanePresence_kept (present := true) hf hlane hoff hwatch (decide_eq_true habove) hkeep)
  · exact next_of_effect
      (lanePresence_kept (present := false) hf hlane hoff hwatch (decide_eq_false (Int.not_le.mpr hbelow)) hkeep)

/-! ## The link's states -/

/-- Settles O25. -/
theorem linkStartRuns : Obligations.LinkStartRuns := by
  refine fun s p hclock => ⟨fun htrain => ?_, fun htrain => ?_, fun halign hclaimed => ?_, fun halign => ?_⟩
  · exact next_of_timed hclock (if_pos htrain)
  · exact next_of_timed hclock (if_pos htrain)
  · exact next_of_timed hclock ((if_pos halign).trans (if_neg hclaimed))
  · exact next_of_timed hclock (if_pos halign)

/-- Settles O26. -/
theorem linkKeepsRunning : Obligations.LinkKeepsRunning := by
  refine fun s p hclock => ⟨fun block hparam hclaimed => ?_, fun hparam => ?_, fun hsecure => ?_, fun hup => ?_,
    fun hretrain => ?_, fun hretrain => ?_⟩
  · exact next_of_timed hclock ((if_neg (not_not.mpr hparam)).trans (if_neg hclaimed))
  · exact next_of_timed hclock (if_pos hparam)
  · exact next_of_timed hclock (if_pos hsecure)
  · exact next_of_timed hclock (if_pos hup)
  · exact next_of_timed hclock (if_pos hretrain)
  · exact next_of_timed hclock (if_pos hretrain)

/-! ## Flits -/

/-- Whether a link carries flits. -/
theorem carries_flits {s : State} {p : Nat} (h : linkState s p = lsUp ∨ linkState s p = lsSecure) :
    ¬ (linkState s p ≠ lsUp ∧ linkState s p ≠ lsSecure) := fun ⟨hup, hsecure⟩ => h.elim hup hsecure

/-- A flit that the code could not correct. -/
theorem flitReceived_uncorrectable {recv : State → Nat → Msg → State} {s : State} {p : Nat} {f : Flit}
    (hlink : linkState s p = lsUp ∨ linkState s p = lsSecure) (hbad : f.uncorrectable = true) :
    flitReceived recv s p f = flitFailed (lostCodewords (correctedSymbols s p f) p f) p :=
  (if_neg (carries_flits hlink)).trans (if_pos hbad)

/-- A flit that the code corrected and whose CRC agrees is looked at under its sequence and its keys. -/
theorem flitReceived_intact {recv : State → Nat → Msg → State} {s : State} {p : Nat} {f : Flit}
    (hlink : linkState s p = lsUp ∨ linkState s p = lsSecure) (hgood : f.uncorrectable = false) (hlen : f.slots.length = 7)
    (hcrc : flitCrc f.slot0 f.slots = (Slot0.ofSlot f.slot0).crc) :
    flitReceived recv s p f =
      let s0 := correctedSymbols s p f
      let z := Slot0.ofSlot f.slot0
      if !z.idle ∧ z.seq ≠ (linkOf s0 p).rxExt % 4096 then flitFailed (addErr s0 0x215006 p 1) p
      else
        match openFlit s0 p z f with
        | none => if z.idle then addErr s0 0x213005 p 1 else flitFailed (addErr (addErr s0 0x215006 p 1) 0x213005 p 1) p
        | some (slots, new) =>
          let s1 := setLink s0 p { linkOf s0 p with rxLoad := z.load, rxWide := z.wide }
          if z.idle then
            ackFlits (setLink s1 p { linkOf s1 p with
              idleRx := idleCounter (linkOf s1 p) z.seq + 1, rxUsed := (linkOf s1 p).rxUsed + 1 }) p z.ackSeq z.nak
          else acceptSequenced recv s1 p z slots new := by
  have hintact : ¬ (f.slots.length ≠ 7 ∨ flitCrc f.slot0 f.slots ≠ (Slot0.ofSlot f.slot0).crc) :=
    fun h => h.elim (absurd hlen) (absurd hcrc)
  exact (if_neg (carries_flits hlink)).trans ((if_neg (Bool.eq_false_iff.mp hgood)).trans (if_neg hintact))

/-- An idle flit has no place in the sequence, and another one in its turn is in sequence. -/
theorem in_sequence {z : Slot0} {n : Nat} (h : z.idle = true ∨ z.seq = n) : ¬ ((!z.idle) = true ∧ z.seq ≠ n) := by
  rintro ⟨hsequenced, hother⟩
  rcases h with h | h
  · simp only [h, Bool.not_true, Bool.false_eq_true] at hsequenced
  · exact hother h

/-- Settles O27. -/
theorem flitsAreReceived : Obligations.FlitsAreReceived := by
  refine fun s p f hclock hlink => ⟨fun hbad hlost => ?_, fun hbad hlost => ?_, fun hgood hcrc => ?_,
    fun hgood hlen hcrc hidle hseq => ?_, fun hgood hlen hcrc hseq hopen => ?_,
    fun slots new hgood hlen hcrc hopen => ⟨fun hidle hseq => ?_, fun hidle => ?_⟩⟩
  · refine next_of_timed hclock ((flitReceived_uncorrectable hlink hbad).trans ?_)
    rw [lostCodewords, if_neg (Nat.ne_of_gt hlost)]
  · refine next_of_timed hclock ((flitReceived_uncorrectable hlink hbad).trans ?_)
    rw [lostCodewords, if_pos hlost]
  · exact next_of_timed hclock
      ((if_neg (carries_flits hlink)).trans ((if_neg (Bool.eq_false_iff.mp hgood)).trans (if_pos hcrc)))
  all_goals refine next_of_timed hclock ((flitReceived_intact hlink hgood hlen hcrc).trans ?_)
  · exact if_pos ⟨guard_holds hidle, hseq⟩
  · exact (if_neg (in_sequence hseq)).trans (by rw [hopen])
  · exact (if_neg (in_sequence (.inr hseq))).trans (by rw [hopen]; exact if_neg (Bool.eq_false_iff.mp hidle))
  · exact (if_neg (in_sequence (.inl hidle))).trans (by rw [hopen]; exact if_pos hidle)

/-! ## Timers of a link -/

/-- Settles O28. -/
theorem linkTimersRun : Obligations.LinkTimersRun := by
  refine fun s p hclock => ⟨fun f r hreplay hup => ?_, fun henc hup hrekey => ?_, fun hrekey hup => ?_,
    fun htrim hup hrole hpeer hcfg hgate hwide => ?_, fun hnarrow hwant => ?_, fun t ht hsecure hrequests => ?_⟩
  · exact next_of_timed hclock (by simp only [replayTimeout, hreplay, if_pos hup])
  · exact next_of_timed hclock (if_pos ⟨henc, hup, guard_holds hrekey⟩)
  · exact next_of_timed hclock (if_pos ⟨hrekey, guard_holds hup⟩)
  · exact next_of_timed hclock (if_pos ⟨htrim, hup, hrole, hpeer, hcfg, hgate, guard_holds hwide⟩)
  · have hwidens : ((linkOf s p).narrow && (wantsWide s p || (linkOf s p).rxWide || decide (s.power.state ≠ 2))) = true := by
      simpa only [hnarrow, Bool.true_and, Bool.or_eq_true, decide_eq_true_eq, or_assoc] using hwant
    exact next_of_timed hclock (if_pos hwidens)
  · exact next_of_timed hclock (by simp only [sessionRetry, ht]; exact if_pos ⟨hsecure, hrequests⟩)

/-! ## Slots that a port sends -/

/-- Settles O29. -/
theorem egressSlotsRun : Obligations.EgressSlotsRun := by
  refine fun s p hclock hlink => ⟨fun hfull => ?_, fun hroom hrest => ⟨fun c u hpick => ?_, fun hpick => ?_⟩,
    fun x r hroom hrest => ⟨fun hcarry => ?_, fun hbuild hcont => ?_⟩⟩
  · exact next_of_timed hclock ((if_neg (carries_flits hlink)).trans (if_pos hfull))
  all_goals
    refine next_of_timed hclock ((if_neg (carries_flits hlink)).trans ((if_neg (Nat.not_le.mpr hroom)).trans ?_))
  · simp only [hrest, hpick]
  · simp only [hrest, hpick]
  · simp only [hrest, if_pos hcarry]
  · simp only [hrest, hbuild, hcont, Bool.false_eq_true, or_self, if_false]

end Sys2Proof.Proofs.LinkEvents

/-! # The twin, the spare and health (R317-R347) -/
namespace Sys2Proof.Proofs.TwinEvents

open Sys2Proof Sys2Proof.Machine Sys2Proof.Proofs.Outcomes

/-! ## The twin and the spare -/

/-- Settles O30. -/
theorem twinTimersRun : Obligations.TwinTimersRun := by
  refine fun s hclock => ⟨fun hquarantine => ?_, fun hquarantine => ⟨fun hsilent => ?_, fun hsilent => ?_⟩,
    fun hsend hservice => ⟨fun hnone => ?_, fun hsome hfits => ?_, fun hsome hfits => ?_⟩, fun pair t ht => ?_,
    fun r t hcall => ⟨fun halone hdown => ?_, fun hover => ?_⟩, fun t tags hwarn htags => ?_⟩
  · exact next_of_timed hclock (if_pos hquarantine)
  · exact next_of_timed hclock ((if_neg hquarantine).trans (if_pos hsilent))
  · exact next_of_timed hclock ((if_neg hquarantine).trans (if_neg (Bool.eq_false_iff.mp hsilent)))
  · exact next_of_running hservice ((if_pos hsend).trans (if_pos (List.isEmpty_iff.mpr hnone)))
  · exact next_of_running hservice ((if_pos hsend).trans ((if_neg (mt List.isEmpty_iff.mp hsome)).trans
      (if_pos (guard_holds hfits))))
  · exact next_of_running hservice ((if_pos hsend).trans ((if_neg (mt List.isEmpty_iff.mp hsome)).trans
      (if_neg (guard_fails hfits))))
  · exact next_of_timed hclock (by simp only [pairLostTimeout, ht])
  · exact next_of_timed hclock (by simp only [spareCallTimeout, hcall, halone, hdown, Bool.not_false, and_self, if_true])
  · have hanswered : ¬ (s.twin.pair = psAlone ∧ (!(sparePorts s r).any (linkUp s)) = true) := by
      rintro ⟨halone, hdown⟩
      rcases hover with h | h
      · exact h halone
      · simp only [h, Bool.not_true, Bool.false_eq_true] at hdown
    exact next_of_timed hclock (by simp only [spareCallTimeout, hcall, if_neg hanswered])
  · exact next_of_timed hclock (by simp only [tagWarningRepeat, hwarn, htags])

/-! ## Health -/

/-- A drill's outcome is posted to its composition too where its class works on one. -/
theorem postOutcome_eq (s : State) (cls comp p : Nat) :
    (let own := decide (cls = 1) || decide (cls = 4) || decide (cls = 5)
     let s5 := post s 0x0B51 (if own then some comp else none) p
     if own then postComp s5 comp 0x0B51 p else s5) =
      if cls = 1 ∨ cls = 4 ∨ cls = 5 then postBoth s comp 0x0B51 p else post s 0x0B51 none p := by
  by_cases hown : cls = 1 ∨ cls = 4 ∨ cls = 5
  · have hdecided : (decide (cls = 1) || decide (cls = 4) || decide (cls = 5)) = true := by
      simpa only [Bool.or_eq_true, decide_eq_true_eq, or_assoc] using hown
    simp only [hdecided, if_pos hown, if_true, postBoth]
  · have hdecided : (decide (cls = 1) || decide (cls = 4) || decide (cls = 5)) = false := by
      simpa only [Bool.or_eq_false_iff, decide_eq_false_iff_not, not_or, and_assoc] using hown
    simp only [hdecided, if_neg hown, Bool.false_eq_true, if_false]

/-- Settles O31. -/
theorem healthEventsRun : Obligations.HealthEventsRun := by
  refine fun s hclock => ⟨?_, fun hruns => ⟨fun hnone => ?_, fun hsome => ⟨fun hbudget => ?_, fun hbudget hfits hearly => ?_,
    fun hbudget hlate => ?_⟩⟩, fun d hd hcls hphase => ?_, fun d passed hd => ?_⟩
  · exact next_of_timed hclock rfl
  · exact next_of_timed hclock ((if_neg (guard_fails hruns)).trans (if_pos (List.isEmpty_iff.mpr hnone)))
  · exact next_of_timed hclock ((if_neg (guard_fails hruns)).trans ((if_neg (mt List.isEmpty_iff.mp hsome)).trans
      (if_neg (guard_fails hbudget))))
  · exact next_of_timed hclock ((if_neg (guard_fails hruns)).trans ((if_neg (mt List.isEmpty_iff.mp hsome)).trans
      ((if_pos (guard_holds hbudget)).trans (if_pos ⟨hfits, hearly⟩))))
  · exact next_of_timed hclock ((if_neg (guard_fails hruns)).trans ((if_neg (mt List.isEmpty_iff.mp hsome)).trans
      ((if_pos (guard_holds hbudget)).trans
        (if_neg fun ⟨hfits, hearly⟩ => hlate.elim (Nat.not_lt.mpr hfits) (Nat.not_le.mpr hearly)))))
  · exact next_of_timed hclock (by simp only [drillReturn, hd, hcls, hphase, and_self, if_true])
  · exact next_of_timed hclock (by simp only [drillOutcome, hd]; exact congrArg planDrill (postOutcome_eq _ _ _ _))

end Sys2Proof.Proofs.TwinEvents

/-! # Power, clocks, starts, heat, the steward and the test access port (R363-R436) -/
namespace Sys2Proof.Proofs.PowerEvents

open Sys2Proof Sys2Proof.Machine Sys2Proof.Proofs.Outcomes

/-! ## The steward, the management bus and the random source -/

/-- Settles O32. -/
theorem stewardEventsRun : Obligations.StewardEventsRun := by
  refine fun s => ⟨fun t ht hup => ?_, fun hidle => ?_, fun hruns => ?_, fun hone htwo => ?_, fun hrestart => ?_,
    fun hrestart => ?_, fun hpower => ⟨?_, fun test => ⟨fun hok => ?_, fun hfailed => ?_⟩, fun hfailed => ?_, fun hok => ?_⟩⟩
  · exact next_of_effect (by simp only [watchdogExpiry, ht]; exact if_pos hup)
  · refine next_of_effect ?_
    cases hwatch : s.dict.watchdog with
    | none => simp only [watchdogExpiry, hwatch]
    | some t =>
      have hdown : stewardUp s = false := hidle.resolve_left (by rw [hwatch]; exact Option.some_ne_none t)
      simp only [watchdogExpiry, hwatch, hdown, Bool.false_eq_true, if_false]
  · exact next_of_effect (if_pos hruns.symm)
  · exact next_of_effect (if_neg fun h => h.elim htwo hone)
  · exact next_of_effect (if_pos hrestart)
  · exact next_of_effect (if_neg hrestart)
  · exact next_of_powered hpower rfl
  · exact next_of_powered hpower (if_pos hok)
  · exact next_of_powered hpower (if_neg (Bool.eq_false_iff.mp hfailed))
  · exact next_of_powered hpower (if_neg (Bool.eq_false_iff.mp hfailed))
  · exact next_of_powered hpower (if_pos hok)

/-! ## The input and its loss -/

theorem not_isSome_of_none {α : Type} {o : Option α} (h : o = none) : ¬ o.isSome = true := by
  rw [h]
  exact Bool.false_ne_true

theorem beginLoss_begins {s : State} (hlosing : s.power.losing = none) (hpower : s.power.state ≠ pwOff) :
    beginLoss s = (addSeq s 0x2D5001 0 1).onPower (fun p => { p with losing := some s.now, shake := none }) :=
  if_neg fun h => h.elim hpower (not_isSome_of_none hlosing)

theorem beginLoss_stays {s : State} (h : s.power.losing ≠ none ∨ s.power.state = pwOff) : beginLoss s = s :=
  if_pos (h.symm.imp_right Option.isSome_iff_ne_none.mpr)

/-- A low power-good is sampled after the first step of a start, and begins a loss then. -/
theorem pgoodLow_sampled {s : State} (h : ∀ st, s.power.start = some st → s.power.state = pwStarting → st.step ≠ 1) :
    pgoodLow s = beginLoss s := by
  cases hstart : s.power.start with
  | none => simp only [pgoodLow, hstart]
  | some st =>
    simp only [pgoodLow, hstart]
    exact if_neg fun ⟨hstate, hstep⟩ => h st hstart hstate hstep

theorem pgoodLow_unsampled {s : State} {st : Start} (hstart : s.power.start = some st) (hstate : s.power.state = pwStarting)
    (hstep : st.step = 1) : pgoodLow s = s := by
  simp only [pgoodLow, hstart]
  exact if_pos ⟨hstate, hstep⟩

/-- While a loss begins nothing, a low power-good changes nothing, sampled or not. -/
theorem pgoodLow_stays {s : State} (h : beginLoss s = s) : pgoodLow s = s := by
  unfold pgoodLow
  cases s.power.start with
  | none => exact h
  | some st => exact (congrArg _ h).trans (ite_self s)

/-! ## The power cap -/

/-- The state in which the issue rate is set, and its capping counted (R374). -/
def setRate (s : State) (r : Nat) : State :=
  let s1 := s.onPower (fun p => { p with rate := r })
  if r < 16 then addStat s1 0x2D0102 0 100 else s1

theorem setRate_now (s : State) (r : Nat) : (setRate s r).now = s.now := by
  unfold setRate
  dsimp only
  split <;> rfl

theorem setRate_cappedAt (s : State) (r : Nat) : (setRate s r).power.cappedAt = s.power.cappedAt := by
  unfold setRate
  dsimp only
  split <;> rfl

/-- Whether 0x0D03 has been posted in the last 1,024 periods (R374). -/
def CapPosted (s : State) : Prop := ∃ p, s.power.cappedAt = some p ∧ periodOf s.now < p + 1024

/-- The model's own test of the same. -/
def capDue (s : State) : Bool := match s.power.cappedAt with | none => true | some p => decide (p + 1024 ≤ periodOf s.now)

theorem capDue_iff (s : State) : capDue s = true ↔ ¬ CapPosted s := by
  unfold capDue CapPosted
  cases s.power.cappedAt <;> simp

theorem capDue_setRate (s : State) (r : Nat) : capDue (setRate s r) = capDue s := by
  simp only [capDue, setRate_now, setRate_cappedAt]

/-- A cap step in service: the rate that the power gives, and 0x0D03 where the power is above the cap and the event is due. -/
theorem powerCapStep_eq {s : State} {watts : Nat} (hservice : inService s = true) : powerCapStep s watts =
    let s1 := setObj s 0x2D0002 0 watts
    let r := s1.power.rate
    let r1 := if capInForce s1 < watts then r - 1 else if 100 * watts < 95 * capInForce s1 then min 16 (r + 1) else r
    if capInForce s1 < watts ∧ capDue (setRate s1 r1) = true then
      post ((setRate s1 r1).onPower (fun p => { p with cappedAt := some (periodOf (setRate s1 r1).now) })) 0x0D03 none
        (pay [(2, capInForce s1), (1, r1)])
    else setRate s1 r1 :=
  if_neg (guard_fails hservice)

/-- Power above the cap lowers the rate. -/
theorem powerCapStep_above {s : State} {watts : Nat} (hservice : inService s = true)
    (habove : capInForce (setObj s 0x2D0002 0 watts) < watts) : powerCapStep s watts =
      let s1 := setObj s 0x2D0002 0 watts
      let r1 := s1.power.rate - 1
      if capDue s1 = true then
        post ((setRate s1 r1).onPower (fun p => { p with cappedAt := some (periodOf s.now) })) 0x0D03 none
          (pay [(2, capInForce s1), (1, r1)])
      else setRate s1 r1 := by
  rw [powerCapStep_eq hservice]
  simp only [habove, if_true, capDue_setRate, true_and, setRate_now]
  rfl

/-- Power that is not above the cap posts nothing. -/
theorem powerCapStep_below {s : State} {watts : Nat} (hservice : inService s = true)
    (hbelow : watts ≤ capInForce (setObj s 0x2D0002 0 watts)) : powerCapStep s watts =
      let s1 := setObj s 0x2D0002 0 watts
      setRate s1 (if 100 * watts < 95 * capInForce s1 then min 16 (s1.power.rate + 1) else s1.power.rate) := by
  rw [powerCapStep_eq hservice]
  simp only [Nat.not_lt.mpr hbelow, false_and, if_false]

/-- Settles O33. -/
theorem powerLossEventsRun : Obligations.PowerLossEventsRun := by
  refine fun s => ⟨fun hlosing => ⟨fun hoff => ?_, fun hpower => ?_⟩, fun hlosing => ?_, ⟨fun hlosing hpower =>
    ⟨?_, fun hlater => ?_, fun st hstart hstate hstep => ?_⟩, fun hstays => ⟨?_, ?_⟩⟩, fun us => ⟨fun t ht => ?_, fun hlosing => ?_⟩,
    fun stage hpower hstage hin => ⟨fun hleft => ?_, fun hleft => ?_⟩, fun watts hservice =>
    ⟨fun habove => ⟨fun hdue => ?_, fun hposted => ?_⟩, fun hbelow => ?_, fun hbelow hnear => ?_⟩⟩
  · exact next_of_effect (by simp only [inputPowerUp, hlosing, hoff, Option.isSome_none, Bool.false_eq_true, if_false, if_true])
  · exact next_of_effect (by simp only [inputPowerUp, hlosing, hpower, Option.isSome_none, Bool.false_eq_true, if_false])
  · have hlost : s.power.losing.isSome = true := Option.isSome_iff_ne_none.mpr hlosing
    exact next_of_effect (by simp only [inputPowerUp, hlost, if_true]; rfl)
  · exact next_of_effect (beginLoss_begins hlosing hpower)
  · exact next_of_effect ((pgoodLow_sampled hlater).trans (beginLoss_begins hlosing hpower))
  · exact next_of_effect (pgoodLow_unsampled hstart hstate hstep)
  · exact next_of_effect (beginLoss_stays hstays)
  · exact next_of_effect (pgoodLow_stays (beginLoss_stays hstays))
  · exact next_of_effect (if_pos (by rw [ht]; rfl))
  · exact next_of_effect (if_neg (not_isSome_of_none hlosing))
  · exact next_of_effect ((if_pos ⟨hpower, hstage, hin⟩).trans (if_neg (Nat.not_le.mpr hleft)))
  · exact next_of_effect ((if_pos ⟨hpower, hstage, hin⟩).trans (if_pos hleft))
  · exact next_of_effect ((powerCapStep_above hservice habove).trans (if_pos ((capDue_iff _).mpr hdue)))
  · exact next_of_effect ((powerCapStep_above hservice habove).trans (if_neg fun h => (capDue_iff _).mp h hposted))
  · exact next_of_effect ((powerCapStep_below hservice (by omega)).trans (congrArg (setRate (setObj s 0x2D0002 0 watts)) (if_pos hbelow)))
  · exact next_of_effect ((powerCapStep_below hservice hbelow).trans (congrArg (setRate (setObj s 0x2D0002 0 watts)) (if_neg (Nat.not_lt.mpr hnear))))

/-! ## References and resets from outside -/

/-- Settles O34. -/
theorem referencesAndResetsRun : Obligations.ReferencesAndResetsRun := by
  refine fun s => ⟨fun hlosing hoff hwatch => ?_, fun hlosing hhalted => ?_, ?_, ?_, fun oscillating => ?_,
    fun hlosing hoff => ⟨?_, ?_⟩, fun readings temp hwatch => ⟨fun hnone hcool => ?_, fun p rest hfresh hwake => ?_,
    fun hnone hhot hwas hwake => ?_⟩⟩
  · exact next_of_effect (if_neg fun h => h.elim hoff fun h => h.elim hwatch (not_isSome_of_none hlosing))
  · exact next_of_effect (if_pos ⟨hhalted, by rw [hlosing]; rfl⟩)
  · exact next_of_effect rfl
  · exact next_of_effect rfl
  · exact next_of_effect rfl
  · exact next_of_effect (by simp only [resetContact, hlosing, hoff, Option.isSome_none, Bool.false_eq_true, if_false, ne_eq,
      not_false_eq_true, if_true])
  · exact next_of_effect (if_neg fun h => h.elim hoff (not_isSome_of_none hlosing))
  · have hstays : ¬ (decide (sint (cfg s 0x2D2005) 32 < temp) && !s.power.watchHot) = true := by
      rcases hcool with h | h
      · simp only [h, Bool.false_and, Bool.false_eq_true, not_false_eq_true]
      · simp only [h, Bool.not_true, Bool.and_false, Bool.false_eq_true, not_false_eq_true]
    exact next_of_effect ((if_neg (not_not.mpr hwatch)).trans (by simp only [hnone]; exact if_neg hstays))
  · exact next_of_effect ((if_neg (not_not.mpr hwatch)).trans (by simp only [hfresh]; exact if_pos hwake))
  · have hrises : (decide (sint (cfg s 0x2D2005) 32 < temp) && !s.power.watchHot) = true := by
      simp only [hhot, hwas, Bool.not_false, Bool.and_self]
    exact next_of_effect ((if_neg (not_not.mpr hwatch)).trans
      (by simp only [hnone]; exact (if_pos hrises).trans (if_pos hwake)))

/-! ## Handshakes -/

/-- Settles O35. -/
theorem handshakesEnd : Obligations.HandshakesEnd := by
  refine fun s h hshake => ⟨fun hrefusal hdelay => ?_, fun b c hrefusal => ?_, fun b hrefusal hdelay => ?_⟩
  · exact next_of_effect (by simp only [shakeAccepted, hshake, hrefusal, hdelay, Option.isNone_none, and_self, if_true])
  · exact next_of_effect (by simp only [shakeRefused, hshake, hrefusal])
  · exact next_of_effect (by simp only [shakeTimeout, hshake, hrefusal, hdelay])

/-! ## Starts -/

/-- The steps of a start that is under way, while no power is lost and the reference is there. -/
theorem stepComplete_eq {wr : State → Access → Nat × State} {s : State} {st : Start} (info : StartInfo)
    (hstart : s.power.start = some st) (hlosing : s.power.losing = none) (hhalted : s.power.halted = false) :
    stepComplete wr s info =
      let next := { st with step := st.step + 1 }
      match st.step with
      | 1 => putStart ((stepOne s st info).1.onPower (fun p => { p with steward := 1 })) (stepOne s st info).2
      | 2 =>
        match stepTwo s st.kind with
        | .inl s1 => putStart s1 next
        | .inr d => failStart s st d
      | 3 => putStart (applyWaiting (fun s a => (wr s a).2) (stewardRuns s)) next
      | 5 => putStart (stepFive s st.kind info) next
      | 6 => putStart (if st.kind = 1 then s else stepSix s) next
      | 7 =>
        if st.kind = 1 then putStart s next
        else
          match stepSeven wr s with
          | .inl s1 => putStart s1 next
          | .inr d => failStart s st d
      | 8 => reachFull s st info.durationMs
      | _ => putStart s next := by
  have hruns : ¬ (s.power.losing.isSome = true ∨ s.power.halted = true) :=
    fun h => h.elim (not_isSome_of_none hlosing) (Bool.eq_false_iff.mp hhalted)
  simp only [stepComplete, hstart]
  exact if_neg hruns

/-- Settles O36. -/
theorem startStepsRun : Obligations.StartStepsRun := by
  refine fun s => ⟨fun st info hstart hlosing hhalted => ?_, fun hclock => ?_⟩
  · have hstep := stepComplete_eq (wr := imageWrite) info hstart hlosing hhalted
    refine ⟨fun hone => ?_, fun htwo => ⟨fun t ht => ?_, fun d hd => ?_⟩, fun hthree => ?_, fun hfour => ?_, fun hfive => ?_,
      fun hsix => ?_, fun hseven => ⟨fun hkind => ?_, fun t hkind ht => ?_, fun d hkind hd => ?_⟩, fun height => ?_,
      fun detail hlo hhi => ?_⟩
    · exact next_of_effect (hstep.trans (by simp only [hone]))
    · exact next_of_effect (hstep.trans (by simp only [htwo, ht]))
    · exact next_of_effect (hstep.trans (by simp only [htwo, hd]))
    · exact next_of_effect (hstep.trans (by simp only [hthree]))
    · exact next_of_effect (hstep.trans (by simp only [hfour]))
    · exact next_of_effect (hstep.trans (by simp only [hfive]))
    · exact next_of_effect (hstep.trans (by simp only [hsix]))
    · exact next_of_effect (hstep.trans (by simp only [hseven, hkind, if_true]))
    · exact next_of_effect (hstep.trans (by simp only [hseven, hkind, if_false, ht]))
    · exact next_of_effect (hstep.trans (by simp only [hseven, hkind, if_false, hd]))
    · exact next_of_effect (hstep.trans (by simp only [height]))
    · exact next_of_effect (by simp only [stepFailed, hstart, hlosing, hhalted, hlo, hhi, Option.isNone_none, Bool.not_false,
        and_self, if_true])
  · exact next_of_effect (if_neg (guard_fails hclock))

/-! ## Heat -/

/-- Settles O37. -/
theorem heatEventsRun : Obligations.HeatEventsRun := by
  refine fun s cls item t => ⟨fun hcls ht hoff hwatch => ?_, ?_, fun hcls ht hoff hwatch hlosing => ?_⟩
  · exact next_of_effect (if_pos ⟨hcls, ht, hoff, hwatch⟩)
  · exact next_of_effect rfl
  · exact next_of_effect (if_pos ⟨hcls, ht, hoff, hwatch, hlosing⟩)

/-! ## The test access port -/

/-- Settles O38. -/
theorem testAccessRuns : Obligations.TestAccessRuns := by
  refine fun s hpower => ⟨?_, ?_, fun pins => ?_, fun hlow => ?_, fun hhigh => ?_⟩
  · exact next_of_powered hpower rfl
  · exact next_of_powered hpower rfl
  · exact next_of_powered hpower rfl
  · exact next_of_powered hpower (if_pos hlow)
  · exact next_of_powered hpower (if_neg (Bool.eq_false_iff.mp hhigh))

end Sys2Proof.Proofs.PowerEvents

/-! # Writes of objects (R306, R351-R353, R356) -/
namespace Sys2Proof.Proofs.ObjectWrites

open Sys2Proof Sys2Proof.Machine Sys2Proof.Proofs.Outcomes

/-! ## A write of any object -/

/-- A write that its transport carries reaches the dictionary. -/
theorem submit_reaches {s : State} {a : Access} (h : Reaches s a.who (objNo a.idx a.sub)) :
    submit s { access := a } = dictWrite ap s { access := a } := by
  unfold Reaches at h
  unfold submit
  cases hw : a.who with
  | steward => simp only [hw] at h ⊢; simp only [h, Bool.false_eq_true, if_false]
  | can =>
    simp only [hw] at h ⊢
    obtain ⟨hreached, hlimited⟩ := h
    have hserved : ¬ (canLimited s && !alwaysOn (objNo a.idx a.sub)) = true := by
      rcases hlimited with h | h <;> simp only [h, Bool.false_and, Bool.not_true, Bool.and_false, Bool.false_eq_true, not_false_eq_true]
    exact (if_neg (guard_fails hreached)).trans (if_neg hserved)
  | inband p c =>
    simp only [hw] at h ⊢
    simp only [h.1, h.2, Bool.and_self, if_true]

/-- A write of an object other than the entry record that waits for none before it. -/
theorem dictWrite_now {s : State} {a : Access} (hfirst : waitsBehind s a.who = none) (hobj : objNo a.idx a.sub ≠ 0x291102) :
    dictWrite ap s { access := a } = commitWrite s { access := a } (writeNow ap (pieceLimit a.who) s a) := by
  simp only [dictWrite, hfirst, if_neg hobj]

theorem commitWrite_refused {s t : State} {a : Access} {e : Nat} (he : e ≠ aeOk) :
    commitWrite s { access := a } (e, t) = accessAnswer s { access := a } e := by
  simp only [commitWrite, ne_eq, he, not_false_eq_true, if_true, answerOrHold, Option.isSome_none, Bool.false_eq_true, false_and,
    if_false]

theorem commitWrite_now {s t : State} {a : Access} (h : holdsNow s = false ∨ newRecords s t = []) :
    commitWrite s { access := a } (aeOk, t) = accessAnswer t { access := a } aeOk := by
  have hnow : (holdsNow s && !(newRecords s t).isEmpty) = false := by
    rcases h with h | h <;> simp only [h, Bool.false_and, List.isEmpty_nil, Bool.not_true, Bool.and_false]
  simp only [commitWrite, ne_eq, not_true_eq_false, hnow, answerOrHold, Option.isSome_none, Bool.false_eq_true, false_and, if_false]

theorem commitWrite_held {s t : State} {a : Access} (hholds : holdsNow s = true) (hnew : newRecords s t ≠ []) :
    commitWrite s { access := a } (aeOk, t) =
      holdItem (mirror s (newRecords s t)).1 (mirror s (newRecords s t)).2
        (.obj { ({ access := a } : Deferred) with sent := some (newRecords s t) }) := by
  have hheld : (holdsNow s && !(newRecords s t).isEmpty) = true := by
    rw [hholds, List.isEmpty_eq_false_iff.mpr hnew]
    rfl
  simp only [commitWrite, ne_eq, not_true_eq_false, if_false, hheld, if_true]

theorem writeNow_unchecked {s : State} {a : Access} {e : Nat} (h : writeCheck s a (pieceLimit a.who) = (e, none)) :
    writeNow ap (pieceLimit a.who) s a = (e, s) := by
  simp only [writeNow, h]

theorem writeNow_refused {s : State} {a : Access} {r : ObjRow} {e : Nat} (h : writeCheck s a (pieceLimit a.who) = (aeOk, some r))
    (hx : (writeObject ap s a r (a.value % 2 ^ (8 * a.len))).1 = e) (he : e ≠ aeOk) :
    writeNow ap (pieceLimit a.who) s a = (e, s) := by
  simp only [writeNow, h, hx, he, if_false]

theorem writeNow_accepted {s t : State} {a : Access} {r : ObjRow} (h : writeCheck s a (pieceLimit a.who) = (aeOk, some r))
    (hx : writeObject ap s a r (a.value % 2 ^ (8 * a.len)) = (aeOk, t)) :
    writeNow ap (pieceLimit a.who) s a = (aeOk, t) := by
  simp only [writeNow, h, hx, if_true]

/-- Settles O39. -/
theorem objectWritesRun : Obligations.ObjectWritesRun := by
  intro s a hreach hobj
  have hnow (hfirst : waitsBehind s a.who = none) : submit s { access := a } =
      commitWrite s { access := a } (writeNow ap (pieceLimit a.who) s a) :=
    (submit_reaches hreach).trans (dictWrite_now hfirst hobj)
  refine ⟨fun e hfirst hcheck he => ?_, fun r e hfirst hcheck hx he => ?_, fun r t hfirst hcheck hx hfree => ?_,
    fun r t hfirst hcheck hx hholds hnew => ?_, fun b hbehind => ?_⟩
  · exact next_of_effect ((hnow hfirst).trans (by rw [writeNow_unchecked hcheck, commitWrite_refused he]))
  · exact next_of_effect ((hnow hfirst).trans (by rw [writeNow_refused hcheck hx he, commitWrite_refused he]))
  · exact next_of_effect ((hnow hfirst).trans (by rw [writeNow_accepted hcheck hx, commitWrite_now hfree]))
  · exact next_of_effect ((hnow hfirst).trans (by rw [writeNow_accepted hcheck hx, commitWrite_held hholds hnew]))
  · exact next_of_effect ((submit_reaches hreach).trans (by simp only [dictWrite, hbehind]))

/-! ## A command: a write of one whole object -/

/-- What the chapter of an object makes of a write of it; none: the object has no rule of its own. -/
def chapterRule (s : State) (w : Requester) (o offset len v : Nat) : Option Acc :=
  ((((writeHome s w o offset len v).or (writeTier s w o offset len v)).or
    ((writeCompute s w o offset len v).or (writeComps s w o offset len v))).or
    ((writePorts s w o v).or (writeTwin ap s w o v))).or (writeControl s w o offset len v)

/-- Whether a write of an object goes to its chapter, or else is stored, at once. -/
def isDirect (o : Nat) : Bool :=
  !isSelector o && !nextStartObjects.contains o && decide (o ≠ 0x291102) && decide (objNo (o / 2 ^ 8) (o % 2 ^ 8) = o)

theorem isDirect_iff {o : Nat} : isDirect o = true ↔
    isSelector o = false ∧ nextStartObjects.contains o = false ∧ o ≠ 0x291102 ∧ objNo (o / 2 ^ 8) (o % 2 ^ 8) = o := by
  simp only [isDirect, Bool.and_eq_true, Bool.not_eq_true', decide_eq_true_eq, and_assoc]

theorem writeObject_direct {s : State} {a : Access} {r : ObjRow} {v : Nat} (hsel : isSelector r.obj = false)
    (hrange : plainRange s a.who r.obj v = true) (hnext : nextStartObjects.contains r.obj = false) :
    writeObject ap s a r v = (chapterRule s a.who r.obj a.offset a.len v).getD (plainWrite s a.who r v) := by
  simp only [writeObject, hsel, hrange, hnext, Bool.not_true, Bool.false_eq_true, if_false]
  rfl

/-- A command whose object has a rule of its own, which accepts it, leaves the rule's effect, answered `OK` (R351). -/
theorem command_accepted {s t : State} {w : Requester} {o len v : Nat} (hW : Writable s w o len v) (hv : v < 2 ^ (8 * len))
    (hdirect : isDirect o = true) (hrange : plainRange s w o v = true)
    (hrule : chapterRule s w o 0 len v = some (aeOk, t)) :
    done s (command s w o len v) = .next (after s (reply t w o aeOk)) := by
  obtain ⟨hsel, hnext, hobj, hno⟩ := isDirect_iff.mp hdirect
  refine command_ok s t w o len v hW hobj hno fun r hr => ?_
  obtain rfl : r.obj = o := objRow_obj o r hr
  rw [Nat.mod_eq_of_lt hv, writeObject_direct hsel hrange hnext]
  exact congrArg (Option.getD · _) hrule

/-- A command that its object's rule accepts, by the rule's own name. -/
theorem command_of {s t : State} {w : Requester} {o len v : Nat} {rule : Acc} (hW : Writable s w o len v)
    (hdirect : isDirect o = true) (hv : v < 2 ^ (8 * len)) (hrange : plainRange s w o v = true)
    (hrule : chapterRule s w o 0 len v = some rule) (haccept : rule = (aeOk, t)) :
    done s (command s w o len v) = .next (after s (reply t w o aeOk)) :=
  command_accepted hW hv hdirect hrange (hrule.trans (congrArg some haccept))

/-! ## Extents and hosts -/

/-- Settles O40. -/
theorem extentAndHostCommandsRun : Obligations.ExtentAndHostCommandsRun := by
  have hext : isDirect 0x211003 = true := by decide +kernel
  have hhost : isDirect 0x242003 = true := by decide +kernel
  have hsharers : isDirect 0x2B3003 = true := by decide +kernel
  refine fun s w => ⟨fun hW hcheck => ?_, fun hW hrefused => ?_, fun hW hstate => ?_, fun hW hstate => ?_,
    fun hW hlost hattached => ?_, fun hW hlost => ?_, fun peer c hw hW => ?_⟩
  · exact command_of hW hext (by decide) rfl rfl (if_neg (not_not.mpr hcheck))
  · exact command_of hW hext (by decide) rfl rfl (if_neg (Bool.eq_false_iff.mp hrefused))
  · exact command_of hW hext (by decide) rfl rfl (if_neg (not_not.mpr hstate))
  · exact command_of hW hext (by decide) rfl rfl (if_neg (not_not.mpr hstate))
  · exact command_of hW hhost (by decide) rfl rfl ((if_neg (Bool.eq_false_iff.mp hlost)).trans (if_pos hattached))
  · exact command_of hW hhost (by decide) rfl rfl (congrArg (Prod.mk aeOk) (if_pos hlost))
  · subst hw
    exact command_of hW hsharers (by decide) rfl rfl rfl

end Sys2Proof.Proofs.ObjectWrites

/-! # Commands on the tier, the codec and the compute cores (R92-R135, R155-R200) -/
namespace Sys2Proof.Proofs.TierAndComputeCommands

open Sys2Proof Sys2Proof.Machine Sys2Proof.Proofs.Outcomes Sys2Proof.Proofs.ObjectWrites

/-! ## Trays, flushes, quotas, windows, regions and decode tables -/

theorem declareLostCmd_ok {s : State} {w : Requester} (h : memberState s (selVal s w 0x252001) (selVal s w 0x252003) = 1) :
    declareLostCmd s w =
      (aeOk, declareLost s (memberPort (stripeMember s (selVal s w 0x252001) (selVal s w 0x252003))) 2) := by
  simp only [declareLostCmd, h, OfNat.one_ne_ofNat, one_ne_zero, or_self, if_false]

theorem quotaWrite_fits {s : State} {w : Requester} {v : Nat} (hresident : residentTiles s (selVal s w 0x251001) ≤ v)
    (hsum : quotaSum s - quotaOf s (selVal s w 0x251001) + v + fastTiles s ≤ tierSlots) :
    quotaWrite s w v = (aeOk, mirrorObject (setObj s 0x251002 (selVal s w 0x251001) v) 0x251002 (selVal s w 0x251001) 4
      (selVal s w 0x251001)) :=
  if_neg fun h => h.elim (Nat.not_lt.mpr hresident) (Nat.not_lt.mpr hsum)

/-- A window that is written as disabled keeps its advance counter. -/
theorem windowWrite_disabled {s : State} {w : Requester} {v : Nat} (hreserved : windowReserved v = false)
    (henable : winEnable v = false) :
    windowWrite s w v = withStatus (putWindow s (selVal s w 0x254001) (selVal s w 0x254002)
      (setBits v 64 32 (winAdvances (windowOf s (selVal s w 0x254001) (selVal s w 0x254002))))) w 0x254007 0 := by
  have hkept (x : Nat) : winEnable (setBits v 64 32 x) = false :=
    (bit_setBits_outside v 64 32 x 32 (.inl (by decide))).trans henable
  simp only [windowWrite, hreserved, henable, hkept, Bool.false_and, Bool.false_eq_true, if_false, ne_eq, not_true_eq_false]

theorem regionCreateCmd_creates {s : State} {w : Requester}
    (howner : w.isInband = false ∨ regComp (stagedOf s w 0x256002) = w.comp)
    (hfree : regValid (regionOf s (selVal s w 0x256001)) = false)
    (hok : regionOk s (selVal s w 0x256001) (stagedOf s w 0x256002) = true) :
    regionCreateCmd s w = withStatus (setStaged
      (putRegion s (selVal s w 0x256001) (setBits (stagedOf s w 0x256002) 71 1 1)) w 0x256002 0) w 0x256004 0 := by
  have howned : ¬ (w.isInband && decide (regComp (stagedOf s w 0x256002) ≠ w.comp)) = true := by
    rw [Bool.and_eq_true, decide_eq_true_eq]
    exact fun ⟨hin, hother⟩ => howner.elim (fun h => Bool.eq_false_iff.mp h hin) hother
  exact (if_neg howned).trans ((if_neg (Bool.eq_false_iff.mp hfree)).trans (if_neg (guard_fails hok)))

theorem regionDestroyCmd_destroys {s : State} {w : Requester}
    (howner : w.isInband = false ∨ regValid (regionOf s (selVal s w 0x256001)) = false ∨
      regComp (regionOf s (selVal s w 0x256001)) = w.comp) :
    regionDestroyCmd s w = withStatus (destroyRegion s (selVal s w 0x256001)) w 0x256004 0 := by
  refine if_neg ?_
  rw [Bool.and_eq_true, Bool.and_eq_true, decide_eq_true_eq]
  rintro ⟨⟨hin, hvalid⟩, hother⟩
  rcases howner with h | h | h
  · exact Bool.eq_false_iff.mp h hin
  · exact Bool.eq_false_iff.mp h hvalid
  · exact hother h

theorem tableLoadCmd_loads {s : State} {w : Requester} (hstate : (dslot s (selVal s w 0x260001)).state = 0)
    (hidle : (dslot s (selVal s w 0x260001)).loading = none) (hok : tableOk (stagedOf s w 0x260002) = true) :
    tableLoadCmd s w = withStatus (setStaged (setDslot
      (s.onCodec (fun c => { c with slots := c.slots.mapV (fun _ x =>
        if x.loader = some (whoKey w 0x260004) then { x with loader := none } else x) })) (selVal s w 0x260001)
      { dslot s (selVal s w 0x260001) with
        loading := some (stagedOf s w 0x260002), loader := some (whoKey w 0x260004) }) w 0x260002 0) w 0x260004 1 :=
  (if_neg fun h => h.elim (not_not.mpr hstate) (by rw [hidle]; exact Bool.false_ne_true)).trans (if_neg (guard_fails hok))

/-- Settles O41. -/
theorem tierCommandsRun : Obligations.TierCommandsRun := by
  have hmember : isDirect 0x252010 = true := by decide +kernel
  have hflush : isDirect 0x251008 = true := by decide +kernel
  have hregion : isDirect 0x256003 = true := by decide +kernel
  have htable : isDirect 0x260003 = true := by decide +kernel
  refine fun s w => ⟨fun hW hstate => ?_, fun hW hstate => ?_, fun hW hnone => ?_, fun hW hsome => ?_,
    fun tiles hv hW hresident hsum => ?_, fun v hv hW hreserved henable => ?_, fun v hv hW hlayers => ?_,
    fun hW howner hfree hok => ?_, fun hW howner => ?_, fun hW hstate hidle hok => ?_, fun hW hstate => ?_⟩
  · exact command_of hW hmember (by decide) rfl rfl (declareLostCmd_ok hstate)
  · exact command_of hW hmember (by decide) rfl rfl (if_pos hstate)
  · exact command_of hW hflush (by decide) rfl rfl (if_neg (Bool.eq_false_iff.mp hnone))
  · exact command_of hW hflush (by decide) rfl rfl (if_pos hsome)
  · exact command_of hW (by decide +kernel) hv rfl rfl (quotaWrite_fits hresident hsum)
  · exact command_of hW (by decide +kernel) hv rfl rfl (windowWrite_disabled hreserved henable)
  · exact command_of hW (by decide +kernel) hv rfl rfl (if_neg (Nat.not_le.mpr hlayers))
  · exact command_of hW hregion (by decide) rfl rfl (regionCreateCmd_creates howner hfree hok)
  · exact command_of hW hregion (by decide) rfl rfl (regionDestroyCmd_destroys howner)
  · exact command_of hW htable (by decide) rfl rfl (tableLoadCmd_loads hstate hidle hok)
  · exact command_of hW htable (by decide) rfl rfl (if_neg (not_not.mpr hstate))

/-! ## Reduce slots, itineraries and cores -/

theorem reduceGuard_passes {s : State} {w : Requester} {f : Nat → Acc}
    (howner : w.isInband = false ∨ rsComp (slotDesc s (selVal s w 0x271001)) = w.comp) :
    reduceGuard s w f = f (selVal s w 0x271001) := by
  refine if_neg ?_
  rw [Bool.and_eq_true, decide_eq_true_eq]
  exact fun ⟨hin, hother⟩ => howner.elim (fun h => Bool.eq_false_iff.mp h hin) hother

theorem itinGuard_passes {s : State} {w : Requester} {f : Nat → Itin → Acc}
    (hrights : itinRights s w (itComp (itinOf s (selVal s w 0x281001)).desc) = true) :
    itinGuard s w f = f (selVal s w 0x281001) (itinOf s (selVal s w 0x281001)) := by
  refine if_neg ?_
  rw [hrights, Bool.not_true, Bool.and_false]
  exact Bool.false_ne_true

theorem armCmd_arms {s : State} {w : Requester} (hsteward : w.isInband = false)
    (hstate : slotState s (selVal s w 0x271001) = 0) (hok : armOk s (selVal s w 0x271001) = true)
    (hroom : (setBitList (rsCores (slotDesc s (selVal s w 0x271001))) 24).any
      (fun c => decide (8192 * cfg s 0x271009 < coreReserve s c (slotDesc s (selVal s w 0x271001)))) = false) :
    armCmd s w = withStatus
      (let i := selVal s w 0x271001
       let s0 := (setBitList (rsCores (slotDesc s i)) 24).foldl (fun s c => setCore s c { coreOf s c with pllOff := false }) s
       post (setSlotState (setSlotDesc (setRslot s0 i {}) i (setBits (slotDesc s i) 192 32 0)) i 1) 0x0701
         (some (rsComp (slotDesc s i))) (pay [(1, i)])) w 0x271006 0 :=
  (reduceGuard_passes (.inl hsteward)).trans ((if_neg (not_not.mpr hstate)).trans
    ((if_neg (Bool.eq_false_iff.mp hsteward)).trans ((if_neg (guard_fails hok)).trans (if_neg (Bool.eq_false_iff.mp hroom)))))

theorem allocCmd_allocates {s : State} {w : Requester} {b : Nat} (hstate : (itinOf s (selVal s w 0x281001)).state = 0)
    (hrights : itinRights s w (itComp (stagedOf s w 0x281002)) = true) (hreserved : itReserved (stagedOf s w 0x281002) = false)
    (hpos : 0 < itCount (stagedOf s w 0x281002)) (hcount : itCount (stagedOf s w 0x281002) ≤ 8192)
    (hcomp : (compOf s (itComp (stagedOf s w 0x281002))).state ≠ 0)
    (hfree : freeRange s (itCount (stagedOf s w 0x281002)) = some b) :
    allocCmd s w = withStatus (setStaged (setItin s (selVal s w 0x281001)
      { state := 1, desc := setBits (stagedOf s w 0x281002) 8 16 b }) w 0x281002 0) w 0x281006 isDone := by
  have hdescriptor : (itReserved (stagedOf s w 0x281002) || decide (itCount (stagedOf s w 0x281002) = 0) ||
      decide (8192 < itCount (stagedOf s w 0x281002)) || decide ((compOf s (itComp (stagedOf s w 0x281002))).state = 0)) = false := by
    rw [hreserved, decide_eq_false hpos.ne', decide_eq_false (Nat.not_lt.mpr hcount), decide_eq_false hcomp]
    rfl
  simp only [allocCmd, hstate, hrights, hdescriptor, hfree, ne_eq, not_true_eq_false, Bool.not_true, Bool.false_eq_true, if_false]

theorem acceptCmd_accepts {s : State} {w : Requester} (hsteward : w = .steward)
    (hrights : itinRights s w (itComp (itinOf s (selVal s w 0x281001)).desc) = true)
    (hstate : (itinOf s (selVal s w 0x281001)).state = 2) (hcheck : stewardCheck s (selVal s w 0x281001) = none) :
    acceptCmd s w = withStatus (postBoth (setItin s (selVal s w 0x281001) { itinOf s (selVal s w 0x281001) with state := 3 })
      (itComp (itinOf s (selVal s w 0x281001)).desc) 0x0802 (pay [(1, selVal s w 0x281001)])) w 0x281006 isDone := by
  subst hsteward
  simp only [acceptCmd, itinGuard_passes hrights, hstate, hcheck, ne_eq, not_true_eq_false, if_false]

theorem acceptCmd_rejects {s : State} {w : Requester} {leg reason : Nat} (hsteward : w = .steward)
    (hrights : itinRights s w (itComp (itinOf s (selVal s w 0x281001)).desc) = true)
    (hstate : (itinOf s (selVal s w 0x281001)).state = 2)
    (hcheck : stewardCheck s (selVal s w 0x281001) = some (leg, reason)) :
    acceptCmd s w = withStatus (rejectItin (setObj s 0x281008 (selVal s w 0x281001) (leg + 2 ^ 16 * reason))
      (selVal s w 0x281001) (itinOf s (selVal s w 0x281001))) w 0x281006 isDone := by
  subst hsteward
  simp only [acceptCmd, itinGuard_passes hrights, hstate, hcheck, ne_eq, not_true_eq_false, if_false]

/-- Settles O42. -/
theorem computeCommandsRun : Obligations.ComputeCommandsRun := by
  have hreduce : isDirect 0x271005 = true := by decide +kernel
  have hitin : isDirect 0x281005 = true := by decide +kernel
  refine fun s w => ⟨fun hW hsteward hstate hok hroom => ?_, fun hW howner hstate => ?_, fun hW howner hstate => ?_,
    fun b hW hstate hrights hreserved hpos hcount hcomp hfree => ?_, fun it hit hrights => ?_, fun hW howner => ?_⟩
  · exact command_of hW hreduce (by decide) rfl rfl (armCmd_arms hsteward hstate hok hroom)
  · exact command_of hW hreduce (by decide) rfl rfl ((reduceGuard_passes howner).trans (if_pos hstate))
  · exact command_of hW hreduce (by decide) rfl rfl ((reduceGuard_passes howner).trans (if_neg hstate))
  · exact command_of hW hitin (by decide) rfl rfl (allocCmd_allocates hstate hrights hreserved hpos hcount hcomp hfree)
  · subst hit
    refine ⟨fun hW hstate => ?_, fun hw hW hstate => ⟨fun hcheck => ?_, fun leg reason hcheck => ?_⟩, fun hw hW hstate => ?_,
      fun hW hstate => ?_, fun hW hstate => ?_⟩
    · exact command_of hW hitin (rule := closeCmd s w) (by decide) rfl rfl ((itinGuard_passes hrights).trans (if_neg (not_not.mpr hstate)))
    · exact command_of hW hitin (by decide) rfl rfl (acceptCmd_accepts hw hrights hstate hcheck)
    · exact command_of hW hitin (by decide) rfl rfl (acceptCmd_rejects hw hrights hstate hcheck)
    · exact command_of hW hitin (rule := rejectCmd s w) (by decide) rfl rfl
        ((if_neg (not_not.mpr hw)).trans ((itinGuard_passes hrights).trans (if_neg (not_not.mpr hstate))))
    · exact command_of hW hitin (rule := retireCmd s w) (by decide) rfl rfl ((itinGuard_passes hrights).trans (if_neg (not_not.mpr hstate)))
    · exact command_of hW hitin (rule := freeCmd s w) (by decide) rfl rfl ((itinGuard_passes hrights).trans (if_pos hstate))
  · refine command_of hW (by decide +kernel) (by decide) rfl rfl (if_neg ?_)
    rw [Bool.and_eq_true, Bool.not_eq_true']
    exact fun ⟨hin, hother⟩ => howner.elim (fun h => Bool.eq_false_iff.mp h hin) (fun h => Bool.eq_false_iff.mp hother h)

end Sys2Proof.Proofs.TierAndComputeCommands

/-! # Commands on search, compositions, traffic and ports (R218-R285) -/
namespace Sys2Proof.Proofs.SearchToPortCommands

open Sys2Proof Sys2Proof.Machine Sys2Proof.Proofs.Outcomes Sys2Proof.Proofs.ObjectWrites

/-! ## Search entries and partitions -/

/-- An entry record whose partition takes it is answered by its queue, not by the write (R218). -/
theorem entryRecord_queued {s s1 : State} {w : Requester} {o len v : Nat} (ho : o = 0x291102)
    (hno : objNo (o / 2 ^ 8) (o % 2 ^ 8) = o) (hv : v < 2 ^ (8 * len)) (hW : Writable s w o len v)
    (hentry : entryWrite s { access := wholeWrite w o len v } v = (none, s1)) : command s w o len v = s1 := by
  obtain ⟨hreach, hfirst, -, hcheck⟩ := hW
  obtain ⟨r, hr, -⟩ := writeCheck_ok _ _ _ hcheck
  calc command s w o len v = submit s { access := wholeWrite w o len v } := rfl
    _ = dictWrite ap s { access := wholeWrite w o len v } :=
      submit_reaches (show Reaches s w (objNo (o / 2 ^ 8) (o % 2 ^ 8)) from hno.symm ▸ hreach)
    _ = s1 := by
      unfold wholeWrite at hr hentry ⊢
      simp only [dictWrite, hfirst, hno, if_pos ho, hr, Nat.mod_eq_of_lt hv, hentry]

theorem partitionCreateCmd_creates {s : State} {w : Requester} (hstate : (partOf s (selVal s w 0x291001)).state = 0)
    (hok : pdOk (stagedOf s w 0x291002) = true)
    (hfree : s.search.parts.any (fun x => decide (x.2.state ≠ 0) && pdOverlaps x.2.desc (stagedOf s w 0x291002)) = false) :
    partitionCreateCmd s w = withStatus (changePart (setStaged (freeWaiter s w) w 0x291002 0) (selVal s w 0x291001)
      (fun _ => { state := 1, desc := stagedOf s w 0x291002, waiter := some (whoKey w 0x291004) })) w 0x291004 psBusy :=
  (if_neg (not_not.mpr hstate)).trans ((if_neg (guard_fails hok)).trans (if_neg (Bool.eq_false_iff.mp hfree)))

/-! ## Compositions, members and records -/

/-- A piece of an object whose rule accepts it leaves the rule's effect, answered `OK` (R351). -/
theorem piece_accepted {s t : State} {w : Requester} {o offset len v : Nat} (hreach : Reaches s w o)
    (hfirst : waitsBehind s w = none) (hfree : holdsNow s = false)
    (hcheck : (writeCheck s { who := w, idx := o / 2 ^ 8, sub := o % 2 ^ 8, offset := offset, len := len, value := v }
      (pieceLimit w)).1 = aeOk)
    (hdirect : isDirect o = true) (hrange : plainRange s w o (v % 2 ^ (8 * len)) = true)
    (hrule : chapterRule s w o offset len (v % 2 ^ (8 * len)) = some (aeOk, t)) :
    piece s w o offset len v = reply t w o aeOk := by
  obtain ⟨hsel, hnext, hobj, hno⟩ := isDirect_iff.mp hdirect
  refine submit_ok s t w _ rfl (hno.symm ▸ hreach) hfirst hfree hcheck (hno.symm ▸ hobj) fun r hr => ?_
  obtain rfl : r.obj = o := objRow_obj o r (hno ▸ hr)
  rw [writeObject_direct hsel hrange hnext]
  exact congrArg (Option.getD · _) hrule

theorem descriptorWrite_stages {s : State} {w : Requester} {offset len v : Nat} (hstate : (compOf s (selVal s w 0x2A1001)).state = 0)
    (hreserved : compReserved (setBits (stagedOf s w 0x2A1002) (8 * offset) (8 * len) v) = false) :
    descriptorWrite s w offset len v =
      (aeOk, setStaged s w 0x2A1002 (setBits (stagedOf s w 0x2A1002) (8 * offset) (8 * len) v)) :=
  (if_pos hstate).trans (if_neg (Bool.eq_false_iff.mp hreserved))

theorem compCommand_of_steward {s : State} {w : Requester} (hsteward : w.isInband = false) :
    compCommand s w 1 = compositionCreateCmd s w ∧ compCommand s w 3 = compositionDestroyCmd s w :=
  ⟨if_neg fun ⟨hin, _⟩ => Bool.eq_false_iff.mp hsteward hin, if_neg fun ⟨hin, _⟩ => Bool.eq_false_iff.mp hsteward hin⟩

theorem compCommand_reset {s : State} {w : Requester} : compCommand s w 2 = compositionResetCmd s w :=
  if_neg fun ⟨_, hother⟩ => hother rfl

theorem compositionCreateCmd_creates {s : State} {w : Requester} (hsteward : w.isInband = false) (hrng : s.security.rngOk = true)
    (hcheck : createCheck s (selVal s w 0x2A1001) (stagedOf s w 0x2A1002) = csDone) :
    compositionCreateCmd s w =
      withStatus (setStaged (createComp s (selVal s w 0x2A1001) (stagedOf s w 0x2A1002)) w 0x2A1002 0) w 0x2A1004 csDone :=
  (if_neg (Bool.eq_false_iff.mp hsteward)).trans ((if_neg (not_not.mpr hcheck)).trans (if_neg (guard_fails hrng)))

theorem compositionResetCmd_resets {s : State} {w : Requester} (hrng : s.security.rngOk = true)
    (hstate : (compOf s (selVal s w 0x2A1001)).state = 1 ∨ (compOf s (selVal s w 0x2A1001)).state = 3) :
    compositionResetCmd s w = withStatus (resetComp s (selVal s w 0x2A1001)) w 0x2A1004 csDone :=
  (if_neg (by omega)).trans ((if_pos hstate).trans (if_neg (guard_fails hrng)))

theorem joinCmd_joins {s : State} {w : Requester} (hstate : (compOf s (selVal s w 0x2A1001)).state ≠ 0)
    (hnew : (compOf s (selVal s w 0x2A1001)).members.has (selVal s w 0x2A1101) = false) :
    joinCmd s w = (aeOk,
      let c := selVal s w 0x2A1001
      let h := selVal s w 0x2A1101
      let k := compOf s c
      mirrorMember (post (setComp s c { k with
        members := k.members.put h 1, departed := k.departed.filter (fun x => decide (x ≠ h)) }) 0x0A05 (some c)
        (pay [(2, h), (2, k.pools.getD h 0)])) c h) :=
  (if_neg hstate).trans (if_neg (Bool.eq_false_iff.mp hnew))

theorem leaveCmd_leaves {s : State} {w : Requester} {extra : State → Nat → Nat → State}
    (hstate : (compOf s (selVal s w 0x2A1001)).state ≠ 0) (howner : (compOf s (selVal s w 0x2A1001)).owner ≠ selVal s w 0x2A1101)
    (hmember : (compOf s (selVal s w 0x2A1001)).members.has (selVal s w 0x2A1101) = true) :
    leaveCmd extra s w = (aeOk, leaveHost extra s (selVal s w 0x2A1001) (selVal s w 0x2A1101)) :=
  (if_neg fun h => h.elim hstate howner).trans (if_neg (guard_fails hmember))

/-- Settles O43. -/
theorem searchAndCompositionCommandsRun : Obligations.SearchAndCompositionCommandsRun := by
  have hpart : isDirect 0x291003 = true := by decide +kernel
  have hcomp : isDirect 0x2A1003 = true := by decide +kernel
  have hmember : isDirect 0x2A1103 = true := by decide +kernel
  refine fun s w => ⟨fun v s1 hv hW hentry => ?_, fun hW hstate hok hfree => ?_, fun hW hstate => ?_,
    fun hW hsteward hrng hcheck => ?_, fun hW hrng hstate => ?_, fun hW hsteward hempty hstate => ?_,
    fun offset len v hreach hfirst hnow hcheck hstate hreserved => ?_, fun hW hstate hnew => ?_,
    fun hW hstate howner hin => ?_, fun hW hstate => ?_⟩
  · exact next_of_effect (entryRecord_queued rfl (by decide) (by simpa only [Nat.reduceMul] using hv) hW hentry)
  · exact command_of hW hpart (by decide) rfl rfl (partitionCreateCmd_creates hstate hok hfree)
  · exact command_of hW hpart (by decide) rfl rfl (if_neg (not_not.mpr hstate))
  · exact command_of hW hcomp (by decide) rfl rfl
      ((compCommand_of_steward hsteward).1.trans (compositionCreateCmd_creates hsteward hrng hcheck))
  · exact command_of hW hcomp (by decide) rfl rfl (compCommand_reset.trans (compositionResetCmd_resets hrng hstate))
  · exact command_of hW hcomp (by decide) rfl rfl ((compCommand_of_steward hsteward).2.trans
      ((if_neg (Bool.eq_false_iff.mp hsteward)).trans (if_pos ⟨hstate, hempty⟩)))
  · exact next_of_effect (piece_accepted hreach hfirst hnow hcheck (by decide +kernel) rfl
      (congrArg some (descriptorWrite_stages hstate hreserved)))
  · exact command_of hW hmember (by decide) rfl rfl (joinCmd_joins hstate hnew)
  · exact command_of hW hmember (by decide) rfl rfl (leaveCmd_leaves hstate howner hin)
  · exact command_of hW (by decide +kernel) (by decide) rfl rfl (congrArg (Prod.mk aeOk) (if_neg hstate))

/-! ## Gates and ports -/

theorem gateSwitchWrite_accepted {s : State} {w : Requester} {t : Nat} (htime : s.now + 1000 ≤ t)
    (hidle : (gateOf s (selVal s w 0x235001)).pendingAt = none)
    (hintervals : (List.range (gateLength s (selVal s w 0x235001) (standbyBank s w (selVal s w 0x235001)))).any (fun i =>
      decide (geInterval (gateEntryOf s (selVal s w 0x235001) (standbyBank s w (selVal s w 0x235001)) i) = 0)) = false) :
    gateSwitchWrite s w t = (aeOk,
      let p := selVal s w 0x235001
      putGateState (putGate (setObj s 0x235006 p t) p
        { gateOf s p with pendingAt := some t, nextBank := standbyBank s w p }) p 2) := by
  refine if_neg ?_
  rintro (h | h | h)
  · exact Nat.not_lt.mpr htime h
  · exact absurd h (by rw [hidle]; exact Bool.false_ne_true)
  · exact Bool.eq_false_iff.mp hintervals h

/-- Settles O44. -/
theorem trafficAndPortCommandsRun : Obligations.TrafficAndPortCommandsRun := by
  have henable : isDirect 0x212005 = true := by decide +kernel
  have hport : isDirect 0x212006 = true := by decide +kernel
  refine fun s w => ⟨fun t ht hW htime hidle hintervals => ?_, fun hW hexists => ?_, fun hW hexists => ?_, fun hW hfault => ?_,
    fun hW hup => ?_, fun hW hup => ?_, fun v hv hW hdisabled hrole => ?_⟩
  · exact command_of hW (by decide +kernel) ht rfl rfl (gateSwitchWrite_accepted htime hidle hintervals)
  · exact command_of hW henable (by decide) rfl rfl (if_neg (guard_fails hexists))
  · exact command_of hW henable (by decide) rfl rfl (if_neg (guard_fails hexists))
  · exact command_of hW hport (by decide) rfl rfl (if_pos hfault)
  · have hnotFault : linkState s (selPort s w) ≠ lsFault := by rw [hup]; decide
    exact command_of hW hport (by decide) rfl rfl ((if_neg hnotFault).trans (if_pos (.inr (.inl hup))))
  · exact command_of hW hport (by decide) rfl rfl (if_pos hup)
  · exact command_of hW (by decide +kernel) (hv.trans_lt (by decide)) rfl rfl
      ((if_neg (Nat.not_lt.mpr hv)).trans ((if_neg (not_not.mpr hdisabled)).trans (if_neg hrole)))

end Sys2Proof.Proofs.SearchToPortCommands

/-! # Commands on mirroring, the steward, power and images (R316-R411) -/
namespace Sys2Proof.Proofs.ControlCommands

open Sys2Proof Sys2Proof.Machine Sys2Proof.Proofs.Outcomes Sys2Proof.Proofs.ObjectWrites Sys2Proof.Proofs.PowerEvents

/-! ## Mirroring, event queues, the steward and its recovery -/

theorem recoveryInstallCmd_eq {s : State} {w : Requester} (hrecovering : s.power.steward = 3) :
    recoveryInstallCmd s w = (aeOk,
      let x := s.security.recovery
      if verifyImage s x = 0 then
        post (startCold ((s.onSecurity (fun y => { y with
          images := y.images.put (b2n s.security.bootB * 4 + ihKind x.2) x, recovery := (0, 0) })).onPower
          (fun p => { p with failWarm := 0, failCold := 0 })) 10) 0x0C03 none (pay [(4, ihVersion x.2)])
      else setStatus (imageFailed s x.2 (verifyImage s x)) w 0x2C4004 (if verifyImage s x = 6 then 3 else 2)) := by
  by_cases hgood : verifyImage s s.security.recovery = 0
  · simp only [recoveryInstallCmd, hrecovering, hgood, ne_eq, not_true_eq_false, if_false, if_true]
  · simp only [recoveryInstallCmd, hrecovering, hgood, ne_eq, not_true_eq_false, not_false_eq_true, if_false, if_true, withStatus]

/-- Settles O45. -/
theorem controlCommandsRun : Obligations.ControlCommandsRun := by
  have hsteward : isDirect 0x2C3003 = true := by decide +kernel
  have hrecovery : isDirect 0x2C4003 = true := by decide +kernel
  refine fun s w => ⟨fun hW hpair => ?_, fun hW => ?_, fun hW hup => ?_, fun hW => ?_, fun hW hstate => ?_,
    fun hW hstate => ?_, fun hW hstate => ?_⟩
  · exact command_of hW (by decide +kernel) (by decide) rfl rfl (if_pos hpair)
  · exact command_of hW (by decide +kernel) (by decide) rfl rfl rfl
  · exact command_of hW (by decide +kernel) (by decide) rfl rfl (congrArg (Prod.mk aeOk) (if_pos hup))
  · exact command_of hW hsteward (by decide) rfl rfl rfl
  · exact command_of hW hsteward (by decide) rfl rfl (congrArg (Prod.mk aeOk) (if_neg hstate))
  · exact command_of hW hrecovery (by decide) rfl rfl (recoveryInstallCmd_eq hstate)
  · exact command_of hW hrecovery (by decide) rfl rfl (if_neg (not_not.mpr hstate))

/-! ## Power states and resets -/

theorem powerGuard_passes {s : State} {w : Requester} {ok : Bool} {f : Unit → Acc} (hshake : s.power.shake = none)
    (hlosing : s.power.losing = none) (hhalted : s.power.halted = false) (hok : ok = true) : powerGuard s w ok f = f () := by
  simp only [powerGuard, hshake, hlosing, hhalted, hok, Option.isSome_none, Bool.false_eq_true, Bool.not_true, or_self, if_false]

theorem inService_full {s : State} (h : s.power.state = pwFull) (hlosing : s.power.losing = none)
    (hhalted : s.power.halted = false) : inService s = true := by
  simp only [inService, h, hlosing, hhalted, Option.isNone_none, Bool.not_false, BEq.rfl, Bool.true_or, Bool.and_self]

/-- What the commands on the power state do on a device that runs (R379, R380). -/
theorem powerCommands_run (s : State) (w : Requester) (hshake : s.power.shake = none) (hlosing : s.power.losing = none)
    (hhalted : s.power.halted = false) :
    (s.power.state = pwTrim → powerFullCmd s w = withStatus (ungate s) w 0x2D1004 tsDone) ∧
    (s.power.state = pwFull →
      powerTrimCmd s w = withStatus (s.onPower (fun p => { p with state := pwTrim })) w 0x2D1004 tsDone ∧
      powerQuietCmd s w = startShake s w 3 ∧ powerWatchCmd s w = startShake s w 4 ∧ powerOffCmd s w = startShake s w 5 ∧
      warmResetCmd s w = startShake s w 6) := by
  have hpass {ok : Bool} {f : Unit → Acc} (hok : ok = true) : powerGuard s w ok f = f () :=
    powerGuard_passes hshake hlosing hhalted hok
  refine ⟨fun htrim => ?_, fun hfull => ?_⟩
  · exact (hpass (by rw [htrim]; rfl)).trans (if_pos htrim)
  · have hin := inService_full hfull hlosing hhalted
    refine ⟨?_, hpass hin, ?_, ?_, hpass hin⟩
    · exact (hpass (by rw [hfull]; rfl)).trans (if_pos hfull)
    · exact hpass (by rw [hin]; rfl)
    · exact hpass (by rw [hin]; rfl)

theorem coldResetCmd_resets {s : State} {w : Requester} (hshake : s.power.shake = none) (hlosing : s.power.losing = none)
    (hon : s.power.state ≠ pwOff) :
    coldResetCmd s w = (aeOk, startCold (setStatus (writeJournals s) w 0x2D1004 tsDone) 2) :=
  (if_neg (not_isSome_of_none hshake)).trans (if_neg fun h => h.elim hon (not_isSome_of_none hlosing))

theorem coldStartCmd_starts {s : State} {w : Requester} (hshake : s.power.shake = none) (hlosing : s.power.losing = none)
    (hhalted : s.power.halted = false) (hstalled : s.power.state = pwStalled) :
    coldStartCmd s w = (aeOk, startCold ((setStatus s w 0x2D1004 tsDone).onPower
      (fun p => { p with failWarm := 0, failCold := 0 })) 10) :=
  powerGuard_passes hshake hlosing hhalted (by rw [hstalled]; rfl)

/-! ## Certificates, the owner key and images -/

theorem certInstallCmd_eq {s : State} {w : Requester} (hslot : selVal s w 0x2E0101 = 1) :
    certInstallCmd s w = (aeOk,
      let v := stagedOf s w 0x2E0104
      if Config.chainOk v = true ∧ Config.chainLen v ≤ 8192 then
        setStatus ((setStaged s w 0x2E0104 0).onSecurity (fun x => { x with chain := (Config.chainLen v, v) })) w 0x2E0106 0
      else setStatus s w 0x2E0106 1) := by
  by_cases hgood : Config.chainOk (stagedOf s w 0x2E0104) = true ∧ Config.chainLen (stagedOf s w 0x2E0104) ≤ 8192
  · have haccepted : ¬ ((!Config.chainOk (stagedOf s w 0x2E0104)) = true ∨ 8192 < Config.chainLen (stagedOf s w 0x2E0104)) :=
      fun h => h.elim (guard_fails hgood.1) (Nat.not_lt.mpr hgood.2)
    exact (if_neg (not_not.mpr hslot)).trans ((if_neg haccepted).trans (congrArg (Prod.mk aeOk) (if_pos hgood).symm))
  · have hrefused : (!Config.chainOk (stagedOf s w 0x2E0104)) = true ∨ 8192 < Config.chainLen (stagedOf s w 0x2E0104) := by
      rw [Bool.not_eq_true', ← Bool.not_eq_true, ← Nat.not_le, ← not_and_or]
      exact hgood
    simp only [certInstallCmd, hslot, hrefused, hgood, ne_eq, not_true_eq_false, if_false, if_true, withStatus]

theorem ownerTransferCmd_eq {s : State} {w : Requester} (howned : ownerKey s ≠ 0) :
    ownerTransferCmd s w = (aeOk,
      let k := stagedOf s w 0x2E1003
      if ed448Verify 0 (ownerKey s) 57 k (stagedOf s w 0x2E1004) = true then setStatus (putOwner s w k) w 0x2E1006 0
      else setStatus s w 0x2E1006 1) := by
  simp only [ownerTransferCmd, howned, ne_eq, not_false_eq_true, true_and, withStatus]
  split <;> rfl

theorem imageStageCmd_eq {s : State} {w : Requester} :
    imageStageCmd s w = (aeOk,
      let x := s.security.building.getD w.key (0, 0)
      if verifyImage s x = 0 then
        setStatus (s.onSecurity (fun y => { y with
          images := y.images.put (b2n s.security.bootB * 4 + ihKind x.2) x, building := y.building.del w.key })) w 0x2E1204 0
      else setStatus (imageFailed s x.2 (verifyImage s x)) w 0x2E1204 (verifyImage s x + 1)) := by
  by_cases hgood : verifyImage s (s.security.building.getD w.key (0, 0)) = 0
  · simp only [imageStageCmd, hgood, ne_eq, not_true_eq_false, if_false, if_true, withStatus]
  · simp only [imageStageCmd, hgood, ne_eq, not_false_eq_true, if_false, if_true, withStatus]

/-- Settles O46. -/
theorem powerAndImageCommandsRun : Obligations.PowerAndImageCommandsRun := by
  have hpower : isDirect 0x2D1002 = true := by decide +kernel
  have hreset : isDirect 0x2D1003 = true := by decide +kernel
  have hcert : isDirect 0x2E0105 = true := by decide +kernel
  have howner : isDirect 0x2E1005 = true := by decide +kernel
  have himage : isDirect 0x2E1203 = true := by decide +kernel
  refine fun s w => ⟨fun hshake hlosing hhalted => ?_, fun hW hslot => ?_, fun hW hslot => ?_, fun hW hnone hkey => ?_,
    fun hW howned => ?_, fun hW => ?_, fun hW => ?_⟩
  · obtain ⟨hfromTrim, hfromFull⟩ := powerCommands_run s w hshake hlosing hhalted
    refine ⟨fun hW hstate => ?_, fun hW hstate => ?_, fun hW hstate => ?_, fun hW hstate => ?_, fun hW hstate => ?_,
      fun hW hstate => ?_, fun hW hstate => ?_, fun hW hstate => ?_⟩
    · exact command_of hW hpower (by decide) rfl rfl (hfromTrim hstate)
    · obtain ⟨htrim, -, -, -, -⟩ := hfromFull hstate
      exact command_of hW hpower (by decide) rfl rfl htrim
    · obtain ⟨-, hquiet, -, -, -⟩ := hfromFull hstate
      exact command_of hW hpower (by decide) rfl rfl hquiet
    · obtain ⟨-, -, hwatch, -, -⟩ := hfromFull hstate
      exact command_of hW hpower (by decide) rfl rfl hwatch
    · obtain ⟨-, -, -, hoff, -⟩ := hfromFull hstate
      exact command_of hW hpower (by decide) rfl rfl hoff
    · obtain ⟨-, -, -, -, hwarm⟩ := hfromFull hstate
      exact command_of hW hreset (by decide) rfl rfl hwarm
    · exact command_of hW hreset (by decide) rfl rfl (coldResetCmd_resets hshake hlosing hstate)
    · exact command_of hW hreset (by decide) rfl rfl (coldStartCmd_starts hshake hlosing hhalted hstate)
  · exact command_of hW hcert (by decide) rfl rfl (certInstallCmd_eq hslot)
  · exact command_of hW hcert (by decide) rfl rfl (if_neg (not_not.mpr hslot))
  · exact command_of (rule := ownerSetCmd s w) hW howner (by decide) rfl rfl (if_pos ⟨hnone, hkey⟩)
  · exact command_of hW howner (by decide) rfl rfl (ownerTransferCmd_eq howned)
  · exact command_of hW himage (by decide) rfl rfl imageStageCmd_eq
  · exact command_of hW himage (by decide) rfl rfl rfl

end Sys2Proof.Proofs.ControlCommands

/-! # Twin-range messages (R305-R336) -/
namespace Sys2Proof.Proofs.TwinMessages

open Sys2Proof Sys2Proof.Machine Sys2Proof.Proofs.StepAndQueue Sys2Proof.Proofs.Outcomes

/-! ## Arrival -/

theorem exec_received {s t : State} {c : Instr} {p : Nat} {m : Msg} (hc : c.carried = some (p, m)) (heff : receive s p m = t) :
    exec c s = .next (after s t) :=
  (exec_carried hc s).trans (next_of_effect heff)

/-- A twin-range message for this ZX964 has the effect of its rule. -/
theorem exec_twin {s t : State} {c : Instr} {p : Nat} {m : Msg} (hc : c.carried = some (p, m)) (h : ForTwin s p m.heard)
    (htwin : m.heard.isTwin = true) (heff : twinHere s p m.heard = t) : exec c s = .next (after s t) := by
  have hfull : m.heard.opcode ≠ opEmpty := by
    intro hempty
    rw [Msg.isTwin, hempty] at htwin
    exact Bool.false_ne_true htwin
  exact exec_received hc ((receive_twin s p m m.heard rfl h htwin hfull).trans heff)

/-! ## The rule of each opcode -/

section
variable {s : State} {p : Nat} {n : Msg} (hr : twinReserved n = false)
include hr

theorem twinHere_mirror (hop : n.opcode = opTwMirror) : twinHere s p n = twMirror s p n := by
  by_cases hrole : portRole s p = roleTwin
  · simp only [twinHere, hr, hop, hrole, ne_eq, not_true_eq_false, Bool.false_eq_true, true_or, if_true, if_false]
  · simp only [twinHere, twMirror, hr, hop, hrole, ne_eq, not_false_eq_true, Bool.false_eq_true, true_or, if_true, if_false]

theorem twinHere_mirrorAck (hop : n.opcode = opTwMirrorAck) (hrole : portRole s p = roleTwin) :
    twinHere s p n = twMirrorAck ap s p n := by
  simp [twinHere, hr, hop, hrole]

theorem twinHere_mirrorAck_elsewhere (hop : n.opcode = opTwMirrorAck) (hrole : portRole s p ≠ roleTwin) :
    twinHere s p n = roleDiscard s := by
  simp [twinHere, hr, hop, hrole]

theorem twinHere_beat (hop : n.opcode = opTwBeat) : twinHere s p n = twBeat s p n := by
  simp [twinHere, hr, hop]

theorem twinHere_suspect (hop : n.opcode = opTwSuspect) : twinHere s p n = twSuspect s p n := by
  simp [twinHere, hr, hop]

theorem twinHere_confirm (hop : n.opcode = opTwConfirm) : twinHere s p n = twConfirm ap s p n := by
  simp [twinHere, hr, hop]

theorem twinHere_verdict (hop : n.opcode = opTwVerdict) : twinHere s p n = twVerdict ap s n := by
  simp [twinHere, hr, hop]

theorem twinHere_serving (hop : n.opcode = opTwServing) : twinHere s p n = twServing s p n := by
  simp [twinHere, hr, hop]

theorem twinHere_detachRequest (hop : n.opcode = opTwDetach) (hstep : n.fld 0 2 = 0) :
    twinHere s p n = twDetachRequest s := by
  simp [twinHere, hr, hop, hstep]

theorem twinHere_detachConfirm (hop : n.opcode = opTwDetach) (hstep : n.fld 0 2 = 1) :
    twinHere s p n = twDetachConfirm ap s := by
  simp [twinHere, hr, hop, hstep]

theorem twinHere_detachRefuse (hop : n.opcode = opTwDetach) (hstep : n.fld 0 2 = 2) :
    twinHere s p n = twDetachRefuse s := by
  simp [twinHere, hr, hop, hstep]

theorem twinHere_catchupEpoch (hop : n.opcode = opTwCatchup) (hstep : n.fld 0 2 = 0) :
    twinHere s p n = twCatchupEpoch s n := by
  simp [twinHere, hr, hop, hstep]

theorem twinHere_catchupStart (hop : n.opcode = opTwCatchup) (hstep : n.fld 0 2 = 1) :
    twinHere s p n = twCatchupStart s n := by
  simp [twinHere, hr, hop, hstep]

theorem twinHere_catchupDone (hop : n.opcode = opTwCatchup) (hstep : n.fld 0 2 = 2) :
    twinHere s p n = twCatchupDone s n := by
  simp [twinHere, hr, hop, hstep]

theorem twinHere_catchupAbort (hop : n.opcode = opTwCatchup) (hstep : n.fld 0 2 = 3) :
    twinHere s p n = twCatchupAbort ap s := by
  simp [twinHere, hr, hop, hstep]

end

/-! ## Batches and acknowledgements -/

theorem takesBatches_iff {s : State} :
    takesBatches s = true ↔ s.twin.pair = psRecv ∨ (s.twin.pair = psSync ∧ s.twin.serving = false) := by
  simp only [takesBatches, Bool.or_eq_true, Bool.and_eq_true, beq_iff_eq, Bool.not_eq_true']

theorem twMirror_ignored {s : State} {p : Nat} {n : Msg} (hrole : portRole s p = roleTwin) (hrecv : s.twin.pair ≠ psRecv)
    (hmirror : s.twin.pair ≠ psSync ∨ s.twin.serving = true) : twMirror s p n = s := by
  refine (if_neg (not_not.mpr hrole)).trans (if_neg fun h => ?_)
  rcases takesBatches_iff.mp h with hpair | ⟨hsync, hserving⟩
  · exact hrecv hpair
  · exact hmirror.elim (fun h => h hsync) fun h => by rw [hserving] at h; exact Bool.false_ne_true h

/-! ## Heartbeats -/

theorem twBeat_refused {s : State} {p c : Nat} {n : Msg} (hc : s.twin.quarantine.get? (n.fld 32 7) = some c)
    (hcold : reached c (n.fld 80 32) = true) :
    twBeat s p n = post (portDisable s p) 0x0B33 none (pay [(1, p), (1, n.fld 32 7), (4, n.fld 80 32)]) := by
  simp only [twBeat, hc, hcold, if_true]

/-- A side that has noted a heartbeat (R318, R325). -/
def beatNoted (s : State) (p : Nat) (n : Msg) : State :=
  s.onTwin (fun t => { t with
    quarantine := t.quarantine.del (n.fld 32 7), neigh := t.neigh.put (n.fld 32 7) { heard := true }
    portPeer := t.portPeer.put p (n.fld 32 7), peerTags := t.peerTags.put (n.fld 32 7) (n.fld 48 32)
    peerCold := t.peerCold.put (n.fld 32 7) (n.fld 80 32), peerState := t.peerState.put (n.fld 32 7) (n.fld 40 4)
    silentTurns := 0 })

/-- A side that has noted a heartbeat of its own twin, with the twin's tags (R317). -/
def twinBeatNoted (s : State) (p : Nat) (n : Msg) : State :=
  (beatNoted s p n).onTwin (fun t => { t with twinTags := some (n.fld 48 32) })

section
variable {s : State} {p : Nat} {n : Msg}
  (hknown : ∀ c, s.twin.quarantine.get? (n.fld 32 7) = some c → reached c (n.fld 80 32) = false)
include hknown

/-- What a side makes of a heartbeat that no verdict refuses, the twin's own in the order of R313. -/
theorem twBeat_heard : twBeat s p n =
    if portRole s p = roleTwin ∧ n.fld 32 7 = twinIdent s then
      (let s2 := twinBeatNoted s p n
       if tagsPass s2 (n.fld 48 32) = false then
         (if s.twin.twinTags = some (n.fld 48 32) then s2
          else if s.twin.pair = psRecv ∧ s.twin.claimed = true then
            portDisable (endReceiving (tagEvent s2 (n.fld 32 7) (n.fld 48 32))) p
          else tagEvent s2 (n.fld 32 7) (n.fld 48 32))
       else if s2.twin.pair = psUnpaired ∧ mayPair s2 = true then
         formPair (if s.twin.twinTags = some (n.fld 48 32) then s2 else sendEpoch s2)
       else if s2.twin.pair = psAlone ∧ (n.fld 40 4 = psRecv ∨ n.fld 40 4 = psDetached) then startCatchup (tagWarning s2)
       else tagWarning s2)
    else beatNoted s p n := by
  by_cases htags : s.twin.twinTags = some (n.fld 48 32)
  all_goals
    cases hq : s.twin.quarantine.get? (n.fld 32 7) with
    | none =>
      simp only [twBeat, hq, htags, ne_eq, not_true_eq_false, not_false_eq_true, decide_true, decide_false, Bool.false_eq_true,
        if_true, if_false, Bool.not_eq_true']
      rfl
    | some c =>
      simp only [twBeat, hq, hknown c hq, htags, ne_eq, not_true_eq_false, not_false_eq_true, decide_true, decide_false,
        Bool.false_eq_true, if_true, if_false, Bool.not_eq_true']
      rfl

theorem twBeat_elsewhere (h : portRole s p ≠ roleTwin ∨ n.fld 32 7 ≠ twinIdent s) : twBeat s p n = beatNoted s p n :=
  (twBeat_heard hknown).trans (if_neg fun ⟨hrole, hid⟩ => h.elim (· hrole) (· hid))

variable (hrole : portRole s p = roleTwin) (hid : n.fld 32 7 = twinIdent s)
include hrole hid

theorem twBeat_tagsKnown (hpass : tagsPass (twinBeatNoted s p n) (n.fld 48 32) = false)
    (htags : s.twin.twinTags = some (n.fld 48 32)) : twBeat s p n = twinBeatNoted s p n :=
  (twBeat_heard hknown).trans ((if_pos ⟨hrole, hid⟩).trans ((if_pos hpass).trans (if_pos htags)))

theorem twBeat_tagsRefused (hpass : tagsPass (twinBeatNoted s p n) (n.fld 48 32) = false)
    (htags : s.twin.twinTags ≠ some (n.fld 48 32)) :
    twBeat s p n = if s.twin.pair = psRecv ∧ s.twin.claimed = true then
      portDisable (endReceiving (tagEvent (twinBeatNoted s p n) (n.fld 32 7) (n.fld 48 32))) p
      else tagEvent (twinBeatNoted s p n) (n.fld 32 7) (n.fld 48 32) :=
  (twBeat_heard hknown).trans ((if_pos ⟨hrole, hid⟩).trans ((if_pos hpass).trans (if_neg htags)))

variable (hpass : tagsPass (twinBeatNoted s p n) (n.fld 48 32) = true)
include hpass

theorem twBeat_forms (hpair : (twinBeatNoted s p n).twin.pair = psUnpaired) (hmay : mayPair (twinBeatNoted s p n) = true) :
    twBeat s p n =
      formPair (if s.twin.twinTags = some (n.fld 48 32) then twinBeatNoted s p n else sendEpoch (twinBeatNoted s p n)) :=
  (twBeat_heard hknown).trans ((if_pos ⟨hrole, hid⟩).trans
    ((if_neg (Bool.not_eq_false _ ▸ hpass)).trans (if_pos ⟨hpair, hmay⟩)))

theorem twBeat_copies (hpair : (twinBeatNoted s p n).twin.pair = psAlone)
    (hpeer : n.fld 40 4 = psRecv ∨ n.fld 40 4 = psDetached) :
    twBeat s p n = startCatchup (tagWarning (twinBeatNoted s p n)) := by
  have hpaired : ¬ ((twinBeatNoted s p n).twin.pair = psUnpaired ∧ mayPair (twinBeatNoted s p n) = true) := by
    rintro ⟨hun, -⟩
    exact absurd (hpair.symm.trans hun) (by decide)
  exact (twBeat_heard hknown).trans ((if_pos ⟨hrole, hid⟩).trans ((if_neg (Bool.not_eq_false _ ▸ hpass)).trans
    ((if_neg hpaired).trans (if_pos ⟨hpair, hpeer⟩))))

theorem twBeat_warns (hpair : (twinBeatNoted s p n).twin.pair ≠ psUnpaired ∨ mayPair (twinBeatNoted s p n) = false)
    (hpeer : (twinBeatNoted s p n).twin.pair ≠ psAlone ∨ (n.fld 40 4 ≠ psRecv ∧ n.fld 40 4 ≠ psDetached)) :
    twBeat s p n = tagWarning (twinBeatNoted s p n) :=
  (twBeat_heard hknown).trans ((if_pos ⟨hrole, hid⟩).trans ((if_neg (Bool.not_eq_false _ ▸ hpass)).trans
    ((if_neg fun ⟨hun, hmay⟩ => hpair.elim (· hun) fun h => Bool.eq_false_iff.mp h hmay).trans
      (if_neg fun ⟨halone, hstate⟩ => hpeer.elim (· halone) fun ⟨h1, h2⟩ => hstate.elim h1 h2))))

end

/-- Settles O50. -/
theorem twinMessagesRun : Obligations.TwinMessagesRun := by
  refine fun s p m => ⟨fun h => ?_, fun h => ?_, fun h => ?_⟩
  · obtain ⟨-, -, hr⟩ := id h
    have hmirror {t : State} (heff : twMirror s p (m.withOp opTwMirror).heard = t) :
        exec (.twMirror p m) s = .next (after s t) := exec_twin rfl h rfl ((twinHere_mirror hr rfl).trans heff)
    refine ⟨fun hrole htakes => ?_, fun hrole hrecv hpair => ?_, fun hrole => ?_⟩
    · exact hmirror ((if_neg (not_not.mpr hrole)).trans (if_pos (takesBatches_iff.mpr htakes)))
    · exact hmirror (twMirror_ignored hrole hrecv hpair)
    · exact hmirror (if_pos hrole)
  · obtain ⟨-, -, hr⟩ := id h
    refine ⟨fun hrole hmirrors => ?_, fun hrole hmirrors => ?_, fun hrole => ?_⟩
    · exact exec_twin rfl h rfl ((twinHere_mirrorAck hr rfl hrole).trans (if_pos ⟨hrole, hmirrors⟩))
    · exact exec_twin rfl h rfl ((twinHere_mirrorAck hr rfl hrole).trans
        (if_neg fun ⟨_, hm⟩ => Bool.eq_false_iff.mp hmirrors hm))
    · exact exec_twin rfl h rfl (twinHere_mirrorAck_elsewhere hr rfl hrole)
  · obtain ⟨-, -, hr⟩ := id h
    have hbeat {t : State} (heff : twBeat s p (m.withOp opTwBeat).heard = t) :
        exec (.twBeat p m) s = .next (after s t) := exec_twin rfl h rfl ((twinHere_beat hr rfl).trans heff)
    refine ⟨fun c hc hcold => ?_, fun hknown => ⟨fun helse => ?_, fun hrole hid hpass => ⟨fun htags => ?_, fun htags => ?_⟩,
      fun hrole hid hpass => ⟨fun hpair hmay => ?_, fun hpair hpeer => ?_, fun hpair hpeer => ?_⟩⟩⟩
    · exact hbeat (twBeat_refused hc hcold)
    · exact hbeat (twBeat_elsewhere hknown helse)
    · exact hbeat (twBeat_tagsKnown hknown hrole hid hpass htags)
    · exact hbeat (twBeat_tagsRefused hknown hrole hid hpass htags)
    · exact hbeat (twBeat_forms hknown hrole hid hpass hpair hmay)
    · exact hbeat (twBeat_copies hknown hrole hid hpass hpair hpeer)
    · exact hbeat (twBeat_warns hknown hrole hid hpass hpair hpeer)

/-! ## Suspicion, verdicts and serving sides -/

/-- What a verdict on another ZX964, new to this one, does before its subject's place decides (R323). -/
def verdictNoted (s : State) (x originator cold agree disagree : Nat) : State :=
  let body := pack [(8, x), (8, originator), (32, cold)]
  let ps := portsTo s x
  let s1 := (addErr s 0x2B1003 0 1).onTwin (fun t => { t with
    quarantine := t.quarantine.put x cold, neigh := t.neigh.del x })
  let s2 := ps.foldl (fun s q => portDisable (sendLast s q (twMsg s opTwVerdict x body)) q) s1
  post (floodTwin s2 opTwVerdict body ps) 0x0B31 none (pay [(1, x), (1, originator), (4, agree), (4, disagree)])

theorem verdict_new {s : State} {x originator cold agree disagree : Nat} (hother : x ≠ ownIdent s)
    (hnew : s.twin.quarantine.has x = false) :
    verdict ap s x originator cold agree disagree =
      if x = twinIdent s then verdictOnTwin ap (verdictNoted s x originator cold agree disagree)
      else verdictOnOther (verdictNoted s x originator cold agree disagree) x :=
  (if_neg hother).trans (if_neg (Bool.eq_false_iff.mp hnew))

theorem twSuspect_answers (s : State) (p : Nat) (n : Msg) :
    twSuspect s p n = emit s p (twMsg s opTwConfirm (n.fld 8 7) (pack [(8, n.fld 0 7), (8, n.fld 8 8), (32, n.fld 16 32),
      (2, if (neighbours s).contains (n.fld 0 7) = false then 0
        else if 5 ≤ (s.twin.neigh.getD (n.fld 0 7) {}).missed then 1 else 2),
      (6, 0), (8, min 255 (s.twin.neigh.getD (n.fld 0 7) {}).missed)])) := by
  simp only [twSuspect, Bool.not_eq_true']

/-- A side that has counted an answer to its present question (R322). -/
def answerNoted (s : State) (who : Nat) (n : Msg) : State :=
  let k := s.twin.neigh.getD (n.fld 0 7) {}
  s.onTwin (fun t => { t with neigh := t.neigh.put (n.fld 0 7) { k with
    agree := (if n.fld 48 2 = 1 then who :: k.agree else k.agree).dedup
    disagree := (if n.fld 48 2 = 2 then who :: k.disagree else k.disagree).dedup
    answers := k.answers + 1 } })

theorem twConfirm_counted {s : State} {p who : Nat} {n : Msg} (hwho : peerOn s p = some who) (hid : n.fld 8 7 = ownIdent s)
    (hask : (s.twin.neigh.getD (n.fld 0 7) {}).ask = some (n.fld 16 32)) :
    twConfirm ap s p n =
      (let k := s.twin.neigh.getD (n.fld 0 7) {}
       let agree := (if n.fld 48 2 = 1 then who :: k.agree else k.agree).dedup
       let disagree := (if n.fld 48 2 = 2 then who :: k.disagree else k.disagree).dedup
       if 2 ≤ agree.length then
         verdict ap (answerNoted s who n) (n.fld 0 7) (ownIdent s) (s.twin.peerCold.getD (n.fld 0 7) 0) agree.length disagree.length
       else answerNoted s who n) := by
  simp only [twConfirm, hwho]
  exact if_pos ⟨hid, hask⟩

theorem twConfirm_ignored {s : State} {p : Nat} {n : Msg}
    (h : peerOn s p = none ∨ n.fld 8 7 ≠ ownIdent s ∨ (s.twin.neigh.getD (n.fld 0 7) {}).ask ≠ some (n.fld 16 32)) :
    twConfirm ap s p n = s := by
  unfold twConfirm
  cases hwho : peerOn s p with
  | none => rfl
  | some who =>
    refine if_neg fun ⟨hid, hask⟩ => ?_
    rcases h with h | h | h
    · rw [hwho] at h
      cases h
    · exact h hid
    · exact h hask

theorem twServing_known {s : State} {p e : Nat} {n : Msg} (he : s.twin.servingEpoch.get? (n.fld 0 7 % 64) = some e)
    (hold : reached e (n.fld 8 32) = true) : twServing s p n = s := by
  simp only [twServing, he, hold, if_true]

theorem twServing_new {s : State} {p : Nat} {n : Msg}
    (hnew : ∀ e, s.twin.servingEpoch.get? (n.fld 0 7 % 64) = some e → reached e (n.fld 8 32) = false) :
    twServing s p n = floodTwin (s.onTwin (fun t => { t with
      servingOf := t.servingOf.put (n.fld 0 7 % 64) (n.fld 0 7 / 64)
      servingEpoch := t.servingEpoch.put (n.fld 0 7 % 64) (n.fld 8 32)
      takeover := t.takeover.del (n.fld 0 7 % 64), lostPairs := t.lostPairs.filter (fun x => decide (x ≠ n.fld 0 7 % 64)) }))
      opTwServing (pack [(8, n.fld 0 7), (32, n.fld 8 32)]) [p] := by
  unfold twServing
  cases he : s.twin.servingEpoch.get? (n.fld 0 7 % 64) with
  | none => simp only [he, Bool.false_eq_true, if_false]
  | some e => simp only [he, hnew e he, Bool.false_eq_true, if_false]

/-- Settles O51. -/
theorem twinVerdictsRun : Obligations.TwinVerdictsRun := by
  refine fun s p m => ⟨fun h => ?_, fun h => ?_, fun h => ?_, fun h => ?_⟩
  · obtain ⟨-, -, hr⟩ := id h
    exact exec_twin rfl h rfl ((twinHere_suspect hr rfl).trans (twSuspect_answers s p _))
  · obtain ⟨-, -, hr⟩ := id h
    have hconfirm {t : State} (heff : twConfirm ap s p (m.withOp opTwConfirm).heard = t) :
        exec (.twConfirm p m) s = .next (after s t) := exec_twin rfl h rfl ((twinHere_confirm hr rfl).trans heff)
    refine ⟨fun who hwho hid hask => ⟨fun hmany => ?_, fun hfew => ?_⟩, fun hno => ?_⟩
    · exact hconfirm ((twConfirm_counted hwho hid hask).trans (if_pos hmany))
    · exact hconfirm ((twConfirm_counted hwho hid hask).trans (if_neg (Nat.not_le.mpr hfew)))
    · exact hconfirm (twConfirm_ignored hno)
  · obtain ⟨-, -, hr⟩ := id h
    have hverdict {t : State} (heff : twVerdict ap s (m.withOp opTwVerdict).heard = t) :
        exec (.twVerdict p m) s = .next (after s t) := exec_twin rfl h rfl ((twinHere_verdict hr rfl).trans heff)
    refine ⟨fun hown => ?_, fun hother hknown => ?_, fun hother hnew => ⟨fun htwin => ?_, fun htwin => ?_⟩⟩
    · exact hverdict (if_pos hown)
    · exact hverdict ((if_neg hother).trans (if_pos hknown))
    · exact hverdict ((verdict_new hother hnew).trans (if_pos htwin))
    · exact hverdict ((verdict_new hother hnew).trans (if_neg htwin))
  · obtain ⟨-, -, hr⟩ := id h
    have hserving {t : State} (heff : twServing s p (m.withOp opTwServing).heard = t) :
        exec (.twServing p m) s = .next (after s t) := exec_twin rfl h rfl ((twinHere_serving hr rfl).trans heff)
    exact ⟨fun e he hold => hserving (twServing_known he hold), fun hnew => hserving (twServing_new hnew)⟩

/-! ## Detaching and catching up -/

theorem twDetachRequest_mirror {s : State} (hsync : s.twin.pair = psSync) (hmirror : s.twin.serving = false) :
    twDetachRequest s = setPair ((discardMirrored
      (sendTwin s opTwDetach (twinIdent s) (pack [(2, 1), (6, 0), (8, ownIdent s)]))).onTwin
        (fun t => { t with inbox := [], applied := 0, twinTags := none })) psDetached false :=
  if_pos ⟨hsync, guard_holds hmirror⟩

theorem twDetachRequest_detached {s : State} (hdetached : s.twin.pair = psDetached) :
    twDetachRequest s = sendTwin s opTwDetach (twinIdent s) (pack [(2, 1), (6, 0), (8, ownIdent s)]) := by
  have hsync : ¬ (s.twin.pair = psSync ∧ (!s.twin.serving) = true) := by
    rintro ⟨hsync, -⟩
    exact absurd (hdetached.symm.trans hsync) (by decide)
  exact (if_neg hsync).trans (if_pos hdetached)

theorem twDetachRequest_other {s : State} (hside : s.twin.pair ≠ psSync ∨ s.twin.serving = true)
    (hattached : s.twin.pair ≠ psDetached) :
    twDetachRequest s = if servesHere s = true then
      sendTwin s opTwDetach (twinIdent s) (pack [(2, 2), (6, 0), (8, ownIdent s)]) else s :=
  (if_neg fun ⟨hsync, hmirror⟩ => hside.elim (· hsync) fun h => guard_fails h hmirror).trans (if_neg hattached)

theorem twCatchupStart_receives {s : State} {n : Msg}
    (h : mayPair s = true ∨ s.twin.pair = psDetached ∨ s.twin.pair = psRecv) :
    twCatchupStart s n = setObj (setObj ((setPair (tagWarning s) psRecv false).onTwin (fun t => { t with
      applied := if s.twin.pair = psRecv then t.applied else 0
      inbox := if s.twin.pair = psRecv then t.inbox else []
      copyStart := s.now, peerEpoch := none })) 0x2B0301 0 0) 0x2B0302 0 (n.fld 72 64) := by
  simp only [twCatchupStart, h, if_true, decide_eq_true_eq]

theorem twCatchupDone_completes {s : State} {n : Msg} (hrecv : s.twin.pair = psRecv) (hinbox : s.twin.inbox = []) :
    twCatchupDone s n =
      inSyncEvent ((setPair s psSync false).onTwin (fun t => { t with epoch := n.fld 8 64 })) (1 - s.twin.side) :=
  if_pos ⟨hrecv, List.isEmpty_iff.mpr hinbox⟩

theorem twCatchupDone_ignored {s : State} {n : Msg} (h : s.twin.pair ≠ psRecv ∨ s.twin.inbox ≠ []) : twCatchupDone s n = s :=
  if_neg fun ⟨hrecv, hempty⟩ => h.elim (· hrecv) (· (List.isEmpty_iff.mp hempty))

theorem twCatchupAbort_receiving {s : State} (hrecv : s.twin.pair = psRecv) : twCatchupAbort ap s = endReceiving s := by
  have hsend : s.twin.pair ≠ psSend := by rw [hrecv]; decide
  exact (if_neg hsend).trans (if_pos hrecv)

/-- Settles O52. -/
theorem twinCatchupRuns : Obligations.TwinCatchupRuns := by
  refine fun s p m => ⟨fun h => ?_, fun h => ?_, fun h => ?_, fun h => ?_, fun h => ?_, fun h => ?_, fun h => ?_⟩
  · obtain ⟨-, -, hr⟩ := id h
    have hrequest {t : State} (heff : twDetachRequest s = t) : exec (.twDetachRequest p m) s = .next (after s t) :=
      exec_twin rfl h rfl ((twinHere_detachRequest hr rfl (step_heard m _ 0 (.inl rfl) (by decide))).trans heff)
    refine ⟨fun hsync hmirror => ?_, fun hdetached => ?_, fun hside hattached => ⟨fun hserves => ?_, fun hserves => ?_⟩⟩
    · exact hrequest (twDetachRequest_mirror hsync hmirror)
    · exact hrequest (twDetachRequest_detached hdetached)
    · exact hrequest ((twDetachRequest_other hside hattached).trans (if_pos hserves))
    · exact hrequest ((twDetachRequest_other hside hattached).trans (if_neg (Bool.eq_false_iff.mp hserves)))
  · obtain ⟨-, -, hr⟩ := id h
    have hconfirm {t : State} (heff : twDetachConfirm ap s = t) : exec (.twDetachConfirm p m) s = .next (after s t) :=
      exec_twin rfl h rfl ((twinHere_detachConfirm hr rfl (step_heard m _ 1 (.inl rfl) (by decide))).trans heff)
    exact ⟨fun hholding => hconfirm (if_pos hholding), fun hholding => hconfirm (if_neg hholding)⟩
  · obtain ⟨-, -, hr⟩ := id h
    exact exec_twin rfl h rfl (twinHere_detachRefuse hr rfl (step_heard m _ 2 (.inl rfl) (by decide)))
  · obtain ⟨-, -, hr⟩ := id h
    have hepoch {t : State} (heff : twCatchupEpoch s (m.withStep opTwCatchup 0).heard = t) :
        exec (.twCatchupEpoch p m) s = .next (after s t) :=
      exec_twin rfl h rfl ((twinHere_catchupEpoch hr rfl (step_heard m _ 0 (.inr rfl) (by decide))).trans heff)
    exact ⟨fun hunpaired henabled => hepoch (if_pos ⟨hunpaired, henabled⟩),
      fun hno => hepoch (if_neg fun ⟨hunpaired, henabled⟩ => hno.elim (· hunpaired) (· henabled))⟩
  · obtain ⟨-, -, hr⟩ := id h
    have hstart {t : State} (heff : twCatchupStart s (m.withStep opTwCatchup 1).heard = t) :
        exec (.twCatchupStart p m) s = .next (after s t) :=
      exec_twin rfl h rfl ((twinHere_catchupStart hr rfl (step_heard m _ 1 (.inr rfl) (by decide))).trans heff)
    refine ⟨fun hmay => hstart (twCatchupStart_receives hmay), fun hmay hattached hrecv => hstart (if_neg ?_)⟩
    rintro (h | h | h)
    · exact Bool.eq_false_iff.mp hmay h
    · exact hattached h
    · exact hrecv h
  · obtain ⟨-, -, hr⟩ := id h
    have hdone {t : State} (heff : twCatchupDone s (m.withStep opTwCatchup 2).heard = t) :
        exec (.twCatchupDone p m) s = .next (after s t) :=
      exec_twin rfl h rfl ((twinHere_catchupDone hr rfl (step_heard m _ 2 (.inr rfl) (by decide))).trans heff)
    exact ⟨fun hrecv hinbox => hdone (twCatchupDone_completes hrecv hinbox), fun hno => hdone (twCatchupDone_ignored hno)⟩
  · obtain ⟨-, -, hr⟩ := id h
    have habort {t : State} (heff : twCatchupAbort ap s = t) : exec (.twCatchupAbort p m) s = .next (after s t) :=
      exec_twin rfl h rfl ((twinHere_catchupAbort hr rfl (step_heard m _ 3 (.inr rfl) (by decide))).trans heff)
    exact ⟨fun hsend => habort (if_pos hsend), fun hrecv => habort (twCatchupAbort_receiving hrecv),
      fun hsend hrecv => habort ((if_neg hsend).trans (if_neg hrecv))⟩

end Sys2Proof.Proofs.TwinMessages

/-! # Legs of the compute cores (R163, R174-R196) -/
namespace Sys2Proof.Proofs.Legs

open Sys2Proof Sys2Proof.Machine Sys2Proof.Proofs.Outcomes

/-- A command that issues a core's leg has the leg's effect, from the state in which it has issued. -/
theorem leg_run {s t : State} {c kind comp : Nat} {g : State → State} {f : State → Nat → Core → Nat → List LRange → State}
    (h : Issues s c kind comp) (hleg : g s = issueLeg s c kind f)
    (heff : f (issued s c) comp (issuing s c) (legNow s c) (rangesNow s c comp) = t) :
    done s (running s g) = .next (after s t) :=
  next_of_running h.1 (hleg.trans ((issueLeg_issued s c kind comp f h).trans heff))

theorem gatherOk_iff {v : Nat} : gatherOk v = true ↔
    tileDescOk v = true ∧ (TileDesc.ofNat v).swizzle = 0 ∧ (TileDesc.ofNat v).codec = 0 ∧ (TileDesc.ofNat v).rowBytes % 32 = 0 ∧
      (TileDesc.ofNat v).rowBytes * 8 = (TileDesc.ofNat v).cols * formatBits (TileDesc.ofNat v).format := by
  simp only [gatherOk, Bool.and_eq_true, decide_eq_true_eq, and_assoc]

/-- The launch for which a core ends its leg, with the core among those that are done. -/
theorem endLeg_effect {s : State} {c q : Nat} {rest : List Nat} {l : Launch} (hdone : legsDone s c = true)
    (hqueue : (coreOf (issued s c) c).queue = q :: rest) (hlaunch : launchOf (issued s c) q = some l) {comp : Nat}
    (h : Issues s c 0 comp) :
    endLeg s c = if (launchCores (issued s c) l).all (fun x => (l.done ++ [c]).contains x) = true then
        (let d := (itinOf (issued s c) l.itin).desc
         let s1 := addStat (issued s c) 0x282003 0 1
         let s2 := if itDoneNotify d then trigger s1 l.comp (itDoneVec d) else s1
         popLaunch (dropLaunch s2 q { l with done := l.done ++ [c] }) c)
      else popLaunch (putLaunch (issued s c) q { l with done := l.done ++ [c] }) c := by
  refine (if_pos hdone).trans ((issueLeg_issued s c 0 comp _ h).trans ?_)
  simp only [hqueue, hlaunch]
  rfl

/-- Settles O53. -/
theorem legsRun : Obligations.LegsRun := by
  refine fun s c comp => ⟨fun h => ?_, fun h => ?_, fun h => ?_, fun h => ?_, fun h => ?_, fun h => ?_, fun h => ?_,
    fun q rest x h hdone hqueue hlaunch => ?_, fun h => ?_, fun h => ?_, fun q rest l h hdone hqueue hlaunch hothers => ?_,
    fun q rest l h hdone hqueue hlaunch hall => ?_, fun d t hclock hwaiting => ?_⟩
  · exact leg_run h rfl rfl
  · exact leg_run h rfl (by simp only [gatherOk_iff])
  · exact leg_run h rfl (by simp only [Bool.and_eq_true, Bool.not_eq_true'])
  · exact leg_run h rfl rfl
  · exact leg_run h rfl rfl
  · exact leg_run h rfl rfl
  · exact leg_run h rfl rfl
  · exact leg_run h (if_pos hdone) (by simp only [hqueue, hlaunch])
  · exact leg_run h rfl rfl
  · exact leg_run h rfl rfl
  · exact next_of_running h.1 ((endLeg_effect hdone hqueue hlaunch h).trans (if_neg (Bool.eq_false_iff.mp hothers)))
  · exact next_of_running h.1 ((endLeg_effect hdone hqueue hlaunch h).trans (if_pos hall))
  · exact next_of_timed hclock (by simp only [awaitTimeout, hwaiting])

end Sys2Proof.Proofs.Legs

/-! # Requests on lines (R36, R45-R47, R67, R68) -/
namespace Sys2Proof.Proofs.LineRequests

open Sys2Proof Sys2Proof.Machine Sys2Proof.Proofs.StepAndQueue Sys2Proof.Proofs.Outcomes Sys2Proof.Proofs.TwinMessages

/-! ## At the home -/

/-- Whether a message returns a line: a write-back or a clean eviction (R67). -/
def returnsLine (n : Msg) : Bool := n.opcode == opWbDirty || n.opcode == opEvictClean

theorem returnsLine_iff {n : Msg} : returnsLine n = true ↔ n.opcode = opWbDirty ∨ n.opcode = opEvictClean := by
  simp only [returnsLine, Bool.or_eq_true, beq_iff_eq]

theorem opcode_ne_of_isAddressed {n : Msg} (haddressed : n.isAddressed = true) {op : Nat}
    (hop : Msg.isAddressed { n with opcode := op } = false) : n.opcode ≠ op := by
  rintro rfl
  exact Bool.eq_false_iff.mp hop haddressed

/-- A host's request on a line that this ZX964 homes and serves has the effect of its admission at the home. -/
theorem exec_atHome {s t : State} {c : Instr} {p : Nat} {m : Msg} (hc : c.carried = some (p, m)) (hadmits : Admits s p m.heard)
    (hhome : HomesLine (onWay s p m.heard) m.heard.line) (haddressed : m.heard.isAddressed = true)
    (heff : admitAtHome (onWay s p m.heard) { m := m.heard, port := some p } = t) : exec c s = .next (after s t) := by
  have hother {op : Nat} : Msg.isAddressed { m.heard with opcode := op } = false → m.heard.opcode ≠ op :=
    opcode_ne_of_isAddressed haddressed
  refine exec_received hc ((receive_admitted s p m m.heard rfl hadmits (hother rfl)).trans ?_)
  exact (go_line _ p m.heard hhome haddressed (host_of_admits s p m.heard hadmits) (hother rfl) (hother rfl)).trans heff

/-- A host's request that begins its line's transaction. -/
theorem exec_begins {s v : State} {r : Req} {c : Instr} {p : Nat} {m : Msg} (hc : c.carried = some (p, m))
    (h : Begins s p m.heard v r) (haddressed : m.heard.isAddressed = true) (hkeeps : returnsLine m.heard = false) :
    exec c s = .next (after s (enqueue v m.line (.ops [r]))) := by
  have hother {op : Nat} : Msg.isAddressed { m.heard with opcode := op } = false → m.heard.opcode ≠ op :=
    opcode_ne_of_isAddressed haddressed
  exact exec_received hc
    (receive_begins s p m m.heard rfl v r h haddressed (hother rfl) (hother rfl) (hother rfl)
      (fun h => Bool.eq_false_iff.mp hkeeps (returnsLine_iff.mpr (.inl h)))
      (fun h => Bool.eq_false_iff.mp hkeeps (returnsLine_iff.mpr (.inr h))))

section
variable {u : State} {p : Nat} {n : Msg}

/-- A request that is no return of a line meets the merge table (R45). -/
theorem admitAtHome_merges (hkeeps : returnsLine n = false) :
    admitAtHome u { m := n, port := some p } = mergeLookup (atHome u) (homeReq u p n) := by
  have hreturn : ¬ (n.opcode = opWbDirty ∨ n.opcode = opEvictClean) := fun h =>
    Bool.eq_false_iff.mp hkeeps (returnsLine_iff.mpr h)
  exact (if_neg fun h => hreturn h.1).trans (if_neg hreturn)

/-- A return of a line outside every aperture goes to the home behind the line's group (R47). -/
theorem admitAtHome_returns (hreturns : returnsLine n = true)
    (hnone : apertureAt (atHome u) n.line = none) :
    admitAtHome u { m := n, port := some p } = hostLineAtHome (closeLine (atHome u) n.line) (homeReq u p n) := by
  have hplain : ¬ (apertureAt (atHome u) n.line).isSome = true := by
    rw [hnone]
    exact Bool.false_ne_true
  exact (if_neg fun h => hplain h.2).trans (if_pos (returnsLine_iff.mp hreturns))

/-! ## The merge table -/

theorem mergeLookup_opens (hnone : u.home.groups.find? (fun g => decide (g.line = n.line)) = none)
    (hmay : mayOpen (atHome u) n (quadrantOf (atHome u) n.composition (tileOf n.line)) = true) :
    mergeLookup (atHome u) (homeReq u p n) = (atHome u).onHome (fun h => { h with groups := h.groups ++
      [{ line := n.line, opcode := n.opcode, comp := n.composition, word := n.word, aop := n.aop, reqs := [homeReq u p n],
         opened := u.now, hold := cfg (atHome u) 0x220001, closeAt := u.now + holdNs (atHome u),
         quadrant := quadrantOf (atHome u) n.composition (tileOf n.line) }] }) := by
  have hlookup : mergeLookup (atHome u) (homeReq u p n) = openGroup (atHome u) (homeReq u p n) := by
    have hnone' : (atHome u).home.groups.find? (fun g => decide (g.line = (homeReq u p n).m.line)) = none := hnone
    simp only [mergeLookup, hnone']
  exact hlookup.trans (if_pos hmay)

theorem mergeLookup_joins {g : MGroup} (hgroup : u.home.groups.find? (fun g => decide (g.line = n.line)) = some g)
    (hjoins : joins (atHome u) g n = true) :
    mergeLookup (atHome u) (homeReq u p n) =
      if cfg (atHome u) 0x220003 ≤ g.reqs.length + 1 then
        groupToHome ((atHome u).onHome (fun h => { h with groups := eraseFirst h.groups (fun x => decide (x = g)) }))
          (g.reqs ++ [homeReq u p n])
      else (atHome u).onHome (fun h => { h with
        groups := updFirst h.groups (fun x => decide (x = g)) (fun _ => { g with reqs := g.reqs ++ [homeReq u p n] }) }) := by
  have hgroup' : (atHome u).home.groups.find? (fun g => decide (g.line = (homeReq u p n).m.line)) = some g := hgroup
  have hjoins' : joins (atHome u) g (homeReq u p n).m = true := hjoins
  simp only [mergeLookup, hgroup', hjoins', if_true, List.length_append, List.length_singleton]

end

/-! ## Write-backs and clean evictions -/

section
variable {v : State} {r : Req} (hcheck : checkRequester v r = none) (hversion : versionAt v r.m.line = none)
include hcheck hversion

theorem hostLineAtHome_begins (hidle : v.home.txns.get? r.m.line = none) :
    hostLineAtHome v r = beginWork v r.m.line (.ops [r]) := by
  simp only [hostLineAtHome, hcheck, hversion, hidle, Option.isSome_none, Bool.false_eq_true, if_false]

theorem hostLineAtHome_snooped {t : Txn} (hbusy : v.home.txns.get? r.m.line = some t)
    (htarget : t.targets.contains (peerHost r.m.peer) = true) :
    hostLineAtHome v r = if r.m.opcode = opWbDirty then wbSnooped v t r else evictEffect v r := by
  simp only [hostLineAtHome, hcheck, hversion, hbusy, htarget, Option.isSome_none, Bool.false_eq_true, if_false, if_true]

theorem hostLineAtHome_waits {t : Txn} (hbusy : v.home.txns.get? r.m.line = some t)
    (htarget : t.targets.contains (peerHost r.m.peer) = false) :
    hostLineAtHome v r = enqueue v r.m.line (.ops [r]) := by
  simp only [hostLineAtHome, hcheck, hversion, hbusy, htarget, Option.isSome_none, Bool.false_eq_true, if_false]

end

theorem beginWork_evicts {v : State} {r : Req} {line : Nat} (hop : r.m.opcode = opEvictClean) :
    beginWork v line (.ops [r]) = evictEffect v r := if_pos hop

theorem beginWork_owned {v : State} {r : Req} {line : Nat} (hop : r.m.opcode = opWbDirty) (howns : ownsLine v r = true) :
    beginWork v line (.ops [r]) = beginTxn v line (.ops [r]) := by
  have hevict : r.m.opcode ≠ opEvictClean := by rw [hop]; decide
  exact (if_neg hevict).trans (if_neg fun h => guard_fails howns h.2)

theorem beginWork_notOwned {v : State} {r : Req} {line : Nat} (hop : r.m.opcode = opWbDirty) (howns : ownsLine v r = false) :
    beginWork v line (.ops [r]) = refuseReq v r stDenied dNotOwner := by
  have hevict : r.m.opcode ≠ opEvictClean := by rw [hop]; decide
  exact (if_neg hevict).trans (if_pos ⟨hop, guard_holds howns⟩)

/-- A host's return of a line outside every aperture has its effect at the home, behind the line's group (R47). -/
theorem exec_returned {s t : State} {c : Instr} {p : Nat} {m : Msg} (hc : c.carried = some (p, m)) (hadmits : Admits s p m.heard)
    (hhome : HomesLine (onWay s p m.heard) m.line) (haddressed : m.heard.isAddressed = true)
    (hreturns : returnsLine m.heard = true) (hplain : apertureAt (atHome (onWay s p m.heard)) m.line = none)
    (heff : hostLineAtHome (closeLine (atHome (onWay s p m.heard)) m.line) (homeReq (onWay s p m.heard) p m.heard) = t) :
    exec c s = .next (after s t) :=
  exec_atHome hc hadmits hhome haddressed
    ((admitAtHome_returns (u := onWay s p m.heard) (n := m.heard) hreturns hplain).trans heff)

/-- Settles O47. -/
theorem lineRequestsRun : Obligations.LineRequestsRun := by
  refine fun s p m => ⟨fun v r h => ?_, fun v r h => ?_, fun v r h => ?_, fun v r h => ?_, fun v r h => ?_, fun v r h => ?_,
    fun op c hrow hadmits hhome => ?_, fun hadmits hhome hplain hcheck hversion => ?_,
    fun hadmits hhome hplain hcheck hversion => ?_⟩
  · exact exec_begins (m := m.withOp opRdShared) rfl h rfl rfl
  · exact exec_begins (m := m.withOp opRdOwn) rfl h rfl rfl
  · exact exec_begins (m := m.withOp opRdNc) rfl h rfl rfl
  · exact exec_begins (m := m.withOp opWrNc) rfl h rfl rfl
  · exact exec_begins (m := m.withOp opWrStash) rfl h rfl rfl
  · exact exec_begins (m := m.withOp opAtomic) rfl h rfl rfl
  · have hmerges {t : State} (heff : mergeLookup (atHome (onWay s p (m.withOp op).heard))
        (homeReq (onWay s p (m.withOp op).heard) p (m.withOp op).heard) = t) : exec c s = .next (after s t) := by
      rcases hrow with ⟨rfl, rfl⟩ | ⟨rfl, rfl⟩ | ⟨rfl, rfl⟩
      · exact exec_atHome rfl hadmits hhome rfl ((admitAtHome_merges rfl).trans heff)
      · exact exec_atHome rfl hadmits hhome rfl ((admitAtHome_merges rfl).trans heff)
      · exact exec_atHome rfl hadmits hhome rfl ((admitAtHome_merges rfl).trans heff)
    refine ⟨fun hnone hmay => ?_, fun g hgroup hjoins => ⟨fun hroom => ?_, fun hfull => ?_⟩⟩
    · exact hmerges (mergeLookup_opens (n := (m.withOp op).heard) hnone hmay)
    · exact hmerges ((mergeLookup_joins (n := (m.withOp op).heard) hgroup hjoins).trans (if_neg (Nat.not_le.mpr hroom)))
    · exact hmerges ((mergeLookup_joins (n := (m.withOp op).heard) hgroup hjoins).trans (if_pos hfull))
  · have hreturns {t : State} : _ = t → exec (.wbDirty p m) s = .next (after s t) :=
      exec_returned (m := m.withOp opWbDirty) rfl hadmits hhome rfl rfl hplain
    refine ⟨fun hidle => ⟨fun howns => ?_, fun howns => ?_⟩, fun t hbusy => ⟨fun htarget => ?_, fun htarget => ?_⟩⟩
    · exact hreturns ((hostLineAtHome_begins hcheck hversion hidle).trans (beginWork_owned rfl howns))
    · exact hreturns ((hostLineAtHome_begins hcheck hversion hidle).trans (beginWork_notOwned rfl howns))
    · exact hreturns ((hostLineAtHome_snooped hcheck hversion hbusy htarget).trans (if_pos rfl))
    · exact hreturns (hostLineAtHome_waits hcheck hversion hbusy htarget)
  · have hreturns {t : State} : _ = t → exec (.evictClean p m) s = .next (after s t) :=
      exec_returned (m := m.withOp opEvictClean) rfl hadmits hhome rfl rfl hplain
    refine ⟨?_, fun t hbusy htarget => ?_⟩
    · rintro (hidle | ⟨t, hbusy, htarget⟩)
      · exact hreturns ((hostLineAtHome_begins hcheck hversion hidle).trans (beginWork_evicts rfl))
      · exact hreturns ((hostLineAtHome_snooped hcheck hversion hbusy htarget).trans
          (if_neg (show ¬ opEvictClean = opWbDirty by decide)))
    · exact hreturns (hostLineAtHome_waits hcheck hversion hbusy htarget)

end Sys2Proof.Proofs.LineRequests

/-! # Fences, milestones, snoops and answers (R39-R43, R63, R64, R69, R93, R97) -/
namespace Sys2Proof.Proofs.FencesAndAnswers

open Sys2Proof Sys2Proof.Machine Sys2Proof.Proofs.Outcomes Sys2Proof.Proofs.TwinMessages

/-! ## Fences -/

theorem policeTake_fences (s : State) (h c : Nat) : (policeTake s h c).2.tm.fences = s.tm.fences := by
  unfold policeTake
  split
  · dsimp only
    split <;> rfl
  · rfl

theorem policeTake_hostReqs (s : State) (h c : Nat) : (policeTake s h c).2.tm.hostReqs = s.tm.hostReqs := by
  unfold policeTake
  split
  · dsimp only
    split <;> rfl
  · rfl

theorem bucketCharge_fences (s : State) (h : Nat) (m : Msg) : (bucketCharge s h m).tm.fences = s.tm.fences := by
  unfold bucketCharge
  split <;> rfl

/-- A fence on its way is noted with what its port has outstanding when it is received (R39). -/
theorem onWay_fences {s : State} {p : Nat} {n : Msg} (hop : n.opcode = opFence)
    (hroom : (s.tm.fences.filter (fun f => decide (f.host = peerHost n.peer))).length < 4) :
    (onWay s p n).tm.fences = s.tm.fences ++ [{
      host := peerHost n.peer, m := n, port := p, admitted := false
      covers := (s.tm.hostReqs.filter (fun r => decide (r.host = peerHost n.peer) && decide (r.port = p) &&
        (n.scopeAll || decide (r.dest = n.fenceDest)))).map HostReq.seq }] := by
  have hpoliced : hostAnswer n = false := by simp only [hostAnswer, hop]; rfl
  calc (onWay s p n).tm.fences
      = (bucketCharge (openReq (policeTake s (peerHost n.peer) n.tc).2 p n) (peerHost n.peer) n).tm.fences := by
        simp only [onWay, hpoliced, Bool.false_eq_true, if_false]
        rfl
    _ = (fenceReceived (policeTake s (peerHost n.peer) n.tc).2 p n).tm.fences := by
        rw [bucketCharge_fences, openReq, if_pos hop]
    _ = _ := by
        simp only [fenceReceived, policeTake_fences, policeTake_hostReqs, ge_iff_le, Nat.not_le.mpr hroom, if_false, State.onTm]

theorem exec_fence {s t : State} {p : Nat} {m : Msg} (h : Admits s p (m.withOp opFence).heard)
    (hpair : (onWay s p (m.withOp opFence).heard).twin.pair ≠ psQuarantined)
    (heff : fenceEffect (onWay s p (m.withOp opFence).heard) p (m.withOp opFence).heard = t) :
    exec (.fence p m) s = .next (after s t) := by
  refine exec_received (m := m.withOp opFence) rfl ((receive_admitted s p _ _ rfl h (show opFence ≠ opEmpty by decide)).trans ?_)
  exact (if_neg hpair).trans ((if_pos rfl).trans heff)

/-! ## Messages of the fabric -/

section
variable {s : State} {p : Nat} {n : Msg} (hport : FabricPort s p) (hform : badForm n = none)
include hport hform

theorem fabricMessage_milestone (hop : n.opcode = opMilestone) : fabricMessage s p n = milestoneEffect s p n := by
  obtain ⟨-, -, -, hpair, hfrom⟩ := hport
  have hplain : n.isTwin = false := by rw [Msg.isTwin, hop]; rfl
  simp [fabricMessage, hplain, hop, hform, hpair, hfrom]

theorem fabricMessage_snoop (hop : n.opcode = opSnpInv ∨ n.opcode = opSnpShare ∨ n.opcode = opStashFill) :
    fabricMessage s p n = toHost s (peerHost n.peer) n := by
  obtain ⟨-, -, -, hpair, hfrom⟩ := hport
  have hplain : n.isTwin = false := by rcases hop with hop | hop | hop <;> rw [Msg.isTwin, hop] <;> rfl
  rcases hop with hop | hop | hop
  · simp [fabricMessage, hplain, hop, hform, hpair, hfrom]
  · simp [fabricMessage, hplain, hop, hform, hpair, hfrom]
  · simp [fabricMessage, hplain, hop, hform, hpair, hfrom]

theorem fabricMessage_snpResp (hop : n.opcode = opSnpResp) : fabricMessage s p n = routeSnoop s p n := by
  obtain ⟨-, -, -, hpair, hfrom⟩ := hport
  have hplain : n.isTwin = false := by rw [Msg.isTwin, hop]; rfl
  simp [fabricMessage, hplain, hop, hform, hpair, hfrom]

end

theorem fabricMessage_resp {s : State} {p : Nat} {n : Msg} (hport : FabricPort s p) (hop : n.opcode = opResp) :
    fabricMessage s p n = respMessage s p n := by
  obtain ⟨-, -, -, hpair, hfrom⟩ := hport
  have hplain : n.isTwin = false := by rw [Msg.isTwin, hop]; rfl
  simp [fabricMessage, hplain, hop, hpair, hfrom]

/-- A message of the fabric has the effect of its rule there. -/
theorem exec_fabric {s t : State} {c : Instr} {p : Nat} {m : Msg} (hc : c.carried = some (p, m)) (hport : FabricPort s p)
    (heff : fabricMessage s p m.heard = t) : exec c s = .next (after s t) :=
  exec_received hc ((receive_fabric s p m m.heard rfl hport).trans heff)

theorem toHost_bound {s : State} {h q : Nat} {n : Msg} (hq : hostPort s h = some q) : toHost s h n = emit s q n := by
  simp only [toHost, hq]

/-! ## Answers to snoops -/

theorem routeSnoop_home {s : State} {p : Nat} {n : Msg} (hhome : homePair s n.line = some (ownPair s))
    (hserves : servesHere s = true) : routeSnoop s p n = snpRespAtHome s n := by
  simp only [routeSnoop, hhome, hserves, and_self, if_true]

/-- An answer to a snoop that its line's transaction waits for (R69, R75). -/
theorem snpRespAtHome_awaited {s : State} {n : Msg} {t : Txn} (hheard : answersIgnored s n.line = false)
    (hintime : s.home.timedOut.contains (n.line, peerHost n.peer, n.tag) = false) (hbusy : s.home.txns.get? n.line = some t)
    (hasked : t.snoops.any (fun x => decide (x.host = peerHost n.peer) && decide (x.tag = n.tag)) = true) :
    snpRespAtHome s n =
      if t.state = .stashing then
        (if n.snpResult = 4 then stashAnswered s n.line (peerHost n.peer) true
         else stashAnswered (addStat s 0x243003 0 1) n.line (peerHost n.peer) false)
      else snoopAnswered s n.line (peerHost n.peer) t
        (if n.snpResult = 2 then some (n.lineData, n.poison) else if n.poison = true then some (0, true) else none) := by
  simp only [snpRespAtHome, hheard, hintime, hbusy, hasked, Bool.false_eq_true, if_false, if_true]

/-! ## Responses -/

theorem respMessage_attached {s : State} {p : Nat} {n : Msg} (hhost : peerIsAgent n.peer = false)
    (hattached : attached s (peerHost n.peer) = true) : respMessage s p n = deliverResp s n none :=
  (if_neg (Bool.eq_false_iff.mp hhost)).trans (if_pos hattached)

/-- A response reaches the attached host whose request is outstanding (R38). -/
theorem deliverResp_host {s : State} {n : Msg} {r : HostReq} {via : Option Nat} (hhost : peerIsAgent n.peer = false)
    (hattached : attached s (peerHost n.peer) = true) (hdropped : replyDropped s n = false)
    (hlost : isLost s (peerHost n.peer) = false) (hr : hostReqOf s (peerHost n.peer) n.tag = some r) :
    deliverResp s n via =
      (let s1 := forgetSent s n.peer n.tag
       closeHostReq (emitToHost s1 (peerHost n.peer) (replyPort s1 (peerHost n.peer) r.port) n) r false false) := by
  have hdropped' : replyDropped (forgetSent s n.peer n.tag) n = false := hdropped
  have hattached' : attached (forgetSent s n.peer n.tag) (peerHost n.peer) = true := hattached
  have hlost' : isLost (forgetSent s n.peer n.tag) (peerHost n.peer) = false := hlost
  have hr' : hostReqOf (forgetSent s n.peer n.tag) (peerHost n.peer) n.tag = some r := hr
  simp only [deliverResp, hhost, hdropped', hattached', hlost', hr', Bool.false_eq_true, if_false, if_true]

/-! ## Answers of trays -/

/-- A response on a tray port is the tray's answer. -/
theorem receive_tray {s : State} {p : Nat} {m : Msg} (h : Listens s p) (hrole : portRole s p = roleTray)
    (hop : m.heard.opcode = opResp ∨ m.heard.opcode = opRespData) : receive s p m = trayAnswer s p m.heard := by
  obtain ⟨hlosing, hhalted, hkeeper, hservice, hlink⟩ := h
  have hhost : roleTray ≠ roleHost := by decide
  simp only [receive, hlosing, hhalted, hkeeper, hservice, hlink, hrole, hhost, hop, Option.isSome_none, Bool.false_eq_true,
    Bool.not_true, or_self, if_false, if_true]

section
variable {s : State} {p : Nat} {n : Msg} {r : TrayReq} (hstatus : n.status = stOk)
  (hr : s.tier.reqs.find? (fun r => decide (r.port = p) && decide (r.tag = n.tag)) = some r)
include hstatus hr

theorem trayAnswer_fill (hop : n.opcode = opRespData) (hkind : r.kind = .fill) :
    trayAnswer s p n = fillArrived ((dropTrayReq s r).onTier (fun t => { t with fails := t.fails.del p })) r.line n.lineData
      n.poison := by
  simp only [trayAnswer, hr, hstatus, hop, hkind, decide_true, Bool.true_or, Bool.and_self, if_true]

theorem trayAnswer_writeback (hop : n.opcode = opResp) (hkind : r.kind = .writeback) :
    trayAnswer s p n = writtenBack ((dropTrayReq s r).onTier (fun t => { t with fails := t.fails.del p })) r.line := by
  simp [trayAnswer, hr, hstatus, hop, hkind]

end

/-- Settles O48. -/
theorem fencesAndAnswersRun : Obligations.FencesAndAnswersRun := by
  refine fun s p m => ⟨fun h hpair => ⟨fun hroom => ?_, fun hnoted => ?_, fun hnoted => ?_⟩, fun hport hform =>
    ⟨fun hown => ?_, fun hother => ?_⟩, fun q hport hq => ⟨fun hform => ?_, fun hform => ?_, fun hform => ?_⟩,
    fun t hport hform hhome hserves hheard hintime hbusy hasked => ?_,
    fun r hport hhost hattached hdropped hlost hr => ?_, fun r hlistens hrole hstatus hkind hr => ?_,
    fun r hlistens hrole hstatus hkind hr => ?_⟩
  · exact onWay_fences rfl hroom
  · exact exec_fence h hpair (if_pos hnoted)
  · exact exec_fence h hpair (if_neg (Bool.eq_false_iff.mp hnoted))
  · exact exec_fabric rfl hport ((fabricMessage_milestone hport hform rfl).trans (if_pos hown))
  · exact exec_fabric rfl hport ((fabricMessage_milestone hport hform rfl).trans (if_neg hother))
  · exact exec_fabric rfl hport ((fabricMessage_snoop hport hform (.inl rfl)).trans (toHost_bound hq))
  · exact exec_fabric rfl hport ((fabricMessage_snoop hport hform (.inr (.inl rfl))).trans (toHost_bound hq))
  · exact exec_fabric rfl hport ((fabricMessage_snoop hport hform (.inr (.inr rfl))).trans (toHost_bound hq))
  · have hanswered {u : State} (heff : snpRespAtHome s (m.withOp opSnpResp).heard = u) :
        exec (.snpResp p m) s = .next (after s u) :=
      exec_fabric rfl hport ((fabricMessage_snpResp hport hform rfl).trans 
        ((routeSnoop_home (n := (m.withOp opSnpResp).heard) hhome hserves).trans heff))
    have hawaited := snpRespAtHome_awaited (n := (m.withOp opSnpResp).heard) hheard hintime hbusy hasked
    refine ⟨fun hstate => ?_, fun hstate hresult => ?_, fun hstate hresult => ?_⟩
    · exact hanswered (hawaited.trans (if_neg hstate))
    · exact hanswered (hawaited.trans ((if_pos hstate).trans (if_pos hresult)))
    · exact hanswered (hawaited.trans ((if_pos hstate).trans (if_neg (by rw [hresult]; decide))))
  · exact exec_fabric rfl hport ((fabricMessage_resp hport rfl).trans ((respMessage_attached hhost hattached).trans
      (deliverResp_host hhost hattached hdropped hlost hr)))
  · exact exec_received rfl ((receive_tray hlistens hrole (.inr rfl)).trans (trayAnswer_fill hstatus hr rfl hkind))
  · exact exec_received rfl ((receive_tray hlistens hrole (.inl rfl)).trans (trayAnswer_writeback hstatus hr rfl hkind))

end Sys2Proof.Proofs.FencesAndAnswers

/-! # Services (R79, R193, R195, R206-R214, R248-R250, R274, R362) -/
namespace Sys2Proof.Proofs.Services

open Sys2Proof Sys2Proof.Machine Sys2Proof.Proofs.Outcomes Sys2Proof.Proofs.TwinMessages Sys2Proof.Proofs.FencesAndAnswers

/-- A service request of a host for this ZX964 has the effect of its service. -/
theorem exec_service {s t : State} {c : Instr} {p op f : Nat} {m : Msg} (hc : c.carried = some (p, m.withFunc op f))
    (hop : op = opSearch ∨ op = opHandoff ∨ op = opDoorbell) (h : Serves s p (m.withFunc op f).heard)
    (heff : serviceAt (onWay s p (m.withFunc op f).heard) p (m.withFunc op f).heard = t) : exec c s = .next (after s t) := by
  refine exec_received hc (Eq.trans ?_ heff)
  rcases hop with rfl | rfl | rfl
  · exact receive_service s p _ _ rfl h (show opSearch ≠ opEmpty by decide) (show opSearch ≠ opFence by decide)
      (show opSearch ≠ opSnpResp by decide) rfl
  · exact receive_service s p _ _ rfl h (show opHandoff ≠ opEmpty by decide) (show opHandoff ≠ opFence by decide)
      (show opHandoff ≠ opSnpResp by decide) rfl
  · exact receive_service s p _ _ rfl h (show opDoorbell ≠ opEmpty by decide) (show opDoorbell ≠ opFence by decide)
      (show opDoorbell ≠ opSnpResp by decide) rfl

/-! ## Searches -/

section
variable {u : State} {p : Nat} {n : Msg} (hop : n.opcode = opSearch) (hallowed : searchRefusal u n = none)
include hop hallowed

theorem serviceAt_lookup (hf : n.func = 1) (hfree : searchWaits u n = false) :
    serviceAt u p n = lookupDo (noteSearch u n.composition (searchCost (partOf u (srPart n)).desc)) (some p) n := by
  have hpart : searchPart u n = srPart n := if_neg (by rw [hf]; decide)
  have hwrite : n.func ≠ 3 := by rw [hf]; decide
  have hclear : n.func ≠ 4 := by rw [hf]; decide
  simp only [serviceAt, hop, searchAt, hfree, searchRun, hallowed, hpart, Bool.false_eq_true, if_true, if_false]
  rw [if_neg hwrite, if_neg hclear, if_pos hf]

theorem serviceAt_walk (hf : n.func = 2) (hfree : searchWaits u n = false) :
    serviceAt u p n = walkDo (noteSearch u n.composition (searchCost (partOf u (searchPart u n)).desc)) (some p) n := by
  have hwrite : n.func ≠ 3 := by rw [hf]; decide
  have hclear : n.func ≠ 4 := by rw [hf]; decide
  have hlookup : n.func ≠ 1 := by rw [hf]; decide
  simp only [serviceAt, hop, searchAt, hfree, searchRun, hallowed, hwrite, hclear, hlookup, Bool.false_eq_true, if_true, if_false]

theorem serviceAt_write (hf : n.func = 3) :
    serviceAt u p n = queueUpdate u (srPart n)
      { idx := srIndex n, record := some (recordKept (partOf u (srPart n)).desc n.dataNat), source := .req n (some p) } := by
  have hpart : searchPart u n = srPart n := if_neg (by rw [hf]; decide)
  have hfree : searchWaits u n = false := by simp only [searchWaits, hf]; rfl
  simp only [serviceAt, hop, searchAt, hfree, searchRun, hallowed, hpart, hf, Bool.false_eq_true, if_true, if_false]

theorem serviceAt_clear (hf : n.func = 4) :
    serviceAt u p n = queueUpdate u (srPart n) { idx := srIndex n, source := .req n (some p) } := by
  have hwrite : n.func ≠ 3 := by rw [hf]; decide
  have hfree : searchWaits u n = false := by simp only [searchWaits, hf]; rfl
  simp only [serviceAt, hop, searchAt, hfree, searchRun, hallowed, Bool.false_eq_true, if_true, if_false]
  rw [if_neg hwrite, if_pos hf]

end

/-! ## Handoffs -/

/-- Whether a handoff comes from a host that takes part, for a record of its composition (R248 steps 1 to 5). -/
def HandoffMeets (u : State) (n : Msg) : Prop :=
  (compOf u n.composition).state ≠ 3 ∧ (compOf u n.composition).state ≠ 2 ∧ isLost u (peerHost n.peer) = false ∧
  peerIsAgent n.peer = false ∧ isMember u n.composition (peerHost n.peer) = true ∧
  (compOf u n.composition).recordBase ≤ hoRecord n ∧
  hoRecord n < (compOf u n.composition).recordBase + (compOf u n.composition).recordCount

section
variable {u : State} {p : Nat} {n : Msg} (hop : n.opcode = opHandoff)
include hop

theorem serviceAt_handoff : serviceAt u p n = handoffAt u (some p) n := by
  have hsearch : n.opcode ≠ opSearch := by rw [hop]; decide
  exact (if_neg hsearch).trans (if_pos hop)

end

theorem handoff_guards {u : State} {n : Msg} (hmeets : HandoffMeets u n) :
    (peerIsAgent n.peer || !isMember u n.composition (peerHost n.peer)) = false ∧
    ¬ (hoRecord n < (compOf u n.composition).recordBase ∨
      (compOf u n.composition).recordBase + (compOf u n.composition).recordCount ≤ hoRecord n) := by
  obtain ⟨-, -, -, hhost, hmember, hbase, htop⟩ := hmeets
  exact ⟨by rw [hhost, hmember]; rfl, fun h => h.elim (Nat.not_lt.mpr hbase) (Nat.not_le.mpr htop)⟩

theorem handoffAt_query {u : State} {p : Nat} {n : Msg} (hmeets : HandoffMeets u n) (hf : n.func = 8) :
    handoffAt u (some p) n = serviceAnswer u (some p) n stOk 0 ((recOf u (hoRecord n)).word (hoWord n)) := by
  obtain ⟨hmember, hrange⟩ := handoff_guards hmeets
  obtain ⟨hfatal, hresetting, hlost, -⟩ := hmeets
  simp only [handoffAt, hfatal, hlost, hresetting, hmember, hrange, hf, Bool.false_eq_true, if_true, if_false]

/-- A handoff of a function that changes its record, with the record's generation, by whom the record's row names (R248). -/
theorem handoffAt_did {u : State} {p f : Nat} {n : Msg} (hmeets : HandoffMeets u n) (hf : n.func = f) (hchanges : f ≠ 8)
    (hfresh : ¬ (inc32 (hoGen n) = (recOf u (hoRecord n)).generation ∧ (recOf u (hoRecord n)).lastFunction = f ∧
      (recOf u (hoRecord n)).lastHost = peerHost n.peer))
    (hgen : hoGen n = (recOf u (hoRecord n)).generation)
    (hrow : handoffRow u (recOf u (hoRecord n)) n.composition f (peerHost n.peer) = some true)
    (htarget : ¬ ((f = 1 ∨ (f = 3 ∧ hoKeep n = false)) ∧ hoTarget n / 1024 = 3))
    (hrange : f = 1 → openRangeBad u n.composition n = false) :
    handoffAt u (some p) n = handoffDo u (some p) n (hoRecord n) f (peerHost n.peer) := by
  obtain ⟨hmember, hrecord⟩ := handoff_guards hmeets
  obtain ⟨hfatal, hresetting, hlost, -⟩ := hmeets
  have hopen : ¬ (f = 1 ∧ openRangeBad u n.composition n = true) := fun ⟨h1, hbad⟩ => Bool.eq_false_iff.mp (hrange h1) hbad
  have hcurrent : ¬ hoGen n ≠ (recOf u (hoRecord n)).generation := not_not.mpr hgen
  subst hf
  simp only [handoffAt, hfatal, hlost, hresetting, hmember, hrecord, hchanges, hfresh, hcurrent, hrow, Bool.not_eq_true', htarget,
    hopen, Bool.false_eq_true, if_false]

/-! ## Doorbells -/

section
variable {u : State} {p : Nat} {n : Msg} (hop : n.opcode = opDoorbell) (hallowed : doorbellRefusal u n = none)
include hop hallowed

theorem serviceAt_launch {i : Nat} (hf : n.func = 1) (hi : i = n.fld 16 8) (hstate : (itinOf u i).state = 3)
    (hcomp : itComp (itinOf u i).desc = n.composition)
    (hargs : (List.range 4).any (fun a => if itArgOn (itinOf u i).desc a then decide (itLimit (itinOf u i).desc a < launchArg n a)
      else decide (launchArg n a ≠ 0)) = false)
    (hgranted : (setBitList (itCores (itinOf u i).desc) 24).any (fun c => !coreGranted u n.composition c) = false)
    (hroom : (setBitList (itCores (itinOf u i).desc) 24).any (fun c => decide (4 ≤ (coreOf u c).queue.length)) = false) :
    serviceAt u p n =
      (let cores := setBitList (itCores (itinOf u i).desc) 24
       let q := u.compute.launchSeq
       let l : Launch := { itin := i, comp := n.composition, host := peerHost n.peer, args := n.fld 32 128 }
       let s1 := u.onCompute (fun x => { x with launchSeq := inc32 q, launches := x.launches.put q l })
       let s2 := cores.foldl (fun s c => setCore s c { coreOf s c with queue := (coreOf s c).queue ++ [q] }) s1
       let s3 := cores.foldl (fun s c => if (coreOf s c).started then s else takeNext s c (coreOf s c).queue) s2
       serviceAnswer s3 (some p) n stOk 0 q) := by
  subst hi
  have hservice : serviceAt u p n = launchAt u (some p) n := by
    simp [serviceAt, hop, hf]
  have hready : ¬ ((itinOf u (n.fld 16 8)).state ≠ 3 ∨ itComp (itinOf u (n.fld 16 8)).desc ≠ n.composition) :=
    fun h => h.elim (· hstate) (· hcomp)
  simp only [hservice, launchAt, hallowed, hready, hargs, hgranted, hroom, Bool.false_eq_true, if_false]

theorem serviceAt_count (hf : n.func = 2) :
    serviceAt u p n = serviceAnswer (if n.fld 16 8 < 24 then
      outsideSignal u n.composition (n.fld 16 8) (n.fld 24 5) (n.fld 32 16) else addErr u 0x282007 0 1) (some p) n stOk 0 0 := by
  have hservice : serviceAt u p n = countAt u (some p) n := by
    simp [serviceAt, hop, hf]
  simp only [hservice, countAt, hallowed]

end

/-! ## Management messages -/

theorem routeService_here {s : State} {p : Nat} {n : Msg} (h : ServesPair s n) : routeService s p n = serviceAt s p n := by
  obtain ⟨-, hspdm, hquarantine, hverdict, hpair, hserves⟩ := h
  rw [hpair] at hquarantine hverdict
  simp only [routeService, hspdm, hquarantine, hverdict, hpair, hserves, Bool.and_false, ne_eq, not_true_eq_false,
    Bool.false_eq_true, if_false, if_true]

theorem fabricMessage_mgmt {s : State} {p : Nat} {n : Msg} (hport : FabricPort s p) (hform : badForm n = none)
    (hop : n.opcode = opMgmt) : fabricMessage s p n = fabricRequest s p n := by
  obtain ⟨-, -, -, hpair, hfrom⟩ := hport
  have htwin : n.isTwin = false := by rw [Msg.isTwin, hop]; rfl
  have hservice : n.isAnswered = true := by rw [Msg.isAnswered, Msg.isService, hop]; exact Bool.or_true _
  simp [fabricMessage, htwin, hop, hform, hpair, hfrom, hservice]

theorem fabricRequest_mgmt {s : State} {p : Nat} {n : Msg} (hop : n.opcode = opMgmt) (hagent : peerIsAgent n.peer = true)
    (hheld : classHeld s p n.tc = false) : fabricRequest s p n = routeService s p n := by
  have hlearn : learnVia s p n = s := if_pos hagent
  have hservice : n.isAddressed = false := by rw [Msg.isAddressed, Msg.isRead, hop]; rfl
  simp only [fabricRequest, hlearn, hheld, homeHeld, fabricGo, hservice, Bool.false_and, Bool.or_self, Bool.and_false,
    Bool.false_eq_true, if_false]

theorem serviceAt_mgmt {u : State} {p : Nat} {n : Msg} (hop : n.opcode = opMgmt) : serviceAt u p n = mgmtMeet u p n := by
  simp [serviceAt, hop]

/-- A management message of another ZX964 for this one, in a class that holds nothing, meets the management budget (R274). -/
theorem exec_mgmt {s t : State} {c : Instr} {p f : Nat} {m : Msg} (hc : c.carried = some (p, m.withFunc opMgmt f))
    (hport : FabricPort s p) (hform : badForm (m.withFunc opMgmt f).heard = none)
    (hagent : peerIsAgent (m.withFunc opMgmt f).heard.peer = true) (hserves : ServesPair s (m.withFunc opMgmt f).heard)
    (hheld : classHeld s p (m.withFunc opMgmt f).heard.tc = false) (heff : mgmtMeet s p (m.withFunc opMgmt f).heard = t) :
    exec c s = .next (after s t) :=
  exec_fabric hc hport ((fabricMessage_mgmt hport hform rfl).trans ((fabricRequest_mgmt rfl hagent hheld).trans
    ((routeService_here hserves).trans ((serviceAt_mgmt rfl).trans heff))))

theorem mgmtMeet_free {s : State} {p : Nat} {n : Msg} (hempty : s.tm.mgmtWait = [])
    (hroom : hasBudget s 1 (portQuadrant p) 6 (n.slotCount + 1) = true) :
    mgmtMeet s p n = mgmtAt (charge s 1 (portQuadrant p) 6 (n.slotCount + 1)) p n := by
  refine if_pos ?_
  rw [hempty]
  exact hroom

theorem mgmtMeet_waits {s : State} {p : Nat} {n : Msg}
    (h : s.tm.mgmtWait ≠ [] ∨ hasBudget s 1 (portQuadrant p) 6 (n.slotCount + 1) = false) :
    mgmtMeet s p n = s.onTm (fun t => { t with mgmtWait := t.mgmtWait ++ [(p, n)] }) := by
  refine if_neg fun hfree => ?_
  obtain ⟨hempty, hroom⟩ := Bool.and_eq_true_iff.mp hfree
  exact h.elim (· (List.isEmpty_iff.mp hempty)) fun hfull => Bool.eq_false_iff.mp hfull hroom

theorem mgmtAt_notice {u : State} {p : Nat} {n : Msg} (hf : n.func = 3) (hagent : peerIsAgent n.peer = true) :
    mgmtAt u p n = serviceAnswer (loseHost u (n.fld 80 10) 2) (some p) n stOk 0 0 :=
  (if_pos hf).trans (if_pos hagent)

theorem mgmtAt_spdm {u : State} {p : Nat} {n : Msg} (hf : n.func = 4) (hsome : mgLength n ≠ 0) (hlength : mgLength n ≤ 128)
    (hsteward : u.power.steward = 2)
    (hfree : ¬ (u.security.holdoff.has p = true ∧ u.security.sessions.has p = false)) :
    mgmtAt u p n = spdmMoves (deliverResp u
      (spdmAnswer u n (Config.spdmRespond (spdmView u p) (u.security.sessions.getD p 0) (spdmBytes n))) (some p))
      p (spdmBytes n) := by
  have hnotice : n.func ≠ 3 := by rw [hf]; decide
  have hfits : ¬ (mgLength n = 0 ∨ 128 < mgLength n) := fun h => h.elim hsome (Nat.not_lt.mpr hlength)
  have hopen : ¬ (u.security.holdoff.has p = true ∧ (!u.security.sessions.has p) = true) := by
    rwa [Bool.not_eq_true']
  calc mgmtAt u p n = spdmRequest u (some p) n := (if_neg hnotice).trans ((if_neg hfits).trans (if_pos hf))
    _ = _ := (if_neg (not_not.mpr hsteward)).trans (if_neg hopen)

/-- Settles O49. -/
theorem servicesRun : Obligations.ServicesRun := by
  have hfunc (m : Msg) {op f : Nat} (hop : op = opSearch ∨ op = opHandoff ∨ op = opDoorbell ∨ op = opMgmt) (hf : f < 16) :
      (m.withFunc op f).heard.func = f := func_heard m op f hop hf
  refine fun s p m => ⟨fun n u hn hu hserves hallowed hfree => ?_, fun n u hn hu hserves hallowed hfree => ?_,
    fun n u hn hu hserves hallowed => ?_, fun n u hn hu hserves hallowed => ?_,
    fun f n u hlow hhigh hn hu hserves hfatal hresetting hlost hhost hmember hbase htop hfresh hgen hrow htarget hrange => ?_,
    fun n u hn hu hserves hfatal hresetting hlost hhost hmember hbase htop => ?_,
    fun n u i hn hu hserves hallowed hi hstate hcomp hargs hgranted hroom => ?_,
    fun n u hn hu hserves hallowed => ⟨fun hcore => ?_, fun hcore => ?_⟩,
    fun f n hn hport hform hagent hserves hheld => ⟨fun hempty hroom => ⟨fun hf => ?_, fun hf hsome hlength hsteward hfree => ?_⟩,
      fun hfull => ⟨fun hf => ?_, fun hf => ?_⟩⟩⟩
  · subst hn hu
    exact exec_service rfl (.inl rfl) hserves (serviceAt_lookup rfl hallowed (hfunc m (.inl rfl) (by decide)) hfree)
  · subst hn hu
    exact exec_service rfl (.inl rfl) hserves (serviceAt_walk rfl hallowed (hfunc m (.inl rfl) (by decide)) hfree)
  · subst hn hu
    exact exec_service rfl (.inl rfl) hserves (serviceAt_write rfl hallowed (hfunc m (.inl rfl) (by decide)))
  · subst hn hu
    exact exec_service rfl (.inl rfl) hserves (serviceAt_clear rfl hallowed (hfunc m (.inl rfl) (by decide)))
  · subst hn hu
    have hdid {c : Instr} (hc : c.carried = some (p, m.withFunc opHandoff f)) :=
      exec_service hc (.inr (.inl rfl)) hserves ((serviceAt_handoff rfl).trans
        (handoffAt_did ⟨hfatal, hresetting, hlost, hhost, hmember, hbase, htop⟩ (hfunc m (.inr (.inl rfl)) (by omega)) (by omega)
          hfresh hgen hrow htarget hrange))
    refine ⟨?_, ?_, ?_, ?_, ?_, ?_, ?_⟩ <;> rintro rfl <;> exact hdid rfl
  · subst hn hu
    exact exec_service rfl (.inr (.inl rfl)) hserves ((serviceAt_handoff rfl).trans
      (handoffAt_query ⟨hfatal, hresetting, hlost, hhost, hmember, hbase, htop⟩ (hfunc m (.inr (.inl rfl)) (by decide))))
  · subst hn hu
    exact exec_service rfl (.inr (.inr rfl)) hserves (serviceAt_launch rfl hallowed (hfunc m (.inr (.inr (.inl rfl))) (by decide))
      hi hstate hcomp hargs hgranted hroom)
  · subst hn hu
    exact exec_service rfl (.inr (.inr rfl)) hserves ((serviceAt_count rfl hallowed
      (hfunc m (.inr (.inr (.inl rfl))) (by decide))).trans (by rw [if_pos hcore]))
  · subst hn hu
    exact exec_service rfl (.inr (.inr rfl)) hserves ((serviceAt_count rfl hallowed
      (hfunc m (.inr (.inr (.inl rfl))) (by decide))).trans (by rw [if_neg (Nat.not_lt.mpr hcore)]))
  · subst hf hn
    exact exec_mgmt rfl hport hform hagent hserves hheld ((mgmtMeet_free hempty hroom).trans
      (mgmtAt_notice (hfunc m (.inr (.inr (.inr rfl))) (by decide)) hagent))
  · subst hf hn
    exact exec_mgmt rfl hport hform hagent hserves hheld ((mgmtMeet_free hempty hroom).trans
      (mgmtAt_spdm (hfunc m (.inr (.inr (.inr rfl))) (by decide)) hsome hlength hsteward hfree))
  · subst hf hn
    exact exec_mgmt rfl hport hform hagent hserves hheld (mgmtMeet_waits hfull)
  · subst hf hn
    exact exec_mgmt rfl hport hform hagent hserves hheld (mgmtMeet_waits hfull)

end Sys2Proof.Proofs.Services
